-- ==== Sys2Proof/Word.lean ====
section
/-! DEFINITION. Sys2Proof/Word.lean: the byte of the supervisory link and of the configuration memory, and the fixed
numberings of the intake (00_scope.md, section 0.2). Everything a test could show wrong (rounding, byte order, sign
extension) stands in Decode.lean and under Machine/. -/

namespace Sys2Proof

/-- One byte of a link frame or of the configuration memory. -/
abbrev Byte := BitVec 8

/-- Level channel 0..11, numbered as the manual numbers it. -/
abbrev ChannelId := Fin 12

/-- Screen 1..6, held as 0..5. -/
abbrev ScreenId := Fin 6

/-- Pump 1..8, held as 0..7. -/
abbrev PumpId := Fin 8

/-- Bay 1..3, held as 0..2. -/
abbrev BayId := Fin 3

/-- Alarm band 1..8, held as 0..7. -/
abbrev BandId := Fin 8

/-- Prediction bank 1 or 2, held as 0 or 1. -/
abbrev BankId := Fin 2

/-- Slot 1..4 of the deferred request table, held as 0..3. -/
abbrev SlotId := Fin 4

/-- Shed scope: 0..2 are bays 1..3, 3 is the device (R146). -/
abbrev ScopeId := Fin 4

end Sys2Proof
end

