-- ==== Sys2Proof/Config.lean ====
section
/-! DEFINITION. Sys2Proof/Config.lean: what the manual leaves open. -/

namespace Sys2Proof.Config

/-- The free value (DESIGN CHOICE, notes/assumptions/3.md): nothing is known of it, so a claim proved of the model holds whatever it
is. A state carries a counter of the draws made so far (`State.draws`), and each draw applies `free` to that counter.
It stands for the order in which readers and events that fall together are taken ("either may be taken first"), for
the counts of a scan that no command gives, and for how far an abandoned save had come. -/
opaque free : Nat → Nat

end Sys2Proof.Config
end

