-- ==== Sys2Proof/Syntax.lean ====
section
/-! DEFINITION. Sys2Proof/Syntax.lean: the commands of the block, one constructor of `Instr` for each row of
spec/opcode_table.json. A row is an event at a pin, the expiry of a timer, an end of an operation, a link event, or the
taking of a request by the Supervisory Link Port. A request's operands are the numbers its payload carries, before
any check or clamp; `Form.mismatch` is a payload whose length or form does not match its kind (R163, step 3). -/

namespace Sys2Proof

/-- What a request's payload gives: its arguments, or a length or form that does not match its kind (R163, R166). -/
inductive Form (α : Type) where
  | args (a : α)
  | mismatch
  deriving DecidableEq, Repr

/-- One point of a tide table: an intake time and a level (R31). -/
structure TidePoint where
  time : Nat
  level : Int
  deriving DecidableEq, Repr

/-- A frame as it arrives after its start byte; LEN is the length of the payload (R158). -/
structure Frame where
  kind : Byte
  tag : Byte
  payload : List Byte
  crc : BitVec 16
  deriving DecidableEq, Repr

/-- How a configuration save ends at the memory (R195). -/
inductive SaveEnd where
  /-- The memory answered every transfer, and these bytes were read back. -/
  | readBack (bytes : List Byte)
  /-- The memory failed to answer after this many byte writes. -/
  | noAnswer (writes : Nat)
  deriving DecidableEq, Repr

/-- How the configuration loader finishes: whether the memory answered it (R193), and the counts of the first scan (R1). -/
structure LoaderEnd where
  answers : Bool
  samples : Vector Nat 12
  deriving DecidableEq, Repr

/-- SET CHANNEL (R3): the settings the selector names, as sent. -/
structure ChannelArgs where
  channel : Nat
  enabled : Option Nat := none
  zero : Option Nat := none
  gain : Option Nat := none
  elevation : Option Int := none
  shift : Option Nat := none
  deriving DecidableEq, Repr

/-- SET SEA (R6). -/
structure SeaArgs where
  tolerance : Option Nat := none
  lostLimit : Option Nat := none
  deriving DecidableEq, Repr

/-- SET BAND in its entry form (R48): every setting field of R47, as sent. -/
structure BandArgs where
  band : Nat
  enabled : Nat
  quantity : Nat
  low : Int
  high : Int
  rank : Nat
  hysteresis : Nat
  cap : Nat
  mode : Nat
  noticeClass : Nat
  deriving DecidableEq, Repr

/-- SET SCREEN (R96). -/
structure ScreenArgs where
  screen : Nat
  washStart : Option Nat := none
  high : Option Nat := none
  blind : Option Nat := none
  defaultPasses : Option Nat := none
  deriving DecidableEq, Repr

/-- SET WASH TIMING (R68, R97), in the order of R166. -/
structure WashTimingArgs where
  passTimeout : Option Nat := none
  indexGuard : Option Nat := none
  washInterval : Option Nat := none
  fallbackInterval : Option Nat := none
  stormPasses : Option Nat := none
  sluiceTime : Option Nat := none
  purgeInterval : Option Nat := none
  purgeTime : Option Nat := none
  deferral : Option Nat := none
  lossDelay : Option Nat := none
  deriving DecidableEq, Repr

/-- SET PUMP (R116). -/
structure PumpArgs where
  pump : Nat
  cls : Option Nat := none
  inlet : Option Int := none
  submergence : Option Nat := none
  deriving DecidableEq, Repr

/-- SET PUMP TIMING (R117). -/
structure PumpTimingArgs where
  recoveryLarge : Option Nat := none
  recoverySmall : Option Nat := none
  startTimeout : Option Nat := none
  stopTimeout : Option Nat := none
  startSpacing : Option Nat := none
  startMargin : Option Nat := none
  tripDelay : Option Nat := none
  shedDelay : Option Nat := none
  pumpsPerScreen : Option Nat := none
  rotationInterval : Option Nat := none
  fallbackDemand : Option Nat := none
  deriving DecidableEq, Repr

/-- SET LINK (R170). -/
structure LinkArgs where
  rate : Option Nat := none
  threshold : Option Nat := none
  batchTimeout : Option Nat := none
  supervision : Option Nat := none
  discard : Option Nat := none
  deriving DecidableEq, Repr

/-- The commands: one constructor per row of spec/opcode_table.json. -/
inductive Instr where
  /-- POWER_ON (R192); the operand is the level of the CFGSRC strap. -/
  | powerOn (cfgsrc : Bool)
  /-- RESET_N_ASSERTED (R192). -/
  | resetNAsserted
  /-- RESET_N_RELEASED (R192), with the level of CFGSRC. -/
  | resetNReleased (cfgsrc : Bool)
  /-- LOADING_END (R192..R194); whether the serial memory answered every transfer, and the twelve inputs' counts in the
first scan, which starts at once (R1). -/
  | loadingEnd (e : LoaderEnd)
  /-- SCAN_TIMER_EXPIRY (R1): the twelve inputs' counts, and how many channels are dealt with in this step (R15). -/
  | scanTimerExpiry (samples : Vector Nat 12) (dealt : Nat)
  /-- SCAN_EVENT (R22). -/
  | scanEvent
  /-- TREND_TIMER_EXPIRY (R26). -/
  | trendTimerExpiry
  /-- REMINDER_TIMER_EXPIRY (R57). -/
  | reminderTimerExpiry
  /-- INTAKE_TIME_COUNT (R171). -/
  | intakeTimeCount
  /-- INDEX_PULSE on SIDX_n (R71). -/
  | indexPulse (n : ScreenId)
  /-- SJAM_RISING (R78, R92). -/
  | sjamRising (n : ScreenId)
  /-- SJAM_FALLING (R104). -/
  | sjamFalling (n : ScreenId)
  /-- PASS_TIMEOUT (R75). -/
  | passTimeout (n : ScreenId)
  /-- HDOK_CHANGE (R108), with the new level. -/
  | hdokChange (level : Bool)
  /-- HEADER_LOSS_DELAY_EXPIRY (R108). -/
  | headerLossDelayExpiry
  /-- SLUICE_RUN_END (R109). -/
  | sluiceRunEnd
  /-- HEADER_PURGE_TIMER_EXPIRY (R105). -/
  | headerPurgeTimerExpiry
  /-- HEADER_PURGE_COMPLETE (R106). -/
  | headerPurgeComplete
  /-- PURGE_OVERDUE (R107). -/
  | purgeOverdue
  /-- PFB_RISING (R120). -/
  | pfbRising (p : PumpId)
  /-- PFB_FALLING (R121, R122). -/
  | pfbFalling (p : PumpId)
  /-- PTRP_ACTIVE (R121), with the level PTRP_n takes: active, or back to inactive (DESIGN CHOICE,
notes/assumptions/6.md). -/
  | ptrpActive (p : PumpId) (level : Bool)
  /-- START_TIMEOUT (R120). -/
  | startTimeout (p : PumpId)
  /-- STOP_TIMEOUT (R122). -/
  | stopTimeout (p : PumpId)
  /-- RECOVERY_TIMER_EXPIRY (R123). -/
  | recoveryTimerExpiry (p : PumpId)
  /-- START_SPACING_EXPIRY (R129). -/
  | startSpacingExpiry
  /-- ROTATION_TIMER_EXPIRY (R135). -/
  | rotationTimerExpiry
  /-- SHED_TIMER_EXPIRY (R146, R147). -/
  | shedTimerExpiry (scope : ScopeId)
  /-- LOW_LEVEL_STOP (R150): the low-margin period of the pump reaches the trip delay. -/
  | lowLevelStop (p : PumpId)
  /-- DISCARD_TIMER_EXPIRY (R181). -/
  | discardTimerExpiry (slot : SlotId)
  /-- SUPERVISION_TIMER_EXPIRY (R189). -/
  | supervisionTimerExpiry
  /-- SAVE_CONFIG_END (R195). -/
  | saveConfigEnd (e : SaveEnd)
  /-- FRAME_RECEIVED (R161, R162): the last byte of a frame in collection. -/
  | frameReceived (f : Frame)
  /-- FRAMING_ERROR (R161). -/
  | framingError
  /-- RX_GAP_TIMEOUT (R161). -/
  | rxGapTimeout
  /-- LEN_ABOVE_120 (R161). -/
  | lenAbove120
  /-- REPLY_SENT (R167, R172), with the level of CFGSRC should the start-up of SOFT RESET FULL begin. -/
  | replySent (cfgsrc : Bool)
  /-- BATCH_SENT (R186). -/
  | batchSent
  /-- NOTICE_BATCH (R186). -/
  | noticeBatch
  /-- QUIET_TIME_EXPIRY (R185). -/
  | quietTimeExpiry
  /-- UNKNOWN_KIND (R163): a request of this KIND, which names no request. -/
  | unknownKind (kind : Byte)
  /-- GET STATUS (R168). -/
  | getStatus (a : Form Unit)
  /-- GET LEVELS (R23): the part. -/
  | getLevels (a : Form Nat)
  /-- GET TIDE, summary form (R45). -/
  | getTideSummary (a : Form Unit)
  /-- GET TIDE, point form (R45): bank and starting index. -/
  | getTidePoints (a : Form (Nat × Nat))
  /-- GET CONDITION (R64). -/
  | getCondition (a : Form Unit)
  /-- GET SCREEN n (R91). -/
  | getScreen (a : Form Nat)
  /-- GET PUMP n (R137). -/
  | getPump (a : Form Nat)
  /-- GET NOTICES (R187). -/
  | getNotices (a : Form Unit)
  /-- GET CONFIG (R169): section and index. -/
  | getConfig (a : Form (Nat × Nat))
  /-- SET CHANNEL (R3, R4). -/
  | setChannel (a : Form ChannelArgs)
  /-- SET DENSITY (R6). -/
  | setDensity (a : Form Nat)
  /-- SET SCAN (R2). -/
  | setScan (a : Form Nat)
  /-- SET SEA (R6). -/
  | setSea (a : Form SeaArgs)
  /-- SET TREND (R25). -/
  | setTrend (a : Form Nat)
  /-- SET BAND, entry form (R48, R49). -/
  | setBandEntry (a : Form BandArgs)
  /-- SET BAND, reminder form (R56). -/
  | setBandReminder (a : Form Nat)
  /-- SET SCREEN (R96). -/
  | setScreen (a : Form ScreenArgs)
  /-- SET WASH TIMING (R68, R97). -/
  | setWashTiming (a : Form WashTimingArgs)
  /-- SET PUMP (R116). -/
  | setPump (a : Form PumpArgs)
  /-- SET PUMP TIMING (R117). -/
  | setPumpTiming (a : Form PumpTimingArgs)
  /-- SET DUTY ORDER (R134): the eight numbers. -/
  | setDutyOrder (a : Form (List Nat))
  /-- SET DUTY MODE (R136): AUTO 0, MANUAL 1. -/
  | setDutyMode (a : Form Nat)
  /-- SET DEMAND (R140). -/
  | setDemand (a : Form Nat)
  /-- SET LINK (R170). -/
  | setLink (a : Form LinkArgs)
  /-- SET CLOCK, absolute form (R171). -/
  | setClockAbsolute (a : Form Nat)
  /-- SET CLOCK, step form (R171). -/
  | setClockStep (a : Form Int)
  /-- TIDE POINTS (R32, R33). -/
  | tidePoints (a : Form (List TidePoint))
  /-- TIDE COMMIT NOW (R35). -/
  | tideCommitNow (a : Form Unit)
  /-- TIDE SEAL (R34). -/
  | tideSeal (a : Form Unit)
  /-- TIDE CLEAR (R36). -/
  | tideClear (a : Form Unit)
  /-- STOP WASH n (R79). -/
  | stopWash (a : Form Nat)
  /-- CLEAR SCREEN n (R93). -/
  | clearScreen (a : Form Nat)
  /-- SET SERVICE (R80): screen, out 0 or in 1. -/
  | setService (a : Form (Nat × Nat))
  /-- ENABLE PUMP n (R126). -/
  | enablePump (a : Form Nat)
  /-- DISABLE PUMP n (R126). -/
  | disablePump (a : Form Nat)
  /-- CLEAR PUMP n (R125). -/
  | clearPump (a : Form Nat)
  /-- RESET HOURS n (R127). -/
  | resetHours (a : Form Nat)
  /-- ACK BAND (R55): a band, or 0 for all. -/
  | ackBand (a : Form Nat)
  /-- RESUME (R191). -/
  | resume (a : Form Unit)
  /-- SOFT RESET LINK (R172). -/
  | softResetLink (a : Form Unit)
  /-- SOFT RESET FULL (R172). -/
  | softResetFull (a : Form Unit)
  /-- WASH SCREEN n (R81): screen and passes. -/
  | washScreen (a : Form (Nat × Nat))
  /-- START PUMP n (R132). -/
  | startPump (a : Form Nat)
  /-- STOP PUMP n (R133): pump and FORCE flag, clear 0 or set 1. -/
  | stopPump (a : Form (Nat × Nat))
  /-- SAVE CONFIG (R178, R195). -/
  | saveConfig (a : Form Unit)
  /-- FRAME_START (R161). -/
  | frameStart
  deriving DecidableEq, Repr

end Sys2Proof
end

