-- ==== Sys2Proof/Decode.lean ====
section
/-! DEFINITION. Sys2Proof/Decode.lean: the byte layouts of the link (Chapter 8): multi-byte fields high byte first,
signed fields in two's complement (DEDUCED, notes/assumptions/13.md); the CRC; the request a KIND and payload spell, and the payload a request is sent
with; and `decodeTableWord`, over the rows of the table that give bits (none does). -/

namespace Sys2Proof

/-! ## Fields -/

/-- Encoding of one field (R166). -/
inductive Width where
  | u8 | u16 | s16 | u32 | s32
  deriving DecidableEq, Repr

/-- How many bytes a field takes. -/
def Width.bytes : Width → Nat
  | .u8 => 1
  | .u16 | .s16 => 2
  | .u32 | .s32 => 4

/-- The low `n` bytes of a number, high byte first; a negative number in two's complement. -/
def bytesOf : Nat → Int → List Byte
  | 0, _ => []
  | n + 1, v => BitVec.ofInt 8 (v / (256 ^ n : Nat)) :: bytesOf n v

/-- The unsigned number that bytes spell, high byte first. -/
def numberOf (bs : List Byte) : Nat :=
  bs.foldl (fun acc b => acc * 256 + b.toNat) 0

/-- A field as it is sent. -/
def encodeField (w : Width) (v : Int) : List Byte :=
  bytesOf w.bytes v

/-- The value of a field's bytes. -/
def fieldValue (w : Width) (bs : List Byte) : Int :=
  match w with
  | .u8 | .u16 | .u32 => numberOf bs
  | .s16 => if numberOf bs < 32768 then numberOf bs else (numberOf bs : Int) - 65536
  | .s32 => if numberOf bs < 2147483648 then numberOf bs else (numberOf bs : Int) - 4294967296

/-- Reads one field from the front of some bytes. -/
def takeField (w : Width) (bs : List Byte) : Option (Int × List Byte) :=
  if w.bytes ≤ bs.length then some (fieldValue w (bs.take w.bytes), bs.drop w.bytes) else none

/-- Fields sent one after another. -/
def encodeFields (fs : List (Width × Int)) : List Byte :=
  fs.flatMap fun f => encodeField f.1 f.2

/-- Reads fields from the front of some bytes, with what is left. -/
def takeFields : List Width → List Byte → Option (List Int × List Byte)
  | [], bs => some ([], bs)
  | w :: ws, bs =>
    match takeField w bs with
    | none => none
    | some (v, rest) =>
      match takeFields ws rest with
      | none => none
      | some (vs, left) => some (v :: vs, left)

/-- Reads fields that take up the whole payload. -/
def readFields (ws : List Width) (bs : List Byte) : Option (List Int) :=
  match takeFields ws bs with
  | some (vs, []) => some vs
  | _ => none

/-- Reads the values a selector names: its bit 0 names the first setting of the owning table (R166). A width `none`
is a position with no setting, refused when named. -/
def takeSelected : List (Option Width) → Nat → List Byte → Option (List (Option Int) × List Byte)
  | [], sel, bs => if sel = 0 then some ([], bs) else none
  | w :: ws, sel, bs =>
    if sel % 2 = 0 then
      match takeSelected ws (sel / 2) bs with
      | none => none
      | some (vs, left) => some (none :: vs, left)
    else
      match w with
      | none => none
      | some w =>
        match takeField w bs with
        | none => none
        | some (v, rest) =>
          match takeSelected ws (sel / 2) rest with
          | none => none
          | some (vs, left) => some (some v :: vs, left)

/-- Reads a selector of one or two bytes and the values it names, which take up the rest of the payload. -/
def readSelected (selector : Width) (ws : List (Option Width)) (bs : List Byte) : Option (List (Option Int)) :=
  match takeField selector bs with
  | none => none
  | some (sel, rest) =>
    match takeSelected ws sel.toNat rest with
    | some (vs, []) => some vs
    | _ => none

/-- The selector that names the settings given. -/
def selectorOf : List (Option Int) → Nat
  | [] => 0
  | v :: vs => (if v.isSome then 1 else 0) + 2 * selectorOf vs

/-- The values given, each in its width. -/
def encodeSelected : List (Option Width) → List (Option Int) → List Byte
  | some w :: ws, some v :: vs => encodeField w v ++ encodeSelected ws vs
  | _ :: ws, _ :: vs => encodeSelected ws vs
  | _, _ => []

/-! ## CRC (R158) -/

/-- One bit of the CRC: polynomial 0x1021, most significant bit first. -/
def crcBit (c : BitVec 16) : BitVec 16 :=
  if c.msb then (c <<< 1) ^^^ 0x1021#16 else c <<< 1

/-- One byte of the CRC. -/
def crcByte (c : BitVec 16) (b : Byte) : BitVec 16 :=
  let c := c ^^^ (b.setWidth 16 <<< 8)
  crcBit (crcBit (crcBit (crcBit (crcBit (crcBit (crcBit (crcBit c)))))))

/-- CRC-16 of R158: initial value 0xFFFF, not reflected, no final value. -/
def crc16 (bs : List Byte) : BitVec 16 :=
  bs.foldl crcByte 0xFFFF#16

/-- The bytes of a frame that its CRC covers (R158). -/
def Frame.covered (f : Frame) : List Byte :=
  BitVec.ofNat 8 f.payload.length :: f.kind :: f.tag :: f.payload

/-- Whether the CRC of a received frame matches (R161). -/
def Frame.good (f : Frame) : Bool :=
  crc16 f.covered = f.crc

/-- The bytes of a frame on the line (R158). -/
def frameBytes (kind tag : Byte) (payload : List Byte) : List Byte :=
  let body := BitVec.ofNat 8 payload.length :: kind :: tag :: payload
  0xA5#8 :: body ++ encodeField .u16 (crc16 body).toNat

/-! ## Requests (the catalogue of section 8.5, the encodings of R166) -/

/-- A payload of no bytes. -/
def formNone (bs : List Byte) : Form Unit :=
  match bs with
  | [] => .args ()
  | _ => .mismatch

/-- A payload of one unsigned field. -/
def formNat (w : Width) (bs : List Byte) : Form Nat :=
  match readFields [w] bs with
  | some [a] => .args a.toNat
  | _ => .mismatch

/-- A payload of two unsigned fields. -/
def formPair (v w : Width) (bs : List Byte) : Form (Nat × Nat) :=
  match readFields [v, w] bs with
  | some [a, b] => .args (a.toNat, b.toNat)
  | _ => .mismatch

/-- A setting read as an unsigned number. -/
def unsigned (v : Option Int) : Option Nat :=
  v.map Int.toNat

/-- Widths of the channel settings in the order of R3. -/
def channelWidths : List (Option Width) :=
  [some .u8, some .u16, some .u16, some .s16, some .u16]

/-- SET CHANNEL: channel, selector, values. -/
def formChannel (bs : List Byte) : Form ChannelArgs :=
  match takeField .u8 bs with
  | none => .mismatch
  | some (n, rest) =>
    match readSelected .u8 channelWidths rest with
    | some [en, z, g, e, k] => .args ⟨n.toNat, unsigned en, unsigned z, unsigned g, e, unsigned k⟩
    | _ => .mismatch

/-- Positions of the owning table R6; SET SEA gives neither of the first two, density and scan interval (DEDUCED,
notes/assumptions/13.md). -/
def seaWidths : List (Option Width) :=
  [none, none, some .u16, some .u16]

/-- SET SEA: selector, tolerance, lost limit. -/
def formSea (bs : List Byte) : Form SeaArgs :=
  match readSelected .u8 seaWidths bs with
  | some [_, _, t, l] => .args ⟨unsigned t, unsigned l⟩
  | _ => .mismatch

/-- Widths of a band's settings in the order of R47. -/
def bandWidths : List Width :=
  [.u8, .u8, .s16, .s16, .u8, .u16, .u8, .u8, .u8]

/-- SET BAND in entry form: band, then every setting field of R47. -/
def formBand (bs : List Byte) : Form BandArgs :=
  match readFields (.u8 :: bandWidths) bs with
  | some [b, en, q, lo, hi, r, h, c, m, k] =>
    .args ⟨b.toNat, en.toNat, q.toNat, lo, hi, r.toNat, h.toNat, c.toNat, m.toNat, k.toNat⟩
  | _ => .mismatch

/-- SET BAND in reminder form: band 0, then the reminder interval (R56). -/
def formReminder (bs : List Byte) : Form Nat :=
  match readFields [.u8, .u16] bs with
  | some [_, i] => .args i.toNat
  | _ => .mismatch

/-- SET SCREEN: screen, selector, values. -/
def formScreen (bs : List Byte) : Form ScreenArgs :=
  match takeField .u8 bs with
  | none => .mismatch
  | some (n, rest) =>
    match readSelected .u8 [some .u16, some .u16, some .u16, some .u16] rest with
    | some [w, h, b, p] => .args ⟨n.toNat, unsigned w, unsigned h, unsigned b, unsigned p⟩
    | _ => .mismatch

/-- SET WASH TIMING: a selector of two bytes, since it has more than eight settings, and values. -/
def formWashTiming (bs : List Byte) : Form WashTimingArgs :=
  match readSelected .u16 (List.replicate 10 (some .u16)) bs with
  | some [a, b, c, d, e, f, g, h, i, j] =>
    .args ⟨unsigned a, unsigned b, unsigned c, unsigned d, unsigned e, unsigned f, unsigned g, unsigned h, unsigned i,
      unsigned j⟩
  | _ => .mismatch

/-- Positions of the owning table R116; SET PUMP does not give the first, enabled (DEDUCED,
notes/assumptions/13.md). -/
def pumpWidths : List (Option Width) :=
  [none, some .u8, some .s16, some .u16]

/-- SET PUMP: pump, selector, values. -/
def formPump (bs : List Byte) : Form PumpArgs :=
  match takeField .u8 bs with
  | none => .mismatch
  | some (n, rest) =>
    match readSelected .u8 pumpWidths rest with
    | some [_, c, e, m] => .args ⟨n.toNat, unsigned c, e, unsigned m⟩
    | _ => .mismatch

/-- SET PUMP TIMING: a selector of two bytes and values. -/
def formPumpTiming (bs : List Byte) : Form PumpTimingArgs :=
  match readSelected .u16 (List.replicate 11 (some .u16)) bs with
  | some [a, b, c, d, e, f, g, h, i, j, k] =>
    .args ⟨unsigned a, unsigned b, unsigned c, unsigned d, unsigned e, unsigned f, unsigned g, unsigned h, unsigned i,
      unsigned j, unsigned k⟩
  | _ => .mismatch

/-- SET DUTY ORDER: eight pump numbers. -/
def formOrder (bs : List Byte) : Form (List Nat) :=
  match readFields (List.replicate 8 .u8) bs with
  | some vs => .args (vs.map Int.toNat)
  | none => .mismatch

/-- Widths of the link settings in the order of R170. -/
def linkWidths : List (Option Width) :=
  [some .u8, some .u8, some .u16, some .u16, some .u16]

/-- SET LINK: selector, values. -/
def formLink (bs : List Byte) : Form LinkArgs :=
  match readSelected .u8 linkWidths bs with
  | some [r, t, b, s, d] => .args ⟨unsigned r, unsigned t, unsigned b, unsigned s, unsigned d⟩
  | _ => .mismatch

/-- Reads `n` tide points of six bytes each. -/
def takePoints : Nat → List Byte → Option (List TidePoint × List Byte)
  | 0, bs => some ([], bs)
  | n + 1, bs =>
    match takeFields [.u32, .s16] bs with
    | some ([t, l], rest) =>
      match takePoints n rest with
      | some (ps, left) => some (⟨t.toNat, l⟩ :: ps, left)
      | none => none
    | _ => none

/-- TIDE POINTS: a count byte and that many points. -/
def formPoints (bs : List Byte) : Form (List TidePoint) :=
  match takeField .u8 bs with
  | none => .mismatch
  | some (n, rest) =>
    match takePoints n.toNat rest with
    | some (ps, []) => .args ps
    | _ => .mismatch

/-- GET TIDE: form summary 0, or point 1 with bank and index; another form is a payload that does not match. -/
def decodeTide (bs : List Byte) : Instr :=
  match bs with
  | 0x01#8 :: rest => .getTidePoints (formPair .u8 .u8 rest)
  | 0x00#8 :: rest => .getTideSummary (formNone rest)
  | _ => .getTideSummary .mismatch

/-- SET BAND: band 0 selects the reminder form (R48). -/
def decodeBand (bs : List Byte) : Instr :=
  match bs with
  | 0x00#8 :: _ => .setBandReminder (formReminder bs)
  | _ => .setBandEntry (formBand bs)

/-- SET CLOCK: form absolute 0 with a time, or step 1 with a signed offset. -/
def decodeClock (bs : List Byte) : Instr :=
  match bs with
  | 0x00#8 :: rest => .setClockAbsolute (formNat .u32 rest)
  | 0x01#8 :: rest =>
    match readFields [.s32] rest with
    | some [d] => .setClockStep (.args d)
    | _ => .setClockStep .mismatch
  | _ => .setClockAbsolute .mismatch

/-- SOFT RESET: LINK 0 or FULL 1; any other value is refused (R172). -/
def decodeReset (bs : List Byte) : Instr :=
  match bs with
  | 0x00#8 :: rest => .softResetLink (formNone rest)
  | 0x01#8 :: rest => .softResetFull (formNone rest)
  | _ => .softResetLink .mismatch

/-- The request that a KIND and a payload spell: the catalogue of section 8.5; any other KIND names no request. -/
def decodeRequest (kind : Byte) (bs : List Byte) : Instr :=
  match kind with
  | 0x01#8 => .getStatus (formNone bs)
  | 0x02#8 => .getLevels (formNat .u8 bs)
  | 0x03#8 => decodeTide bs
  | 0x04#8 => .getCondition (formNone bs)
  | 0x05#8 => .getScreen (formNat .u8 bs)
  | 0x06#8 => .getPump (formNat .u8 bs)
  | 0x07#8 => .getNotices (formNone bs)
  | 0x08#8 => .getConfig (formPair .u8 .u8 bs)
  | 0x10#8 => .setChannel (formChannel bs)
  | 0x11#8 => .setDensity (formNat .u16 bs)
  | 0x12#8 => .setScan (formNat .u16 bs)
  | 0x13#8 => .setSea (formSea bs)
  | 0x14#8 => .setTrend (formNat .u16 bs)
  | 0x15#8 => decodeBand bs
  | 0x16#8 => .setScreen (formScreen bs)
  | 0x17#8 => .setWashTiming (formWashTiming bs)
  | 0x18#8 => .setPump (formPump bs)
  | 0x19#8 => .setPumpTiming (formPumpTiming bs)
  | 0x1A#8 => .setDutyOrder (formOrder bs)
  | 0x1B#8 => .setDutyMode (formNat .u8 bs)
  | 0x1C#8 => .setDemand (formNat .u16 bs)
  | 0x1D#8 => .setLink (formLink bs)
  | 0x1E#8 => decodeClock bs
  | 0x20#8 => .tidePoints (formPoints bs)
  | 0x21#8 => .tideCommitNow (formNone bs)
  | 0x22#8 => .tideSeal (formNone bs)
  | 0x23#8 => .tideClear (formNone bs)
  | 0x30#8 => .stopWash (formNat .u8 bs)
  | 0x31#8 => .clearScreen (formNat .u8 bs)
  | 0x32#8 => .setService (formPair .u8 .u8 bs)
  | 0x33#8 => .enablePump (formNat .u8 bs)
  | 0x34#8 => .disablePump (formNat .u8 bs)
  | 0x35#8 => .clearPump (formNat .u8 bs)
  | 0x36#8 => .resetHours (formNat .u8 bs)
  | 0x37#8 => .ackBand (formNat .u8 bs)
  | 0x38#8 => .resume (formNone bs)
  | 0x39#8 => decodeReset bs
  | 0x40#8 => .washScreen (formPair .u8 .u16 bs)
  | 0x41#8 => .startPump (formNat .u8 bs)
  | 0x42#8 => .stopPump (formPair .u8 .u8 bs)
  | 0x43#8 => .saveConfig (formNone bs)
  | k => .unknownKind k

/-! ## The payload a request is sent with -/

/-- An unsigned field as it is sent. -/
def natField (w : Width) (n : Nat) : List Byte :=
  encodeField w n

/-- A payload that matches no form of a request of fixed length. -/
def badPayload : List Byte :=
  List.replicate 120 0xFF#8

/-- The payload of a form, or one that does not match. -/
def payloadOf {α : Type} (f : α → List Byte) : Form α → List Byte
  | .args a => f a
  | .mismatch => badPayload

/-- Settings named by a selector, with the selector ahead of them. -/
def selected (selector : Width) (ws : List (Option Width)) (vs : List (Option Int)) : List Byte :=
  encodeField selector (selectorOf vs) ++ encodeSelected ws vs

/-- A setting as the number it is sent as. -/
def sent (v : Option Nat) : Option Int :=
  v.map Int.ofNat

/-- The KIND and payload of a request command; none for a command that is no request. -/
def encodeRequest : Instr → Option (Byte × List Byte)
  | .unknownKind k => some (k, [])
  | .getStatus a => some (0x01#8, payloadOf (fun _ => []) a)
  | .getLevels a => some (0x02#8, payloadOf (natField .u8) a)
  | .getTideSummary a => some (0x03#8, payloadOf (fun _ => [0x00#8]) a)
  | .getTidePoints a => some (0x03#8, 0x01#8 :: payloadOf (fun (b, i) => encodeFields [(.u8, b), (.u8, i)]) a)
  | .getCondition a => some (0x04#8, payloadOf (fun _ => []) a)
  | .getScreen a => some (0x05#8, payloadOf (natField .u8) a)
  | .getPump a => some (0x06#8, payloadOf (natField .u8) a)
  | .getNotices a => some (0x07#8, payloadOf (fun _ => []) a)
  | .getConfig a => some (0x08#8, payloadOf (fun (x, i) => encodeFields [(.u8, x), (.u8, i)]) a)
  | .setChannel a => some (0x10#8, payloadOf (fun c => encodeField .u8 c.channel ++
      selected .u8 channelWidths [sent c.enabled, sent c.zero, sent c.gain, c.elevation, sent c.shift]) a)
  | .setDensity a => some (0x11#8, payloadOf (natField .u16) a)
  | .setScan a => some (0x12#8, payloadOf (natField .u16) a)
  | .setSea a => some (0x13#8, payloadOf (fun c =>
      selected .u8 seaWidths [none, none, sent c.tolerance, sent c.lostLimit]) a)
  | .setTrend a => some (0x14#8, payloadOf (natField .u16) a)
  | .setBandEntry a => some (0x15#8, payloadOf (fun b => encodeFields [(.u8, b.band), (.u8, b.enabled),
      (.u8, b.quantity), (.s16, b.low), (.s16, b.high), (.u8, b.rank), (.u16, b.hysteresis), (.u8, b.cap),
      (.u8, b.mode), (.u8, b.noticeClass)]) a)
  | .setBandReminder a => some (0x15#8, 0x00#8 :: payloadOf (natField .u16) a)
  | .setScreen a => some (0x16#8, payloadOf (fun c => encodeField .u8 c.screen ++
      selected .u8 [some .u16, some .u16, some .u16, some .u16]
        [sent c.washStart, sent c.high, sent c.blind, sent c.defaultPasses]) a)
  | .setWashTiming a => some (0x17#8, payloadOf (fun c => selected .u16 (List.replicate 10 (some .u16))
      [sent c.passTimeout, sent c.indexGuard, sent c.washInterval, sent c.fallbackInterval, sent c.stormPasses,
        sent c.sluiceTime, sent c.purgeInterval, sent c.purgeTime, sent c.deferral, sent c.lossDelay]) a)
  | .setPump a => some (0x18#8, payloadOf (fun c => encodeField .u8 c.pump ++
      selected .u8 pumpWidths [none, sent c.cls, c.inlet, sent c.submergence]) a)
  | .setPumpTiming a => some (0x19#8, payloadOf (fun c => selected .u16 (List.replicate 11 (some .u16))
      [sent c.recoveryLarge, sent c.recoverySmall, sent c.startTimeout, sent c.stopTimeout, sent c.startSpacing,
        sent c.startMargin, sent c.tripDelay, sent c.shedDelay, sent c.pumpsPerScreen, sent c.rotationInterval,
        sent c.fallbackDemand]) a)
  | .setDutyOrder a => some (0x1A#8, payloadOf (fun l => l.flatMap (natField .u8)) a)
  | .setDutyMode a => some (0x1B#8, payloadOf (natField .u8) a)
  | .setDemand a => some (0x1C#8, payloadOf (natField .u16) a)
  | .setLink a => some (0x1D#8, payloadOf (fun c => selected .u8 linkWidths
      [sent c.rate, sent c.threshold, sent c.batchTimeout, sent c.supervision, sent c.discard]) a)
  | .setClockAbsolute a => some (0x1E#8, 0x00#8 :: payloadOf (natField .u32) a)
  | .setClockStep a => some (0x1E#8, 0x01#8 :: payloadOf (fun v => encodeField .s32 v) a)
  | .tidePoints a => some (0x20#8, payloadOf (fun ps => encodeField .u8 ps.length ++
      ps.flatMap fun p => encodeFields [(.u32, p.time), (.s16, p.level)]) a)
  | .tideCommitNow a => some (0x21#8, payloadOf (fun _ => []) a)
  | .tideSeal a => some (0x22#8, payloadOf (fun _ => []) a)
  | .tideClear a => some (0x23#8, payloadOf (fun _ => []) a)
  | .stopWash a => some (0x30#8, payloadOf (natField .u8) a)
  | .clearScreen a => some (0x31#8, payloadOf (natField .u8) a)
  | .setService a => some (0x32#8, payloadOf (fun (n, v) => encodeFields [(.u8, n), (.u8, v)]) a)
  | .enablePump a => some (0x33#8, payloadOf (natField .u8) a)
  | .disablePump a => some (0x34#8, payloadOf (natField .u8) a)
  | .clearPump a => some (0x35#8, payloadOf (natField .u8) a)
  | .resetHours a => some (0x36#8, payloadOf (natField .u8) a)
  | .ackBand a => some (0x37#8, payloadOf (natField .u8) a)
  | .resume a => some (0x38#8, payloadOf (fun _ => []) a)
  | .softResetLink a => some (0x39#8, payloadOf (fun _ => [0x00#8]) a)
  | .softResetFull a => some (0x39#8, 0x01#8 :: payloadOf (fun _ => []) a)
  | .washScreen a => some (0x40#8, payloadOf (fun (n, p) => encodeFields [(.u8, n), (.u16, p)]) a)
  | .startPump a => some (0x41#8, payloadOf (natField .u8) a)
  | .stopPump a => some (0x42#8, payloadOf (fun (n, f) => encodeFields [(.u8, n), (.u8, f)]) a)
  | .saveConfig a => some (0x43#8, payloadOf (fun _ => []) a)
  | .powerOn _ | .resetNAsserted | .resetNReleased _ | .loadingEnd _ | .scanTimerExpiry _ _ | .scanEvent
  | .trendTimerExpiry | .reminderTimerExpiry | .intakeTimeCount | .indexPulse _ | .sjamRising _ | .sjamFalling _
  | .passTimeout _ | .hdokChange _ | .headerLossDelayExpiry | .sluiceRunEnd | .headerPurgeTimerExpiry
  | .headerPurgeComplete | .purgeOverdue | .pfbRising _ | .pfbFalling _ | .ptrpActive _ _ | .startTimeout _
  | .stopTimeout _ | .recoveryTimerExpiry _ | .startSpacingExpiry | .rotationTimerExpiry | .shedTimerExpiry _
  | .lowLevelStop _ | .discardTimerExpiry _ | .supervisionTimerExpiry | .saveConfigEnd _ | .frameReceived _
  | .framingError | .rxGapTimeout | .lenAbove120 | .replySent _ | .batchSent | .noticeBatch | .quietTimeExpiry
  | .frameStart => none

/-! ## The table's words -/

/-- The command a word of the opcode table spells: the table gives bits to no row (98_reader.md: 87 rows, none with a
fixed part or fields), so no word spells one. -/
def decodeTableWord (_nbits _w : Nat) : Option Instr :=
  none

end Sys2Proof
end

