-- ==== Sys2Proof/Machine/State.lean ====
section
/-! DEFINITION. Sys2Proof/Machine/State.lean: every piece of state the manual gives the part, block by block
(00_scope.md, section 0.3), as plain data, and `State.reset`: the part as start-up begins (R192). A timer is held in
milliseconds and counts as its rule states; a deferred mark is the opening number it holds when set (R175). -/

namespace Sys2Proof.Machine

/-- No step of the part ends in a fault: the manual names none. -/
inductive Fault where
  deriving DecidableEq, Repr

/-- Why a step has no meaning. -/
inductive Refusal where
  /-- The row has no meaning in this model yet; raised by exec alone. Safe. -/
  | notModelled (mnemonic : String)
  deriving DecidableEq, Repr

/-- Where the part stands between RESET_N, LOADING and work (R192). -/
inductive Phase where
  /-- RESET_N is held low. -/
  | resetHeld
  /-- LOADING. -/
  | loading
  /-- LOADING has ended. -/
  | running
  deriving DecidableEq, Repr

/-! ## Level Acquisition Unit (Chapter 1) -/

/-- Health of a channel (R5); codes OK 0, UNDER 1, OVER 2, DISABLED 3. -/
inductive Health where
  | ok | under | over | disabled
  deriving DecidableEq, Repr

/-- One entry of the channel table: settings (R3) and state (R5). The age is held in milliseconds (R12). -/
structure Channel where
  enabled : Bool := true
  zero : Nat := 10486
  gain : Nat := 977
  elevation : Int := 0
  shift : Nat := 3
  raw : Nat := 0
  health : Health := .under
  awaiting : Bool := true
  clamped : Bool := false
  level : Int := 0
  seeded : Bool := false
  ageMs : Nat := 65535000
  deriving DecidableEq, Repr

/-- Sea class (R17); codes in this order. -/
inductive SeaClass where
  | agree | spread | diverged | degraded | single | lost
  deriving DecidableEq, Repr

/-- A channel's fields in the Intake Level Record (R22). -/
structure ChannelView where
  level : Int := 0
  health : Health := .under
  clamped : Bool := false
  deriving DecidableEq, Repr

/-- A screen's head loss and its head-unknown flag (R19). -/
structure Head where
  loss : Int := 0
  unknown : Bool := true
  deriving DecidableEq, Repr

/-- A bay's wet-well level and its well-unknown flag (R20). -/
structure Well where
  level : Int := 0
  unknown : Bool := true
  deriving DecidableEq, Repr

/-- The Intake Level Record (R22). -/
structure LevelRecord where
  channels : Vector ChannelView 12 := Vector.replicate 12 {}
  sea : Int := 0
  cls : SeaClass := .lost
  stale : Bool := false
  voted : Bool := false
  heads : Vector Head 6 := Vector.replicate 6 {}
  wells : Vector Well 3 := Vector.replicate 3 {}
  margins : Vector Int 8 := Vector.replicate 8 1400
  scan : Nat := 0
  deriving DecidableEq, Repr

/-- A scan in progress: its counts, the next channel, and the time since the scan before it (R1, R15). -/
structure Scan where
  samples : Vector Nat 12
  next : Nat
  elapsed : Nat
  deriving DecidableEq, Repr

/-- The Level Acquisition Unit: settings (R6), scan timer (R1, R2), lost time (R18), record. `period` is the length of
the interval now running. -/
structure Lau where
  channels : Vector Channel 12 := Vector.replicate 12 {}
  density : Nat := 10250
  interval : Nat := 500
  tolerance : Nat := 50
  lostLimit : Nat := 60
  timer : Nat := 0
  period : Nat := 500
  scan : Option Scan := none
  lostMs : Nat := 0
  record : LevelRecord := {}
  deriving DecidableEq, Repr

/-! ## Tide Watch Unit (Chapters 2 and 3) -/

/-- State of a prediction bank (R31); codes in this order. -/
inductive BankState where
  | empty | filling | sealed | active
  deriving DecidableEq, Repr

/-- A prediction bank (R31). -/
structure Bank where
  state : BankState := .empty
  points : List TidePoint := []
  deriving DecidableEq, Repr

/-- The monitored quantities (Chapter 3); codes in this order. -/
inductive Quantity where
  | level | residual | rate
  deriving DecidableEq, Repr

/-- Claim rank of a band (R47); codes in this order. -/
inductive Rank where
  | fast | medium | slow | subtractive
  deriving DecidableEq, Repr

/-- Wash mode (R47, R62); codes in this order. -/
inductive WashMode where
  | normal | storm | hold
  deriving DecidableEq, Repr

/-- Notice class of a band (R47). -/
inductive BandClass where
  | alarm | status
  deriving DecidableEq, Repr

/-- One entry of the alarm band table (R47). -/
structure Band where
  enabled : Bool := false
  quantity : Quantity := .level
  low : Int := -30000
  high : Int := 30000
  rank : Rank := .slow
  hysteresis : Nat := 0
  cap : Option Nat := none
  mode : WashMode := .normal
  noticeClass : BandClass := .status
  latched : Bool := false
  reminders : Nat := 0
  deriving DecidableEq, Repr

/-- The band claiming each quantity, or UNCLAIMED (R51). -/
structure Claims where
  level : Option BandId := none
  residual : Option BandId := none
  rate : Option BandId := none
  deriving DecidableEq, Repr

/-- The Intake Condition record (R60). -/
structure Condition where
  claims : Claims := {}
  cap : Option Nat := none
  mode : WashMode := .normal
  number : Nat := 0
  deriving DecidableEq, Repr

/-- The value last handed for each quantity, or unavailable (R50). -/
structure Handed where
  level : Option Int := none
  residual : Option Int := none
  rate : Option Int := none
  deriving DecidableEq, Repr

/-- The Tide Watch Unit: trend ring (R25..R29), banks (R31), prediction and residual (R42, R43) with the scan number
and intake time they were formed at (R45), both 0 at start-up (DESIGN CHOICE, notes/assumptions/1.md), bands, reminder,
claims and the published Intake Condition. -/
structure Twu where
  trendInterval : Nat := 15
  trendTimer : Nat := 0
  ring : List TidePoint := []
  rate : Option Int := none
  banks : Vector Bank 2 := Vector.replicate 2 {}
  loading : BankId := 0
  prediction : Option Int := none
  residual : Option Int := none
  formedScan : Nat := 0
  formedTime : Nat := 0
  bands : Vector Band 8 := Vector.replicate 8 {}
  reminderInterval : Nat := 0
  reminderTimer : Nat := 0
  handed : Handed := {}
  claims : Claims := {}
  condition : Condition := {}
  deriving DecidableEq, Repr

/-! ## Screen Wash Controller (Chapters 4 and 5) -/

/-- State of a screen (R67); codes in this order. -/
inductive ScreenState where
  | outOfService | idle | queued | washing | finishing | jammed
  deriving DecidableEq, Repr

/-- Class of a wash request, highest first (Chapter 5); codes of R86 in this order. -/
inductive WashClass where
  | headlossHigh | host | headloss | storm | interval
  deriving DecidableEq, Repr

/-- Outcome of a wash (R86); codes in this order. -/
inductive WashOutcome where
  | complete | stalled | abortedByRequest | abortedByCondition | noWater | jammed
  deriving DecidableEq, Repr

/-- A wash record (R69). The guard reference is held as the time since it. -/
structure WashRecord where
  passes : Nat
  cls : WashClass
  mark : Option Nat
  counter : Nat
  accepted : Nat := 0
  doubleIndex : Bool := false
  passTimer : Nat := 0
  guard : Option Nat := none
  deriving DecidableEq, Repr

/-- A staged wash (R82). -/
structure Staged where
  passes : Nat
  cls : WashClass
  mark : Option Nat
  deriving DecidableEq, Repr

/-- A wash result (R86). -/
structure WashResult where
  outcome : WashOutcome
  passes : Nat
  done : Nat
  doubleIndex : Bool
  origin : WashClass
  mark : Option Nat
  endedAt : Nat
  pending : Bool
  deriving DecidableEq, Repr

/-- A screen: settings (R68, R96), state and wash (R67..R87), head verdict and published capacity flag (R111), and its
pins SDRV, SSPR and SJAM. R95 gives the state at the end of LOADING only; before it the model holds IDLE (DESIGN
CHOICE, notes/assumptions/1.md). -/
structure Screen where
  inService : Bool := true
  washStart : Nat := 150
  high : Nat := 400
  blind : Nat := 800
  defaultPasses : Nat := 2
  state : ScreenState := .idle
  wash : Option WashRecord := none
  staged : Option Staged := none
  current : Option WashResult := none
  previous : Option WashResult := none
  sinceEnd : Nat := 0
  verdict : Bool := false
  counts : Bool := false
  drive : Bool := false
  spray : Bool := false
  jam : Bool := false
  deriving DecidableEq, Repr

/-- An entry of the wash queue (R101). The joining moment is held as the time since it. -/
structure QueueEntry where
  screen : ScreenId
  cls : WashClass
  passes : Nat
  mark : Option Nat
  ageMs : Nat := 0
  deriving DecidableEq, Repr

/-- State of the header purge (R105); codes in this order. -/
inductive PurgeState where
  | idle | pending | active
  deriving DecidableEq, Repr

/-- The Screen Wash Controller: settings (R68, R97), the wash queue (R101), the header purge (R105..R107) and HPRG, the
false period of HDOK (R108), the sluice purge (R109) and SLUV, and the running count as last published (R119). -/
structure Swc where
  screens : Vector Screen 6 := Vector.replicate 6 {}
  passTimeout : Nat := 300
  indexGuard : Nat := 3
  washInterval : Nat := 0
  fallbackInterval : Nat := 30
  stormPasses : Nat := 4
  sluiceTime : Nat := 60
  purgeInterval : Nat := 60
  purgeTime : Nat := 30
  deferral : Nat := 10
  lossDelay : Nat := 5
  queue : List QueueEntry := []
  purge : PurgeState := .idle
  purgeTimer : Nat := 0
  pendingMs : Nat := 0
  activeMs : Nat := 0
  overdue : Bool := false
  hprg : Bool := false
  hdok : Bool := false
  falsePeriod : Option Nat := none
  sluicing : Bool := false
  sluiceMs : Nat := 0
  sluv : Bool := false
  runningCount : Nat := 0
  deriving DecidableEq, Repr

/-! ## Pump Duty Controller (Chapters 6 and 7) -/

/-- Class of a pump (R116); codes in this order. -/
inductive PumpClass where
  | large | small
  deriving DecidableEq, Repr

/-- State of a pump (R118); codes in this order. -/
inductive PumpState where
  | disabled | recovering | stopped | starting | running | stopping | failed
  deriving DecidableEq, Repr

/-- Recorded cause of the last failure (R118); codes in this order, 0 when it has not failed. -/
inductive FailCause where
  | none | startTimeout | feedbackLost | tripped | stopTimeout
  deriving DecidableEq, Repr

/-- Origin of a start (R128); codes in this order. -/
inductive StartOrigin where
  | host | duty
  deriving DecidableEq, Repr

/-- Origin of a stop (R122); codes in this order. -/
inductive StopOrigin where
  | host | forced | demand | changeover | ceiling | cap | lowLevel
  deriving DecidableEq, Repr

/-- A running low-margin period (R150): how long it has lasted, and whether its stop has fallen due. -/
structure LowPeriod where
  ms : Nat := 0
  due : Bool := false
  deriving DecidableEq, Repr

/-- A pump: settings (R116), state and timers (R118..R123), the start and stop it carries out, its counters (R127), its
low-margin period (R150) and its pins PRUN, PFB and PTRP. Run seconds are held in milliseconds, so that fractions carry.
R139 gives the state at the end of LOADING only; before it the model holds RECOVERING, its timer at 0 (DESIGN CHOICE,
notes/assumptions/1.md). -/
structure Pump where
  enabled : Bool := true
  cls : PumpClass := .large
  inlet : Int := -2600
  submergence : Nat := 1200
  state : PumpState := .recovering
  recovery : Nat := 0
  startTimer : Nat := 0
  stopTimer : Nat := 0
  cause : FailCause := .none
  startOrigin : StartOrigin := .host
  startMark : Option Nat := none
  stopOrigin : Option StopOrigin := none
  stopMark : Option Nat := none
  runTime : Nat := 0
  runMs : Nat := 0
  starts : Nat := 0
  lowMargin : Option LowPeriod := none
  run : Bool := false
  feedback : Bool := false
  trip : Bool := false
  deriving DecidableEq, Repr

/-- An entry of the start queue (R128). The joining moment is held as the time since it. -/
structure StartEntry where
  pump : PumpId
  origin : StartOrigin
  mark : Option Nat
  ageMs : Nat := 0
  deriving DecidableEq, Repr

/-- Duty mode (R136); codes in this order. -/
inductive DutyMode where
  | auto | manual
  deriving DecidableEq, Repr

/-- The stop a shed scope holds (R142, R146): none 0, waiting 1, or held 2 with the candidate flagged held by header. -/
inductive DueStop where
  | none | waiting | held (p : PumpId)
  deriving DecidableEq, Repr

/-- A shed scope (R146): its timer, stopped or counting, and its due stop. -/
structure Scope where
  timer : Option Nat := none
  due : DueStop := .none
  deriving DecidableEq, Repr

/-- The changeover pair in flight (R148): B is being started in place of W. -/
structure Pair where
  b : PumpId
  w : PumpId
  deriving DecidableEq, Repr

/-- The default duty order list, 1 to 8 (R134). -/
def defaultOrder : Vector PumpId 8 := #v[0, 1, 2, 3, 4, 5, 6, 7]

/-- The eight pumps with their default classes (R116). -/
def defaultPumps : Vector Pump 8 :=
  #v[{}, {}, {}, {}, {}, {}, { cls := .small }, { cls := .small }]

/-- The Pump Duty Controller: settings (R117), start queue and spacing (R128, R129), duty order and rotation (R134,
R135), mode, demand, shed scopes, changeover, and header held as last published by the SWC (R110).
`sinceStart` is the time since the last start in flight ended, `spacingTaken` says that the running out of the spacing
has been taken, and `evaluationDue` that a duty evaluation follows (R143); the last two are the model's own. -/
structure Pdc where
  pumps : Vector Pump 8 := defaultPumps
  recoveryLarge : Nat := 600
  recoverySmall : Nat := 180
  startTimeout : Nat := 30
  stopTimeout : Nat := 60
  startSpacing : Nat := 10
  startMargin : Nat := 300
  tripDelay : Nat := 10
  shedDelay : Nat := 20
  pumpsPerScreen : Nat := 2
  rotationInterval : Nat := 24
  fallbackDemand : Nat := 2
  queue : List StartEntry := []
  sinceStart : Option Nat := none
  spacingTaken : Bool := false
  order : Vector PumpId 8 := defaultOrder
  rotationTimer : Nat := 0
  mode : DutyMode := .auto
  demand : Nat := 0
  scopes : Vector Scope 4 := Vector.replicate 4 {}
  changeover : Bool := false
  pair : Option Pair := none
  headerHeld : Bool := false
  evaluationDue : Bool := false
  deriving DecidableEq, Repr

/-! ## Supervisory Link Port (Chapters 8 to 10) -/

/-- Notice class (R160); codes in this order. -/
inductive NoticeClass where
  | alarm | fault | completion | status
  deriving DecidableEq, Repr

/-- Notice kind (R160); codes 1..18 in this order. -/
inductive NoticeKind where
  | channelFault | channelRecovered | seaClassChanged | bandEntered | bandReminder | tideBankSwapped
  | predictionEnded | washComplete | screenJammed | pumpStarted | pumpStopped | pumpFailed
  | lowLevelStop | rotated | deferredDiscarded | supervisionLost | configImageBad | configSaved
  deriving DecidableEq, Repr

/-- A notice (R183). -/
structure Notice where
  cls : NoticeClass
  kind : NoticeKind
  subject : Nat
  flags : Nat := 0
  value1 : Int
  value2 : Int
  time : Nat
  deriving DecidableEq, Repr

/-- Reply code (R165); codes in this order. -/
inductive Code where
  | ok | okAdjusted | deferred | retryLater | unknownKind | badArgument | state | order | full
  | jamActive | headerInUse | inFallback | timeNotSet
  deriving DecidableEq, Repr

/-- A reply (R158, R159). -/
structure Reply where
  kind : Byte
  tag : Byte
  status : Byte
  code : Code
  data : List Byte
  deriving DecidableEq, Repr

/-- What LTX carries (R159, R167). -/
inductive Transmitter where
  | free
  | reply (r : Reply)
  | batch (status header : Byte) (notices : List Notice)
  deriving DecidableEq, Repr

/-- The receiver (R161): hunting for a start byte, or collecting a frame. -/
inductive Receiver where
  | hunting | collecting
  deriving DecidableEq, Repr

/-- A request held in the request buffer (R162), with the command its payload spells. -/
structure Request where
  kind : Byte
  tag : Byte
  command : Instr
  deriving DecidableEq, Repr

/-- Kind of a deferred request (R175); codes of R181 in this order. -/
inductive DeferredKind where
  | washScreen | startPump | stopPump | saveConfig
  deriving DecidableEq, Repr

/-- Target of a deferred request (R175). -/
inductive Target where
  | screen (n : ScreenId)
  | pump (p : PumpId)
  | memory
  deriving DecidableEq, Repr

/-- State of a slot (R175): IN_PROGRESS, or DONE with its result, completion time and discard timer. -/
inductive SlotState where
  | inProgress
  | done (result detail completedAt discardMs : Nat)
  deriving DecidableEq, Repr

/-- A used slot of the deferred request table (R175). -/
structure Slot where
  kind : DeferredKind
  target : Target
  arguments : List Byte
  opening : Nat
  state : SlotState := .inProgress
  deriving DecidableEq, Repr

/-- A configuration save in progress (R195): the image formed from the copy, and the opening number of its slot. -/
structure Save where
  image : List Byte
  mark : Nat
  deriving DecidableEq, Repr

/-- The Supervisory Link Port: settings (R170), the line, receiver, request buffer and transmitter (R157..R167), marks,
intake time (R171), deferred request table (R175), notice queue and quiet time (R183..R185), supervision timer and
fallback (R189, R190), the loader with its strap and the contents of the configuration memory (R192..R195).
`quietOut` says that the quiet time has run out, `fullReset` that start-up follows the reply being sent. -/
structure Slp where
  rate : Nat := 1
  threshold : Nat := 3
  batchTimeout : Nat := 20
  supervision : Nat := 30
  discard : Nat := 120
  rateInForce : Nat := 1
  nextRate : Option Nat := none
  receiver : Receiver := .hunting
  requests : List Request := []
  waiting : Option Reply := none
  tx : Transmitter := .free
  fullReset : Bool := false
  linkError : Bool := false
  overrun : Bool := false
  configDefaults : Bool := true
  time : Nat := 0
  timeSet : Bool := false
  phaseMs : Nat := 0
  slots : Vector (Option Slot) 4 := Vector.replicate 4 none
  opening : Nat := 0
  notices : List Notice := []
  quietMs : Nat := 0
  quietOut : Bool := false
  supervisionMs : Nat := 0
  supervising : Bool := false
  fallback : Bool := false
  fromImage : Bool := false
  save : Option Save := none
  memory : List Byte := []
  deriving DecidableEq, Repr

/-- The part. `cfgsrc` is the level of the strap, `draws` the model's counter of free values (Config.free), `pending`
the commands that wait, first in, first out. -/
structure State where
  phase : Phase := .loading
  cfgsrc : Bool := false
  lau : Lau := {}
  twu : Twu := {}
  swc : Swc := {}
  pdc : Pdc := {}
  slp : Slp := {}
  draws : Nat := 0
  pending : List Instr := []
  deriving DecidableEq, Repr

/-- The part as start-up begins: in LOADING, every block at its start-up value (R24, R46, R65, R95, R115, R139, R156,
R174, R192), every input inactive (DESIGN CHOICE, notes/assumptions/1.md). -/
def State.reset : State := {}

end Sys2Proof.Machine
end

