-- ==== Sys2Proof/Machine/Operands.lean ====
section
/-! DEFINITION. Sys2Proof/Machine/Operands.lean: the arithmetic of the manual (rounding, clamps), the clamp-or-refuse
policy of R166 over the operands of a request, the codes of enumerations, and the fixed plant of section 0.2. -/

namespace Sys2Proof.Machine

/-! ## Rounding and clamps -/

/-- The exact quotient rounded half away from zero (R8). -/
def roundDiv (n : Int) (d : Nat) : Int :=
  if 0 ≤ n then (2 * n + d) / (2 * d) else -((2 * -n + d) / (2 * d))

/-- Clamps a signed number into a range (R166). -/
def clampInt (lo hi v : Int) : Int :=
  if v < lo then lo else if hi < v then hi else v

/-- Clamps an unsigned number into a range (R166). -/
def clampNat (lo hi v : Nat) : Nat :=
  if v < lo then lo else if hi < v then hi else v

/-- Clamps a number for which 0 means off: a value from 1 up to the bottom is clamped to the bottom (R56, R97, R170). -/
def clampOff (lo hi v : Nat) : Nat :=
  if v = 0 then 0 else clampNat lo hi v

/-- Whole seconds of a time in milliseconds, rounded down and limited to 65535 (R166). -/
def secs (ms : Nat) : Nat :=
  min (ms / 1000) 65535

/-- A length of time reached: a setting in seconds against a timer in milliseconds. -/
def reached (timer seconds : Nat) : Bool :=
  decide (seconds * 1000 ≤ timer)

/-! ## Settings a request gives -/

/-- The value a setting takes: the one given, clamped, or the one it had. -/
def taken {α β : Type} (clamp : α → β) (given : Option α) (old : β) : β :=
  match given with
  | some v => clamp v
  | none => old

/-- Whether a clamp changed a value given. -/
def adjusted {α : Type} [DecidableEq α] (clamp : α → α) (given : Option α) : Bool :=
  match given with
  | some v => decide (clamp v ≠ v)
  | none => false

/-- OK_ADJUSTED when any clamp acted, OK otherwise (R166). -/
def okCode (clamped : Bool) : Code :=
  if clamped then .okAdjusted else .ok

/-- The data of an OK_ADJUSTED reply: each setting named, with the value taken, in table order; an OK reply has none. -/
def takenData (clamped : Bool) (fs : List (Bool × Width × Int)) : List Byte :=
  if clamped then encodeFields ((fs.filter (·.1)).map (·.2)) else []

/-! ## Indices -/

/-- A number counted from 1 as an index of `n` (R166). -/
def index1 (n v : Nat) : Option (Fin n) :=
  if h : 1 ≤ v ∧ v ≤ n then some ⟨v - 1, by omega⟩ else none

/-- A number counted from 0 as an index of `n` (R166). -/
def index0 (n v : Nat) : Option (Fin n) :=
  if h : v < n then some ⟨v, h⟩ else none

/-- A duty order list of eight pump numbers, each once (R134). -/
def toOrder (l : List Nat) : Option (Vector PumpId 8) :=
  match l.mapM (index1 8) with
  | some [a, b, c, d, e, f, g, h] =>
    if [a, b, c, d, e, f, g, h].Nodup then some #v[a, b, c, d, e, f, g, h] else none
  | _ => none

/-! ## Enumerations by their codes (R166) -/

/-- yes/no: 0 no, 1 yes. -/
def yesNo : Nat → Option Bool
  | 0 => some false
  | 1 => some true
  | _ => none

/-- LEVEL, RESIDUAL, RATE. -/
def toQuantity : Nat → Option Quantity
  | 0 => some .level
  | 1 => some .residual
  | 2 => some .rate
  | _ => none

/-- FAST, MEDIUM, SLOW, SUBTRACTIVE. -/
def toRank : Nat → Option Rank
  | 0 => some .fast
  | 1 => some .medium
  | 2 => some .slow
  | 3 => some .subtractive
  | _ => none

/-- NORMAL, STORM, HOLD. -/
def toMode : Nat → Option WashMode
  | 0 => some .normal
  | 1 => some .storm
  | 2 => some .hold
  | _ => none

/-- ALARM, STATUS. -/
def toBandClass : Nat → Option BandClass
  | 0 => some .alarm
  | 1 => some .status
  | _ => none

/-- LARGE, SMALL. -/
def toPumpClass : Nat → Option PumpClass
  | 0 => some .large
  | 1 => some .small
  | _ => none

/-- AUTO, MANUAL. -/
def toDutyMode : Nat → Option DutyMode
  | 0 => some .auto
  | 1 => some .manual
  | _ => none

/-- A pump cap: 0..8, NONE as 0xFF, and any other number clamped to 8 (R48, R166). -/
def toCap (v : Nat) : Option Nat :=
  if v = 255 then none else some (min v 8)

/-- The code of a pump cap. -/
def capCode : Option Nat → Nat
  | none => 255
  | some c => c

/-- The code of yes/no. -/
def flag (b : Bool) : Nat :=
  if b then 1 else 0

/-- Codes of R5. -/
def Health.code : Health → Nat
  | .ok => 0 | .under => 1 | .over => 2 | .disabled => 3

/-- Codes of R17. -/
def SeaClass.code : SeaClass → Nat
  | .agree => 0 | .spread => 1 | .diverged => 2 | .degraded => 3 | .single => 4 | .lost => 5

/-- States of R31 in table order. -/
def BankState.code : BankState → Nat
  | .empty => 0 | .filling => 1 | .sealed => 2 | .active => 3

/-- Codes of R53. -/
def Quantity.code : Quantity → Nat
  | .level => 0 | .residual => 1 | .rate => 2

/-- Ranks of R47 in table order. -/
def Rank.code : Rank → Nat
  | .fast => 0 | .medium => 1 | .slow => 2 | .subtractive => 3

/-- Wash modes of R47 in table order. -/
def WashMode.code : WashMode → Nat
  | .normal => 0 | .storm => 1 | .hold => 2

/-- Notice classes of R47 in table order. -/
def BandClass.code : BandClass → Nat
  | .alarm => 0 | .status => 1

/-- States of R67 in table order. -/
def ScreenState.code : ScreenState → Nat
  | .outOfService => 0 | .idle => 1 | .queued => 2 | .washing => 3 | .finishing => 4 | .jammed => 5

/-- Codes of R86 (origin); a lower code is a higher class (section 5.2). -/
def WashClass.code : WashClass → Nat
  | .headlossHigh => 0 | .host => 1 | .headloss => 2 | .storm => 3 | .interval => 4

/-- Codes of R86 (outcome). -/
def WashOutcome.code : WashOutcome → Nat
  | .complete => 0 | .stalled => 1 | .abortedByRequest => 2 | .abortedByCondition => 3 | .noWater => 4 | .jammed => 5

/-- States of R105 in table order. -/
def PurgeState.code : PurgeState → Nat
  | .idle => 0 | .pending => 1 | .active => 2

/-- Classes of R116. -/
def PumpClass.code : PumpClass → Nat
  | .large => 0 | .small => 1

/-- States of R118 in table order. -/
def PumpState.code : PumpState → Nat
  | .disabled => 0 | .recovering => 1 | .stopped => 2 | .starting => 3 | .running => 4 | .stopping => 5 | .failed => 6

/-- Codes of R118. -/
def FailCause.code : FailCause → Nat
  | .none => 0 | .startTimeout => 1 | .feedbackLost => 2 | .tripped => 3 | .stopTimeout => 4

/-- Codes of R124. -/
def StartOrigin.code : StartOrigin → Nat
  | .host => 0 | .duty => 1

/-- Codes of R122. -/
def StopOrigin.code : StopOrigin → Nat
  | .host => 0 | .forced => 1 | .demand => 2 | .changeover => 3 | .ceiling => 4 | .cap => 5 | .lowLevel => 6

/-- Modes of R136. -/
def DutyMode.code : DutyMode → Nat
  | .auto => 0 | .manual => 1

/-- Codes of R142. -/
def DueStop.code : DueStop → Nat
  | .none => 0 | .waiting => 1 | .held _ => 2

/-- Codes of R160. -/
def NoticeClass.code : NoticeClass → Nat
  | .alarm => 0 | .fault => 1 | .completion => 2 | .status => 3

/-- Codes of R160. -/
def NoticeKind.code : NoticeKind → Nat
  | .channelFault => 1 | .channelRecovered => 2 | .seaClassChanged => 3 | .bandEntered => 4 | .bandReminder => 5
  | .tideBankSwapped => 6 | .predictionEnded => 7 | .washComplete => 8 | .screenJammed => 9 | .pumpStarted => 10
  | .pumpStopped => 11 | .pumpFailed => 12 | .lowLevelStop => 13 | .rotated => 14 | .deferredDiscarded => 15
  | .supervisionLost => 16 | .configImageBad => 17 | .configSaved => 18

/-- Codes of R165. -/
def Code.code : Code → Nat
  | .ok => 0 | .okAdjusted => 1 | .deferred => 2 | .retryLater => 3 | .unknownKind => 4 | .badArgument => 5
  | .state => 6 | .order => 7 | .full => 8 | .jamActive => 9 | .headerInUse => 10 | .inFallback => 11
  | .timeNotSet => 12

/-- Codes of R181. -/
def DeferredKind.code : DeferredKind → Nat
  | .washScreen => 0 | .startPump => 1 | .stopPump => 2 | .saveConfig => 3

/-- The number of a target: its screen or pump, or 0 for the configuration memory (R181). -/
def Target.number : Target → Nat
  | .screen n => n.val + 1
  | .pump p => p.val + 1
  | .memory => 0

/-! ## The plant (section 0.2) -/

/-- Channels 0..11. -/
def allChannels : List ChannelId := [0, 1, 2, 3, 4, 5, 6, 7, 8, 9, 10, 11]

/-- Screens 1..6 in ascending number. -/
def allScreens : List ScreenId := [0, 1, 2, 3, 4, 5]

/-- Pumps 1..8 in ascending number. -/
def allPumps : List PumpId := [0, 1, 2, 3, 4, 5, 6, 7]

/-- Bays 1..3. -/
def allBays : List BayId := [0, 1, 2]

/-- Bands 1..8 in ascending number. -/
def allBands : List BandId := [0, 1, 2, 3, 4, 5, 6, 7]

/-- Slots 1..4 in ascending number. -/
def allSlots : List SlotId := [0, 1, 2, 3]

/-- Shed scopes in the order bay 1, bay 2, bay 3, device (R146). -/
def allScopes : List ScopeId := [0, 1, 2, 3]

/-- The bay of a pump. -/
def bayOfPump (p : PumpId) : BayId :=
  if p.val < 3 then 0 else if p.val < 6 then 1 else 2

/-- The bay of a screen. -/
def bayOfScreen (n : ScreenId) : BayId :=
  if n.val < 2 then 0 else if n.val < 4 then 1 else 2

/-- The chamber channel of screen i is channel i + 2 (R19). -/
def chamberOf (n : ScreenId) : ChannelId :=
  ⟨n.val + 3, by omega⟩

/-- The wet-well channel of bay b is channel 8 + b (R20). -/
def wellChannel (b : BayId) : ChannelId :=
  ⟨b.val + 9, by omega⟩

/-- Whether a screen in this state is washing (R67). -/
def ScreenState.isWashing : ScreenState → Bool
  | .washing | .finishing => true
  | .outOfService | .idle | .queued | .jammed => false

/-- Whether a pump in this state has its run command on (R118). -/
def PumpState.commanded : PumpState → Bool
  | .starting | .running => true
  | .disabled | .recovering | .stopped | .stopping | .failed => false

end Sys2Proof.Machine
end

