-- ==== Sys2Proof/Machine/Ops.lean ====
section
/-! DEFINITION. Sys2Proof/Machine/Ops.lean: the named operations over the blocks' state that every meaning is built
from: a change within one block, the free value, the notice queue (R183, R184), the deferred request table's completion
(R179), the capacity flags and header held as the SWC publishes them (R110, R111), and the loads and limits of the
PDC (R119, R141, R142). -/

namespace Sys2Proof.Machine

/-! ## One block -/

/-- A change within the LAU. -/
def State.onLau (f : Lau → Lau) (s : State) : State := { s with lau := f s.lau }

/-- A change within the TWU. -/
def State.onTwu (f : Twu → Twu) (s : State) : State := { s with twu := f s.twu }

/-- A change within the SWC. -/
def State.onSwc (f : Swc → Swc) (s : State) : State := { s with swc := f s.swc }

/-- A change within the PDC. -/
def State.onPdc (f : Pdc → Pdc) (s : State) : State := { s with pdc := f s.pdc }

/-- A change within the SLP. -/
def State.onSlp (f : Slp → Slp) (s : State) : State := { s with slp := f s.slp }

/-- Replaces channel `c`. -/
def State.onChannel (c : ChannelId) (f : Channel → Channel) (s : State) : State :=
  s.onLau fun l => { l with channels := l.channels.set c (f l.channels[c]) }

/-- Replaces band `b`. -/
def State.onBand (b : BandId) (f : Band → Band) (s : State) : State :=
  s.onTwu fun t => { t with bands := t.bands.set b (f t.bands[b]) }

/-- Replaces screen `n`. -/
def State.onScreen (n : ScreenId) (f : Screen → Screen) (s : State) : State :=
  s.onSwc fun w => { w with screens := w.screens.set n (f w.screens[n]) }

/-- Replaces pump `p`. -/
def State.onPump (p : PumpId) (f : Pump → Pump) (s : State) : State :=
  s.onPdc fun d => { d with pumps := d.pumps.set p (f d.pumps[p]) }

/-- Replaces shed scope `k`. -/
def State.onScope (k : ScopeId) (f : Scope → Scope) (s : State) : State :=
  s.onPdc fun d => { d with scopes := d.scopes.set k (f d.scopes[k]) }

/-- Screen `n`. -/
def State.screen (s : State) (n : ScreenId) : Screen := s.swc.screens[n]

/-- Pump `p`. -/
def State.pump (s : State) (p : PumpId) : Pump := s.pdc.pumps[p]

/-- Whether LOADING has ended, so that the blocks act. -/
def State.active (s : State) : Bool := s.phase = .running

/-! ## The free value -/

/-- A free choice among `k` alternatives at the draw to come. -/
def State.choice (s : State) (k : Nat) : Nat := Config.free s.draws % k

/-- A draw has been used up. -/
def State.drawn (s : State) : State := { s with draws := s.draws + 1 }

/-! ## Notices (R183, R184) -/

/-- The intake time a notice or result carries: 0 while the time is not set. -/
def State.stamp (s : State) : Nat := if s.slp.timeSet then s.slp.time else 0

/-- The queue with the newest notice of a class removed, if it holds one. -/
def displace (c : NoticeClass) (q : List Notice) : Option (List Notice) :=
  if q.any (fun n => n.cls = c) then some (q.reverse.eraseP (fun n => n.cls = c)).reverse else none

/-- The queue after `n` is put at its newest end: the quiet time restarts (R185). -/
def Slp.append (l : Slp) (q : List Notice) (n : Notice) : Slp :=
  { l with notices := q ++ [n], quietMs := 0, quietOut := false }

/-- Queues a notice; a full queue discards it or displaces one of a lower class (R184). -/
def Slp.enqueue (l : Slp) (n : Notice) : Slp :=
  if l.notices.length < 32 then l.append l.notices n
  else
    match n.cls with
    | .status | .completion => { l with overrun := true }
    | .alarm | .fault =>
      match displace .status l.notices with
      | some q => { l.append q n with overrun := true }
      | none =>
        match displace .completion l.notices with
        | some q => { l.append q n with overrun := true }
        | none => { l with overrun := true }

/-- Queues a notice stamped with the intake time (R183). -/
def State.notify (s : State) (cls : NoticeClass) (kind : NoticeKind) (subject flags : Nat) (value1 value2 : Int) :
    State :=
  s.onSlp fun l => l.enqueue ⟨cls, kind, subject, flags, value1, value2, s.stamp⟩

/-! ## Completion of a deferred request (R179) -/

/-- Whether a slot is IN_PROGRESS under this opening number. -/
def followedBy (opening : Nat) (sl : Option Slot) : Bool :=
  match sl with
  | some sl => decide (sl.opening = opening ∧ sl.state = .inProgress)
  | none => false

/-- Hands an outcome to the table: the IN_PROGRESS slot with the mark's opening number becomes DONE, or is freed while
the part is in fallback; with no such slot the outcome is passed over. A clear mark hands nothing. -/
def State.complete (s : State) (mark : Option Nat) (result detail : Nat) : State :=
  match mark with
  | none => s
  | some opening =>
    match allSlots.find? (fun i => followedBy opening s.slp.slots[i]) with
    | none => s
    | some i =>
      s.onSlp fun l =>
        { l with
          slots := l.slots.set i
            (if l.fallback then none
             else l.slots[i].map fun sl => { sl with state := .done result detail s.stamp 0 }) }

/-! ## Loads, ceilings and limits (R119, R141, R142) -/

/-- Pumps in RUNNING. -/
def State.runningNow (s : State) : Nat := (allPumps.filter fun p => (s.pump p).state = .running).length

/-- Load of a bay: its pumps in RUNNING or STARTING. -/
def State.bayLoad (s : State) (b : BayId) : Nat :=
  (allPumps.filter fun p => bayOfPump p = b && (s.pump p).state.commanded).length

/-- Load of the device. -/
def State.deviceLoad (s : State) : Nat := (allPumps.filter fun p => (s.pump p).state.commanded).length

/-- A bay's ceiling (R141): its enabled pumps not FAILED, or its screens that count times the pumps per screen. -/
def State.ceiling (s : State) (b : BayId) : Nat :=
  min (allPumps.filter fun p => bayOfPump p = b && (s.pump p).enabled && (s.pump p).state ≠ .failed).length
    ((allScreens.filter fun n => bayOfScreen n = b && (s.screen n).counts).length * s.pdc.pumpsPerScreen)

/-- The three ceilings. -/
def State.ceilings (s : State) : List Nat := allBays.map s.ceiling

/-- A number held against a cap, where NONE is left out. -/
def capped (n : Nat) : Option Nat → Nat
  | none => n
  | some c => min n c

/-- The target (R142). -/
def State.target (s : State) : Nat :=
  capped (min s.pdc.demand (s.ceiling 0 + s.ceiling 1 + s.ceiling 2)) s.twu.condition.cap

/-- The device limit (R142): none in MANUAL with a cap of NONE. -/
def State.deviceLimit (s : State) : Option Nat :=
  match s.pdc.mode with
  | .auto => some (capped s.pdc.demand s.twu.condition.cap)
  | .manual => s.twu.condition.cap

/-- A duty evaluation follows (R143). -/
def State.evaluationFollows (s : State) : State := s.onPdc fun d => { d with evaluationDue := true }

/-! ## What the SWC publishes (R110, R111) -/

/-- Whether a screen counts for capacity (R111). -/
def Screen.counting (sc : Screen) : Bool :=
  sc.state ≠ .outOfService && sc.state ≠ .jammed && sc.verdict

/-- Forms the six capacity flags afresh and publishes them; a changed ceiling makes a duty evaluation (R111, R141). -/
def State.publishCapacity (s : State) : State :=
  let t := s.onSwc fun w => { w with screens := w.screens.map fun sc => { sc with counts := sc.counting } }
  if t.ceilings = s.ceilings then t else t.evaluationFollows

/-- Whether any screen is washing. -/
def State.anyWashing (s : State) : Bool := allScreens.any fun n => (s.screen n).state.isWashing

/-- How many screens are washing. -/
def State.washingCount (s : State) : Nat := (allScreens.filter fun n => (s.screen n).state.isWashing).length

/-- Whether the header is held (R110). -/
def State.headerInUse (s : State) : Bool := s.anyWashing || s.swc.sluicing || s.swc.purge = .active

/-- Publishes header held at a change of it; the PDC makes a duty evaluation (R110, R143). -/
def State.publishHeld (s : State) : State :=
  if s.headerInUse = s.pdc.headerHeld then s
  else s.onPdc fun d => { d with headerHeld := s.headerInUse, evaluationDue := true }

end Sys2Proof.Machine
end

