-- ==== Sys2Proof/Machine/Flags.lean ====
section
/-! DEFINITION. Sys2Proof/Machine/Flags.lean: the status flags of every frame (R164), the marks the link keeps, and
when a notice batch is due (R185). -/

namespace Sys2Proof.Machine

/-- The status byte (R159, R164), of the part as it stands. -/
def State.statusByte (s : State) : Byte :=
  BitVec.ofNat 8
    (flag (decide (s.slp.notices ≠ [])) + 2 * flag s.slp.fallback + 4 * flag s.slp.linkError
      + 8 * flag s.slp.configDefaults + 16 * flag (!s.slp.timeSet) + 32 * flag (decide (s.phase = .loading)))

/-- Sets the LINK_ERROR mark (R161, R162). -/
def State.markLinkError (s : State) : State := s.onSlp fun l => { l with linkError := true }

/-- The batch header byte (R159): the number of records, and OVERRUN. -/
def batchHeader (count : Nat) (overrun : Bool) : Byte := BitVec.ofNat 8 (count + 128 * flag overrun)

/-- Line time of four frames of 126 bytes at a rate code, in quarters of a millisecond (R157, R185): 4 × 1260 bits. -/
def fourFrames : Nat → Nat
  | 0 => 2100
  | 1 => 1050
  | 2 => 525
  | 3 => 350
  | _ => 175

/-- Whether the quiet time has run out at `ms` since its restart: the longer of the batch timeout and the line time of
four frames (R185). -/
def Slp.quietReached (l : Slp) (ms : Nat) : Bool :=
  decide (l.batchTimeout * 100 ≤ ms) && decide (fourFrames l.rateInForce ≤ 4 * ms)

/-- The batch threshold in force: 1 in fallback (R185, R190). -/
def Slp.thresholdInForce (l : Slp) : Nat := if l.fallback then 1 else l.threshold

/-- Whether the class makes a batch due on its own (R185). -/
def NoticeClass.urgent : NoticeClass → Bool
  | .alarm | .fault => true
  | .completion | .status => false

/-- Whether a notice batch is due (R185). -/
def State.batchDue (s : State) : Bool :=
  s.active && decide (s.slp.notices ≠ []) &&
    (s.slp.notices.any (fun n => n.cls.urgent) || decide (s.slp.thresholdInForce ≤ s.slp.notices.length)
      || s.slp.quietOut)

/-- Whether the screen is ready (R90). -/
def Screen.ready (sc : Screen) : Bool :=
  match sc.state with
  | .idle | .queued => true
  | .washing | .finishing => sc.staged.isNone
  | .outOfService | .jammed => false

/-- Whether a place of a result pair is pending. -/
def pendingResult (r : Option WashResult) : Bool :=
  match r with
  | some r => r.pending
  | none => false

/-- Whether the screen is settled (R90). -/
def Screen.settled (sc : Screen) : Bool := !pendingResult sc.current && !pendingResult sc.previous

/-- Whether a pump is flagged held by header by any shed scope (R152). -/
def State.heldByHeader (s : State) (p : PumpId) : Bool :=
  allScopes.any fun k => decide (s.pdc.scopes[k].due = .held p)

end Sys2Proof.Machine
end

