-- ==== Sys2Proof/Machine/Reply.lean ====
section
/-! DEFINITION. Sys2Proof/Machine/Reply.lean: how a request comes to the part, is taken and answered (R162, R163),
and how the notice queue is delivered (R183, R186, R187). -/

namespace Sys2Proof.Machine

/-! ## Delivery order (R183) -/

/-- Takes up to `k` notices of one class from the queue, oldest first; the rest keeps its order. -/
def takeClass (c : NoticeClass) : Nat → List Notice → List Notice × List Notice
  | 0, q => ([], q)
  | _, [] => ([], [])
  | k + 1, n :: q =>
    if n.cls = c then
      let r := takeClass c k q
      (n :: r.1, r.2)
    else
      let r := takeClass c (k + 1) q
      (r.1, n :: r.2)

/-- Takes up to `k` notices in delivery order: ALARM, FAULT, COMPLETION, STATUS (R183). -/
def deliver (k : Nat) (q : List Notice) : List Notice × List Notice :=
  let a := takeClass .alarm k q
  let f := takeClass .fault (k - a.1.length) a.2
  let c := takeClass .completion (k - a.1.length - f.1.length) f.2
  let t := takeClass .status (k - a.1.length - f.1.length - c.1.length) c.2
  (a.1 ++ f.1 ++ c.1 ++ t.1, t.2)

/-- A notice record of 12 bytes (R160). -/
def Notice.bytes (n : Notice) : List Byte :=
  encodeFields [(.u8, n.cls.code), (.u8, n.kind.code), (.u8, n.subject), (.u8, n.flags), (.u32, n.time),
    (.s16, n.value1), (.s16, n.value2)]

/-- The payload of a reply (R159): status byte, code byte, data. -/
def Reply.payload (r : Reply) : List Byte := r.status :: BitVec.ofNat 8 r.code.code :: r.data

/-- The records of a delivery as they are sent: the batch header byte, and each notice (R159). -/
def recordBytes (header : Byte) (notices : List Notice) : List Byte := header :: notices.flatMap Notice.bytes

/-- The bytes of the frame on LTX (R158, R159): a reply under its KIND and TAG, a notice batch under KIND 0xF0 and TAG 0. -/
def Transmitter.line : Transmitter → List Byte
  | .free => []
  | .reply r => frameBytes r.kind r.tag r.payload
  | .batch status header notices => frameBytes 0xF0#8 0x00#8 (status :: recordBytes header notices)

/-- The queue after a delivery: OVERRUN is carried and cleared, and a delivery of notices restarts the quiet time. -/
def Slp.delivered (l : Slp) : Slp :=
  let d := deliver 6 l.notices
  { l with
    notices := d.2
    overrun := false
    quietMs := if d.1 = [] then l.quietMs else 0
    quietOut := if d.1 = [] then l.quietOut else false }

/-- Forms a notice batch and begins to send it (R186); the status byte is formed after the notices are taken. -/
def State.formBatch (s : State) : State :=
  let d := deliver 6 s.slp.notices
  let t := s.onSlp Slp.delivered
  t.onSlp fun l => { l with tx := .batch t.statusByte (batchHeader d.1.length s.slp.overrun) d.1 }

/-! ## Replies (R163, R164, R167) -/

/-- Whether a reply of an earlier request is waiting or being sent (R163); a batch being sent holds no request back
(DESIGN CHOICE, notes/assumptions/32.md). -/
def Slp.replyOutstanding (l : Slp) : Bool :=
  l.waiting.isSome ||
    match l.tx with
    | .reply _ => true
    | .free | .batch _ _ _ => false

/-- Hands a formed reply to the transmitter, where it waits unless the transmitter is free (R167). -/
def Slp.send (l : Slp) (r : Reply) : Slp :=
  match l.tx with
  | .free => { l with tx := .reply r }
  | .reply _ | .batch _ _ _ => { l with waiting := some r }

/-- Forms the reply to the oldest held request; LINK_ERROR is cleared by the reply that shows it (R164). -/
def State.reply (s : State) (code : Code) (data : List Byte) : State :=
  match s.slp.requests with
  | [] => s
  | r :: _ =>
    s.onSlp fun l => { l with linkError := false }.send ⟨r.kind + 0x80#8, r.tag, s.statusByte, code, data⟩

/-- What serving a request leaves: the part, and the reply's code and data. -/
structure Answer where
  state : State
  code : Code
  data : List Byte := []

/-- A request refused changes no state (R163). -/
def Answer.refuse (s : State) (c : Code) : Answer := ⟨s, c, []⟩

/-- A good frame restarts the supervision timer (R189); the timer does not run in LOADING or with the time off. -/
def State.heard (s : State) : State :=
  if s.active && decide (s.slp.supervision ≠ 0) then
    s.onSlp fun l => { l with supervisionMs := 0, supervising := true }
  else s

/-- Holds a request in the buffer, or drops it with LINK_ERROR when the buffer holds two (R162). -/
def State.hold (s : State) (r : Request) : State :=
  if s.slp.requests.length < 2 then s.onSlp fun l => { l with requests := l.requests ++ [r] }
  else s.markLinkError

/-- The KIND of a request command (section 8.5). -/
def kindOf (i : Instr) : Byte :=
  match encodeRequest i with
  | some (k, _) => k
  | none => 0x00#8

/-- A request reaches the part as a good frame of tag 0 (R162, R189). -/
def State.arrive (s : State) (i : Instr) : State := s.heard.hold ⟨kindOf i, 0x00#8, i⟩

/-- Serves the oldest held request: in LOADING as `whileLoading` says, else by its own rule; then forms its reply. -/
def State.serve (s : State) (whileLoading rule : State → Answer) : State :=
  let a := match s.phase with
    | .loading => whileLoading s
    | .resetHeld | .running => rule s
  a.state.reply a.code a.data

/-- A request row (DESIGN CHOICE, notes/assumptions/2.md): the SLP takes the request when it is the oldest held and no reply is
outstanding; a request not yet held arrives first, and is held or dropped when it cannot be taken (R162, R163). While
RESET_N is held low the part takes none (R192). -/
def State.requestIn (s : State) (i : Instr) (whileLoading rule : State → Answer) : State :=
  match s.phase with
  | .resetHeld => s
  | .loading | .running =>
    if s.slp.replyOutstanding then s.arrive i
    else
      match s.slp.requests with
      | [] => (s.arrive i).serve whileLoading rule
      | r :: _ => if r.command = i then s.serve whileLoading rule else s.arrive i

/-- A request that LOADING answers RETRY_LATER (R163, step 1). -/
def State.request (s : State) (i : Instr) (rule : State → Answer) : State :=
  s.requestIn i (fun t => .refuse t .retryLater) rule

/-- A payload whose length or form does not match its kind is answered BAD_ARGUMENT (R163, step 3). -/
def withArgs {α : Type} (a : Sys2Proof.Form α) (k : α → State → Answer) (s : State) : Answer :=
  match a with
  | .args x => k x s
  | .mismatch => .refuse s .badArgument

/-- A request refused with IN_FALLBACK while the part is in fallback (R191). -/
def outsideFallback (k : State → Answer) (s : State) : Answer :=
  if s.slp.fallback then .refuse s .inFallback else k s

end Sys2Proof.Machine
end

