-- ==== Sys2Proof/Machine/Header.lean ====
section
/-! DEFINITION. Sys2Proof/Machine/Header.lean: the shared operations of the Screen Wash Controller (Chapters 4 and 5):
wash results and their release, the wash queue and the header arbiter, the end of a wash, the header purge, the sluice
purge, the triggers and the header clear. -/

namespace Sys2Proof.Machine

/-! ## Screen states and outputs (R67) -/

/-- The screen enters a state; SDRV and SSPR are on exactly while it is washing (R67). -/
def State.enterScreen (s : State) (n : ScreenId) (st : ScreenState) : State :=
  s.onScreen n fun sc => { sc with state := st, drive := st.isWashing, spray := st.isWashing }

/-! ## Results (R86..R89) -/

/-- Passes done: the accepted pulses less one, or 0 when none (R69). -/
def WashRecord.done (w : WashRecord) : Nat := w.accepted - 1

/-- The result of a wash, pending (R86, R87). -/
def resultOf (w : WashRecord) (o : WashOutcome) (at_ : Nat) : WashResult :=
  ⟨o, w.passes, w.done, w.doubleIndex, w.cls, w.mark, at_, true⟩

/-- A result is made final: its WASH_COMPLETE notice is queued (R89), then its outcome handed to the deferred request
table when its mark is set (R88, R179). -/
def State.announce (s : State) (n : ScreenId) (r : WashResult) : State :=
  (s.notify .completion .washComplete (n.val + 1) (r.origin.code + 8 * flag r.doubleIndex) r.outcome.code
    (min r.done 32767 : Nat)).complete r.mark r.outcome.code r.done

/-- Announces a place of a result pair if its result is pending (R88). -/
def State.announcePending (s : State) (n : ScreenId) (r : Option WashResult) : State :=
  match r with
  | some r => if r.pending then s.announce n r else s
  | none => s

/-- A place of a result pair, made final. -/
def finalResult (r : Option WashResult) : Option WashResult := r.map fun r => { r with pending := false }

/-- A result enters the pair: a result still pending in PREVIOUS is made final first, CURRENT moves to PREVIOUS (R87). -/
def State.enterResult (s : State) (n : ScreenId) (r : WashResult) : State :=
  (s.announcePending n (s.screen n).previous).onScreen n fun sc =>
    { sc with previous := sc.current, current := some r }

/-- Releases a screen's pending results, PREVIOUS before CURRENT (R88). -/
def State.releaseScreen (s : State) (n : ScreenId) : State :=
  ((s.announcePending n (s.screen n).previous).announcePending n (s.screen n).current).onScreen n fun sc =>
    { sc with previous := finalResult sc.previous, current := finalResult sc.current }

/-- Releases every pending result, screens in ascending number (R88). -/
def State.releaseResults (s : State) : State := allScreens.foldl State.releaseScreen s

/-! ## Sluice purge (R109) -/

/-- A wash end starts the sluice purge, or restarts it with its full time (R76, R109). -/
def State.startSluice (s : State) : State :=
  s.onSwc fun w => { w with sluicing := true, sluiceMs := 0, sluv := true }

/-- The sluice run ends: SLUV closes and every pending result is released (R109). -/
def State.endSluice (s : State) : State :=
  (s.onSwc fun w => { w with sluicing := false, sluiceMs := 0, sluv := false }).releaseResults

/-! ## Header purge (R105..R107) -/

/-- A PENDING purge enters ACTIVE when no screen is washing and the device pump cap is not 0; HPRG opens and the
overdue mark is cleared (R105..R107). -/
def State.activatePurge (s : State) : State :=
  if s.swc.purge = .pending && !s.anyWashing && decide (s.twu.condition.cap ≠ some 0) then
    s.onSwc fun w => { w with purge := .active, hprg := true, activeMs := 0, overdue := false }
  else s

/-- The purge enters IDLE: HPRG closes, the overdue mark is cleared, the timer restarts (R106, R107, R113). -/
def State.idlePurge (s : State) : State :=
  s.onSwc fun w =>
    { w with purge := .idle, hprg := false, overdue := false, purgeTimer := 0, pendingMs := 0, activeMs := 0 }

/-- Every screen whose continuous wash is in WASHING moves to FINISHING (R74). -/
def State.finishContinuous (s : State) : State :=
  allScreens.foldl (fun t n =>
    match (t.screen n).state, (t.screen n).wash with
    | .washing, some w => if w.passes = 0 then t.enterScreen n .finishing else t
    | _, _ => t) s

/-! ## Wash queue and header arbiter (R101..R104) -/

/-- The larger number of passes, where 0, a continuous wash, is larger than any (R102). -/
def largerPasses (a b : Nat) : Nat := if a = 0 || b = 0 then 0 else max a b

/-- The higher class (section 5.2). -/
def higherClass (a b : WashClass) : WashClass := if b.code < a.code then b else a

/-- The mark after a merge: a set mark of the request replaces the one carried (R102, R175). -/
def mergedMark (carried request : Option Nat) : Option Nat :=
  match request with
  | some m => some m
  | none => carried

/-- A request merged into an entry (R102); the joining moment is kept. -/
def QueueEntry.merge (e : QueueEntry) (cls : WashClass) (passes : Nat) (mark : Option Nat) : QueueEntry :=
  { e with cls := higherClass e.cls cls, passes := largerPasses e.passes passes, mark := mergedMark e.mark mark }

/-- An entry joins the wash queue and its screen enters QUEUED (R101). -/
def State.joinQueue (s : State) (n : ScreenId) (cls : WashClass) (passes : Nat) (mark : Option Nat) : State :=
  (s.onSwc fun w => { w with queue := w.queue ++ [⟨n, cls, passes, mark, 0⟩] }).enterScreen n .queued

/-- A request merged into the entry of a queued screen (R102). -/
def State.mergeQueue (s : State) (n : ScreenId) (cls : WashClass) (passes : Nat) (mark : Option Nat) : State :=
  s.onSwc fun w => { w with queue := w.queue.map fun e => if e.screen = n then e.merge cls passes mark else e }

/-- Removes a screen's entry. -/
def State.leaveQueue (s : State) (n : ScreenId) : State :=
  s.onSwc fun w => { w with queue := w.queue.filter fun e => e.screen ≠ n }

/-- The pass counter a wash starts with (R70). -/
def startCounter (passes : Nat) : Nat := passes - 1

/-- The conditions of a grant (R103). -/
def State.mayGrantHeader (s : State) : Bool :=
  decide (s.washingCount < 2) && decide (s.swc.purge = .idle) && s.swc.hdok && decide (1 ≤ s.swc.runningCount)
    && decide (s.twu.condition.mode ≠ .hold) && decide (s.twu.condition.cap ≠ some 0)

/-- The entry of highest class, and of equal class the earliest. -/
def bestEntry : List QueueEntry → Option QueueEntry
  | [] => none
  | e :: q =>
    match bestEntry q with
    | none => some e
    | some b => if b.cls.code < e.cls.code then some b else some e

/-- The entry that takes the grant: eligible while its screen's SJAM is inactive (R103). -/
def State.nextWash (s : State) : Option QueueEntry := bestEntry (s.swc.queue.filter fun e => !(s.screen e.screen).jam)

/-- A grant: the entry leaves the queue and its screen starts its wash (R70). -/
def State.grantHeader (s : State) (e : QueueEntry) : State :=
  ((s.leaveQueue e.screen).onScreen e.screen fun sc =>
    { sc with wash := some { passes := e.passes, cls := e.cls, mark := e.mark, counter := startCounter e.passes } })
    |>.enterScreen e.screen .washing

/-- One test of the grant conditions (R103). -/
def State.tryGrant (s : State) : State :=
  if s.mayGrantHeader then
    match s.nextWash with
    | some e => s.grantHeader e
    | none => s
  else s

/-- The arbiter re-evaluates: it grants while the conditions hold, so at most twice; header held follows (R103, R110). -/
def State.reevaluate (s : State) : State := s.tryGrant.tryGrant.publishHeld

/-! ## The end of a wash (R76, R77) -/

/-- Whether succession is allowed (R83). -/
def State.successionAllowed (s : State) : Bool := decide (s.twu.condition.mode ≠ .hold) && !s.swc.overdue

/-- Steps 2 and 3 of R76 for COMPLETE: succession, a barred succession, or no staged wash (R83, R84). -/
def State.follow (s : State) (n : ScreenId) (next : ScreenState) : State :=
  match (s.screen n).staged with
  | none => (s.onScreen n fun sc => { sc with wash := none }).enterScreen n next
  | some g =>
    if s.successionAllowed then
      (s.onScreen n fun sc =>
        { sc with
          staged := none
          wash := some { passes := g.passes, cls := g.cls, mark := g.mark, counter := startCounter g.passes
                         guard := some 0 } }).enterScreen n .washing
    else (s.onScreen n fun sc => { sc with staged := none, wash := none }).joinQueue n g.cls g.passes g.mark

/-- Steps 2 and 3 of R76 for every other result: the staged slot is emptied, its set mark handed WITHDRAWN (R85). -/
def State.withdrawStaged (s : State) (n : ScreenId) (next : ScreenState) : State :=
  (match (s.screen n).staged with
   | none => s
   | some g => s.complete g.mark 6 0).onScreen n (fun sc => { sc with staged := none, wash := none })
    |>.enterScreen n next

/-- Steps 1 to 4 of R76. -/
def State.concludeWash (s : State) (n : ScreenId) (w : WashRecord) (o : WashOutcome) (next : ScreenState) : State :=
  let t := s.enterResult n (resultOf w o s.stamp)
  let u := match o with
    | .complete => t.follow n next
    | .stalled | .abortedByRequest | .abortedByCondition | .noWater | .jammed => t.withdrawStaged n next
  u.onScreen n fun sc => { sc with sinceEnd := 0 }

/-- Step 5 of R76 with the SCREEN_JAMMED notice that goes before it at a jam (R78); the passes done stand in it without
a limit (DESIGN CHOICE, notes/assumptions/31.md). -/
def State.flushTrough (s : State) (n : ScreenId) (w : WashRecord) (o : WashOutcome) : State :=
  (if o = .jammed then s.notify .fault .screenJammed (n.val + 1) 0 (w.done : Nat) 1 else s).startSluice

/-- The end of screen `n`'s wash, steps 1 to 6 of R76; a PENDING header purge becomes ACTIVE at the end that leaves no
screen washing (R105). A screen with no wash has none to end (R77). -/
def State.endWash (s : State) (n : ScreenId) (o : WashOutcome) (next : ScreenState) : State :=
  match (s.screen n).wash with
  | none => s
  | some w => ((s.concludeWash n w o next).flushTrough n w o).activatePurge.publishHeld.reevaluate

/-- Ends every wash for which `p` holds at its turn, in ascending screen number, each whole (R76). -/
def State.endWashes (s : State) (p : State → ScreenId → Bool) (o : WashOutcome) : State :=
  allScreens.foldl (fun t n => if p t n && (t.screen n).state.isWashing then t.endWash n o .idle else t) s

/-- The header clear (R113): every wash ends with the result named, without a re-evaluation; the sluice run and the
header purge end; header held falls. -/
def State.clearHeader (s : State) (o : WashOutcome) : State :=
  let ended := allScreens.foldl (fun t n =>
    if (t.screen n).state.isWashing then
      match (t.screen n).wash with
      | some w => (t.concludeWash n w o .idle).flushTrough n w o
      | none => t
    else t) s
  let flushed := if ended.swc.sluicing then ended.endSluice else ended
  (if flushed.swc.purge = .idle then flushed else flushed.idlePurge).publishHeld

/-! ## Triggers (R98..R100) -/

/-- The interval in force, in minutes, 0 being off (R99). -/
def State.intervalInForce (s : State) : Nat :=
  if s.slp.fallback then s.swc.fallbackInterval else s.swc.washInterval

/-- The triggers that hold for a screen, each with its class and passes (R98, R99). -/
def State.triggers (s : State) (n : ScreenId) : List (WashClass × Nat) :=
  let sc := s.screen n
  let hd := s.lau.record.heads[n]
  let high := !hd.unknown && decide ((sc.high : Int) ≤ hd.loss)
  if sc.jam then []
  else
    match sc.state with
    | .finishing => if high then [(.headlossHigh, sc.defaultPasses)] else []
    | .idle | .queued =>
      (if high then [(.headlossHigh, sc.defaultPasses)] else [])
        ++ (if !hd.unknown && decide ((sc.washStart : Int) ≤ hd.loss) then [(.headloss, sc.defaultPasses)] else [])
        ++ (if s.twu.condition.mode = .storm then [(.storm, s.swc.stormPasses)] else [])
        ++ (if decide (s.intervalInForce ≠ 0) && reached sc.sinceEnd (s.intervalInForce * 60) then
              [(.interval, sc.defaultPasses)] else [])
    | .outOfService | .washing | .jammed => []

/-- The one trigger request: the highest class and the largest passes among the triggers that hold (R98). -/
def triggerRequest : List (WashClass × Nat) → Option (WashClass × Nat)
  | [] => none
  | t :: ts =>
    match triggerRequest ts with
    | none => some t
    | some r => some (higherClass t.1 r.1, max t.2 r.2)

/-- A wash request fills an empty staged slot; a full one drops it (R82). -/
def State.stage (s : State) (n : ScreenId) (g : Staged) : State :=
  s.onScreen n fun sc => { sc with staged := some (sc.staged.getD g) }

/-- The trigger request of one screen acts (R98). -/
def State.triggerScreen (s : State) (n : ScreenId) : State :=
  match triggerRequest (s.triggers n) with
  | none => s
  | some (cls, passes) =>
    match (s.screen n).state with
    | .idle => s.joinQueue n cls passes none
    | .queued => s.mergeQueue n cls passes none
    | .finishing => s.stage n ⟨passes, cls, none⟩
    | .outOfService | .washing | .jammed => s

/-- The trigger evaluation of the six screens, one piece of work; the arbiter re-evaluates once if it changed the
queue (R98, R100). It uses the settings as they stand, also between a request and the next scan event (DESIGN CHOICE,
notes/assumptions/30.md). -/
def State.evaluateTriggers (s : State) : State :=
  let t := allScreens.foldl State.triggerScreen s
  if t.swc.queue = s.swc.queue then t else t.reevaluate

/-- The head verdicts and capacity flags of a scan event (R111). -/
def State.formVerdicts (s : State) : State :=
  (s.onSwc fun w =>
    { w with
      screens := Vector.ofFn fun n : ScreenId =>
        let sc := w.screens[n]
        let hd := s.lau.record.heads[n]
        if hd.unknown then sc else { sc with verdict := decide (hd.loss < sc.blind) } }).publishCapacity

end Sys2Proof.Machine
end

