-- ==== Sys2Proof/Machine/Levels.lean ====
section
/-! DEFINITION. Sys2Proof/Machine/Levels.lean: the Level Acquisition Unit (Chapter 1): the level chain, the scan, the
sea vote, the Intake Level Record, and the requests of the channel table and the LAU's settings. -/

namespace Sys2Proof.Machine

/-! ## The level chain (R7..R14) -/

/-- Stage 0 (R7): 9437 to 55050 inclusive is valid. -/
def sampleHealth (s : Nat) : Health :=
  if s < 9437 then .under else if 55050 < s then .over else .ok

/-- Stages 1 and 2 and the sum of stage 3 (R8, R9): the level before the datum clamp. -/
def rawLevel (ch : Channel) (density s : Nat) : Int :=
  roundDiv (roundDiv (((s : Int) - ch.zero) * ch.gain) 4096 * 10000) density + ch.elevation

/-- The datum clamp of stage 3 (R9). -/
def datum (l : Int) : Int := clampInt (-30000) 30000 l

/-- Stage 4 (R10): `/` is floor division. -/
def filterLevel (seeded : Bool) (k : Nat) (f l : Int) : Int :=
  if !seeded || k = 0 then l else f + (l - f + 2 ^ (k - 1)) / 2 ^ k

/-- The age after the time elapsed, stopping at 65535 s (R12). -/
def ageOn (ms elapsed : Nat) : Nat := min (ms + elapsed) 65535000

/-- Whether a sample that fails validity newly faults the channel (R13). -/
def Channel.newlyFaulted (ch : Channel) : Bool := ch.health = .ok || ch.awaiting

/-- Whether the channel stands in a reported fault, from which a valid sample recovers it (R14). -/
def Channel.faulted (ch : Channel) : Bool := (ch.health = .under || ch.health = .over) && !ch.awaiting

/-- The channel after a sample (R7..R14), `elapsed` after the scan before. -/
def Channel.sampled (ch : Channel) (density s elapsed : Nat) : Channel :=
  match sampleHealth s with
  | .ok =>
    let l := rawLevel ch density s
    { ch with
      raw := s, health := .ok, awaiting := false, clamped := decide (datum l ≠ l)
      level := filterLevel ch.seeded ch.shift ch.level (datum l), seeded := true, ageMs := 0 }
  | h =>
    { ch with
      raw := s, health := h, awaiting := false, seeded := ch.seeded && !ch.newlyFaulted
      ageMs := ageOn ch.ageMs elapsed }

/-- The notice a sample makes (R13, R14). -/
def State.sampleNotice (s : State) (c : ChannelId) (before : Channel) (elapsed : Nat) : State :=
  let ch := s.lau.channels[c]
  if ch.health = .ok then
    if before.faulted then
      s.notify .status .channelRecovered c.val 0 ch.level (min (ageOn before.ageMs elapsed / 1000) 32767 : Nat)
    else s
  else if before.newlyFaulted then s.notify .fault .channelFault c.val 0 ch.level ch.health.code
  else s

/-- Deals with one channel of a scan: an enabled one is sampled, any other is passed over but ages (R1). -/
def State.dealChannel (s : State) (c : ChannelId) (sample elapsed : Nat) : State :=
  let ch := s.lau.channels[c]
  if ch.enabled then
    (s.onChannel c fun ch => ch.sampled s.lau.density sample elapsed).sampleNotice c ch elapsed
  else s.onChannel c fun ch => { ch with ageMs := ageOn ch.ageMs elapsed }

/-- Deals with the next channel of the scan in progress, if any is left (R1). -/
def State.dealNext (s : State) : State :=
  match s.lau.scan with
  | none => s
  | some sc =>
    if h : sc.next < 12 then
      (s.dealChannel ⟨sc.next, h⟩ sc.samples[sc.next] sc.elapsed).onLau fun l =>
        { l with scan := some { sc with next := sc.next + 1 } }
    else s

/-- Deals with up to `n` further channels. -/
def State.dealMany : Nat → State → State
  | 0, s => s
  | n + 1, s => State.dealMany n s.dealNext

/-! ## Vote, derived values and record (R16..R22) -/

/-- The levels of the sea channels whose health is OK (R16). -/
def State.seaLevels (s : State) : List Int :=
  ([0, 1, 2] : List ChannelId).filterMap fun c =>
    if s.lau.channels[c].health = .ok then some s.lau.channels[c].level else none

/-- The voted sea level (R16). -/
def voteSea (fs : List Int) (heldLevel : Int) : Int :=
  match fs with
  | [a, b, c] => max (min a b) (min (max a b) c)
  | [a, b] => roundDiv (a + b) 2
  | [a] => a
  | _ => heldLevel

/-- The sea class (R17). -/
def classifySea (fs : List Int) (tolerance : Nat) : SeaClass :=
  match fs with
  | [a, b, c] =>
    let spread := max a (max b c) - min a (min b c)
    if spread ≤ tolerance then .agree else if spread ≤ 2 * tolerance then .spread else .diverged
  | [_, _] => .degraded
  | [_] => .single
  | _ => .lost

/-- The lost time at a scan event that forms this class (R18). -/
def Lau.lostTime (l : Lau) (cls : SeaClass) : Nat :=
  if cls = .lost && l.record.cls = .lost then l.lostMs else 0

/-- The head of a screen (R19): held, with its flag set, while its chamber is not OK or the sea was never voted. -/
def formHead (chamber : Channel) (sea : Int) (voted : Bool) (before : Head) : Head :=
  if chamber.health = .ok && voted then ⟨max 0 (sea - chamber.level), false⟩ else ⟨before.loss, true⟩

/-- The well of a bay (R20). -/
def formWell (ch : Channel) : Well := ⟨ch.level, ch.health ≠ .ok⟩

/-- The margin of a pump (R21). -/
def marginOf (w : Int) (p : Pump) : Int := w - (p.inlet + p.submergence)

/-- The record of a scan event (R22). -/
def State.formRecord (s : State) : LevelRecord :=
  let old := s.lau.record
  let fs := s.seaLevels
  let sea := voteSea fs old.sea
  let cls := classifySea fs s.lau.tolerance
  let voted := old.voted || !fs.isEmpty
  let wells : Vector Well 3 := Vector.ofFn fun b => formWell s.lau.channels[wellChannel b]
  { channels := s.lau.channels.map fun ch => ⟨ch.level, ch.health, ch.clamped⟩
    sea := sea
    cls := cls
    stale := cls = .lost && (old.stale || decide (s.lau.lostLimit * 1000 < s.lau.lostTime cls))
    voted := voted
    heads := Vector.ofFn fun n => formHead s.lau.channels[chamberOf n] sea voted old.heads[n]
    wells := wells
    margins := Vector.ofFn fun p => marginOf wells[bayOfPump p].level (s.pump p)
    scan := (old.scan + 1) % 65536 }

/-- Publishes the record of the scan that ends (R22), with the notice of a changed sea class (R17); the first scan event's
class is compared with the start-up record's LOST (DESIGN CHOICE, notes/assumptions/28.md). -/
def State.publishRecord (s : State) : State :=
  let old := s.lau.record
  let new := s.formRecord
  let t := s.onLau fun l => { l with record := new, lostMs := l.lostTime new.cls, scan := none }
  if new.cls = old.cls then t
  else
    t.notify (if new.cls = .lost || new.cls = .diverged then .fault else .status) .seaClassChanged new.cls.code 0
      new.sea old.cls.code

/-! ## Requests -/

/-- GET LEVELS: one channel's fields (R22, R23). -/
def channelData (v : ChannelView) (ch : Channel) : List Byte :=
  encodeFields [(.s16, v.level), (.u8, v.health.code), (.u8, flag v.clamped), (.u16, ch.raw),
    (.u8, flag ch.awaiting), (.u8, flag ch.seeded), (.u16, secs ch.ageMs)]

/-- A signed value limited to −32767..+32767 (R166: head losses and margins). -/
def limited (v : Int) : Int := clampInt (-32767) 32767 v

/-- A group that may be absent (R166). -/
def group {α : Type} (f : α → List Byte) : Option α → List Byte
  | none => [0x00#8]
  | some a => 0x01#8 :: f a

/-- A signed value or the mark unavailable (R166). -/
def available (v : Option Int) : Int := v.getD (-32768)

/-- The data of GET LEVELS (R23), for a part 0, 1 or 2. -/
def State.levelsData (s : State) (part : Nat) : List Byte :=
  let r := s.lau.record
  let body :=
    if part < 2 then
      (allChannels.filter fun c => c.val / 6 = part).flatMap fun c => channelData r.channels[c] s.lau.channels[c]
    else
      encodeFields [(.s16, r.sea), (.u8, r.cls.code), (.u8, flag r.stale), (.u8, flag r.voted)]
        ++ (allScreens.flatMap fun n => encodeFields [(.s16, limited r.heads[n].loss), (.u8, flag r.heads[n].unknown)])
        ++ (allBays.flatMap fun b => encodeFields [(.s16, r.wells[b].level), (.u8, flag r.wells[b].unknown)])
        ++ (allPumps.flatMap fun p => encodeField .s16 (limited r.margins[p]))
        ++ group (fun ms => encodeField .u16 (secs ms)) (if r.cls = .lost then some s.lau.lostMs else none)
  body ++ encodeField .u16 r.scan

/-- GET LEVELS (R23). -/
def execGetLevels (a : Form Nat) (s : State) : Host.Outcome State Fault Refusal :=
  .next (s.request (.getLevels a) (withArgs a fun part t =>
    if 2 < part then .refuse t .badArgument else ⟨t, .ok, t.levelsData part⟩))

/-- A change of the enabled field (R4); a value it already has changes nothing. -/
def Channel.setEnabled (ch : Channel) (on : Bool) : Channel :=
  if on = ch.enabled then ch
  else if on then { ch with enabled := true, health := .under, awaiting := true, seeded := false }
  else { ch with enabled := false, health := .disabled, seeded := false, clamped := false, awaiting := false }

/-- The calibration and filter settings a request gives; a change of Z, G or E clears the seeded flag (R3). -/
def Channel.calibrate (ch : Channel) (c : ChannelArgs) : Channel :=
  let z := taken (clampNat 0 65535) c.zero ch.zero
  let g := taken (clampNat 0 65535) c.gain ch.gain
  let e := taken (clampInt (-20000) 20000) c.elevation ch.elevation
  { ch with
    zero := z, gain := g, elevation := e, shift := taken (clampNat 0 6) c.shift ch.shift
    seeded := ch.seeded && decide (z = ch.zero ∧ g = ch.gain ∧ e = ch.elevation) }

/-- Whether SET CHANNEL had a value clamped. -/
def channelClamped (c : ChannelArgs) : Bool :=
  adjusted (clampNat 0 65535) c.zero || adjusted (clampNat 0 65535) c.gain
    || adjusted (clampInt (-20000) 20000) c.elevation || adjusted (clampNat 0 6) c.shift

/-- Whether SET CHANNEL names a setting. -/
def channelNamed (c : ChannelArgs) : Bool :=
  c.enabled.isSome || c.zero.isSome || c.gain.isSome || c.elevation.isSome || c.shift.isSome

/-- SET CHANNEL on a channel (R3, R4). -/
def setChannelOn (n : ChannelId) (en : Option Bool) (c : ChannelArgs) (s : State) : Answer :=
  let t := s.onChannel n fun ch => (ch.setEnabled (en.getD ch.enabled)).calibrate c
  let ch := t.lau.channels[n]
  ⟨t, okCode (channelClamped c), takenData (channelClamped c)
    [(c.enabled.isSome, .u8, flag ch.enabled), (c.zero.isSome, .u16, ch.zero), (c.gain.isSome, .u16, ch.gain),
      (c.elevation.isSome, .s16, ch.elevation), (c.shift.isSome, .u16, ch.shift)]⟩

/-- SET CHANNEL (R3, R4). -/
def execSetChannel (a : Form ChannelArgs) (s : State) : Host.Outcome State Fault Refusal :=
  .next (s.request (.setChannel a) (withArgs a fun c t =>
    match index0 12 c.channel with
    | none => .refuse t .badArgument
    | some n =>
      if !channelNamed c then .refuse t .badArgument
      else
        match c.enabled with
        | none => setChannelOn n none c t
        | some v =>
          match yesNo v with
          | none => .refuse t .badArgument
          | some on => setChannelOn n (some on) c t))

/-- A change of the relative density clears the seeded flag of every enabled channel (R6). -/
def Lau.setDensity (l : Lau) (v : Nat) : Lau :=
  if v = l.density then l
  else
    { l with
      density := v, channels := l.channels.map fun ch => { ch with seeded := ch.seeded && !ch.enabled } }

/-- SET DENSITY (R6). -/
def execSetDensity (a : Form Nat) (s : State) : Host.Outcome State Fault Refusal :=
  .next (s.request (.setDensity a) (withArgs a fun v t =>
    let w := clampNat 9900 10400 v
    ⟨t.onLau fun l => l.setDensity w, okCode (decide (w ≠ v)), takenData (decide (w ≠ v)) [(true, .u16, w)]⟩))

/-- The scan interval taken: rounded to a multiple of 100 ms, then clamped (R2). -/
def scanInterval (v : Nat) : Nat := clampNat 100 2000 ((roundDiv v 100).toNat * 100)

/-- SET SCAN (R2); the interval already running completes at its old length. -/
def execSetScan (a : Form Nat) (s : State) : Host.Outcome State Fault Refusal :=
  .next (s.request (.setScan a) (withArgs a fun v t =>
    let w := scanInterval v
    ⟨t.onLau fun l => { l with interval := w }, okCode (decide (w ≠ v)),
      takenData (decide (w ≠ v)) [(true, .u16, w)]⟩))

/-- SET SEA (R6). -/
def execSetSea (a : Form SeaArgs) (s : State) : Host.Outcome State Fault Refusal :=
  .next (s.request (.setSea a) (withArgs a fun c t =>
    if c.tolerance.isNone && c.lostLimit.isNone then .refuse t .badArgument
    else
      let t' := t.onLau fun l =>
        { l with
          tolerance := taken (clampNat 10 500) c.tolerance l.tolerance
          lostLimit := taken (clampNat 10 300) c.lostLimit l.lostLimit }
      let clamped := adjusted (clampNat 10 500) c.tolerance || adjusted (clampNat 10 300) c.lostLimit
      ⟨t', okCode clamped, takenData clamped
        [(c.tolerance.isSome, .u16, t'.lau.tolerance), (c.lostLimit.isSome, .u16, t'.lau.lostLimit)]⟩))

/-- The scan timer starts with the interval in force, and a scan with it (R1, R2). -/
def Lau.startScan (l : Lau) (samples : Vector Nat 12) (elapsed : Nat) : Lau :=
  { l with timer := 0, period := l.interval, scan := some ⟨samples, 0, elapsed⟩ }

/-- SCAN_TIMER_EXPIRY (R1): at the expiry the scan timer restarts with the interval in force and a scan starts; the
operand says how many of its channels are dealt with in this step (R15). -/
def execScanTimerExpiry (samples : Vector Nat 12) (dealt : Nat) (s : State) : Host.Outcome State Fault Refusal :=
  .next
    (if s.active && decide (s.lau.period ≤ s.lau.timer) && s.lau.scan.isNone then
      State.dealMany (min dealt 12) (s.onLau fun l => l.startScan samples l.timer)
    else s)

end Sys2Proof.Machine
end

