-- ==== Sys2Proof/Machine/Starters.lean ====
section
/-! DEFINITION. Sys2Proof/Machine/Starters.lean: the shared operations of the pump state machine, the start queue and
the start arbiter (Chapter 6), with the changeover stop (R149) and the low-level stop (R150) that an entry into RUNNING
may bring. -/

namespace Sys2Proof.Machine

/-! ## Pump states (R118, R119, R123) -/

/-- The pump enters a state; PRUN is on exactly while it is in STARTING or RUNNING (R118), a low-margin period ends when
it is in neither (R150), and a duty evaluation follows (R143). -/
def State.enterPump (s : State) (p : PumpId) (st : PumpState) : State :=
  (s.onPump p fun q =>
    { q with state := st, run := st.commanded, lowMargin := if st.commanded then q.lowMargin else none })
    |>.evaluationFollows

/-- The recovery time of a class, in seconds (R117). -/
def Pdc.recoveryTime (d : Pdc) : PumpClass → Nat
  | .large => d.recoveryLarge
  | .small => d.recoverySmall

/-- The pump enters RECOVERING with its timer as it stands, and passes on to STOPPED when that is 0 (R123). -/
def State.rest (s : State) (p : PumpId) : State :=
  s.enterPump p (if (s.pump p).recovery = 0 then .stopped else .recovering)

/-- Publishes the running count to the SWC at a change of it; the header arbiter re-evaluates (R104, R119). -/
def State.publishRunning (s : State) : State :=
  if s.runningNow = s.swc.runningCount then s
  else (s.onSwc fun w => { w with runningCount := s.runningNow }).reevaluate

/-! ## Stops (R122) -/

/-- The pump enters RECOVERING from STOPPING: its recovery timer is loaded, PUMP_STOPPED is queued (R124) and the
outcome STOPPED handed (R133, R179). -/
def State.stopEnded (s : State) (p : PumpId) : State :=
  let q := s.pump p
  let origin := (q.stopOrigin.map StopOrigin.code).getD 0
  let t := s.onPump p fun q =>
    { q with stopTimer := 0, stopMark := none, recovery := s.pdc.recoveryTime q.cls * 1000 }
  ((t.rest p).notify .status .pumpStopped (p.val + 1) 0 origin (min (q.runTime / 60000) 32767 : Nat)).complete q.stopMark
    0 origin

/-- A stop order: made for a pump in RUNNING only (R122). -/
def State.orderStop (s : State) (p : PumpId) (o : StopOrigin) (mark : Option Nat) : State :=
  if (s.pump p).state = .running then
    let t := ((s.enterPump p .stopping).onPump p fun q =>
      { q with stopTimer := 0, stopOrigin := some o, stopMark := mark }).publishRunning
    if (s.pump p).feedback then t else t.stopEnded p
  else s

/-- The low-level stop of a RUNNING pump: its notice, then its order (R150). -/
def State.lowLevelStop (s : State) (p : PumpId) : State :=
  (s.notify .alarm .lowLevelStop (p.val + 1) 0 (limited s.lau.record.margins[p]) ((bayOfPump p).val + 1 : Nat)).orderStop p
    .lowLevel none

/-- Whether the low-level stop of a pump is due: its period runs, and has lasted the trip delay in force now or when the
stop fell due (R150). -/
def State.lowLevelDue (s : State) (p : PumpId) : Bool :=
  match (s.pump p).lowMargin with
  | some m => m.due || reached m.ms s.pdc.tripDelay
  | none => false

/-- Whether the low-level stop of a pump falls due now: that of a pump in STARTING falls due once, and waits (R150). -/
def State.lowLevelFalls (s : State) (p : PumpId) : Bool :=
  match (s.pump p).lowMargin with
  | some m => s.lowLevelDue p && (decide ((s.pump p).state = .running) || !m.due)
  | none => false

/-- The low-level stop falls due: made for a pump in RUNNING, and held by the period of one in STARTING (R150). -/
def State.lowLevelActs (s : State) (p : PumpId) : State :=
  if (s.pump p).state = .running then s.lowLevelStop p
  else s.onPump p fun q => { q with lowMargin := q.lowMargin.map fun m => { m with due := true } }

/-! ## Starts (R120, R121, R129..R131) -/

/-- The start in flight has ended: the start spacing runs from here (R129). -/
def State.startEnded (s : State) : State := s.onPdc fun d => { d with sinceStart := some 0, spacingTaken := false }

/-- The changeover pair that starts `p`, if one is in flight, ends (R149). -/
def State.endPair (s : State) (p : PumpId) : State :=
  s.onPdc fun d => { d with pair := d.pair.filter fun pr => pr.b ≠ p }

/-- The entry of pump B of a changeover into RUNNING: W's stop is ordered and the pair ends (R149). -/
def State.changeoverStop (s : State) (p : PumpId) : State :=
  match s.pdc.pair with
  | some pr => if pr.b = p then (s.endPair p).orderStop pr.w .changeover none else s
  | none => s

/-- The entry into RUNNING: PUMP_STARTED, the running count, the end of the start and its outcome (R120, R124, R131), the
changeover stop (R149), and a low-level stop that waited for the start (R150). -/
def State.enterRunning (s : State) (p : PumpId) : State :=
  let q := s.pump p
  let t := (((s.enterPump p .running).onPump p fun q => { q with startTimer := 0, startMark := none, runTime := 0 }).notify
    .status .pumpStarted (p.val + 1) 0 q.startOrigin.code (min q.starts 32767 : Nat)).publishRunning
  let u := (t.startEnded.complete q.startMark 0 0).changeoverStop p
  if u.lowLevelDue p then u.lowLevelStop p else u

/-- The entry into FAILED from STARTING, RUNNING or STOPPING: the cause, the recovery timer loaded, PUMP_FAILED (R118,
R123, R124), and what the failure of a start, a run or a stop brings (R119, R131, R133, R149). -/
def State.failPump (s : State) (p : PumpId) (c : FailCause) : State :=
  let q := s.pump p
  let t := ((s.enterPump p .failed).onPump p fun q =>
    { q with
      cause := c, recovery := s.pdc.recoveryTime q.cls * 1000
      startTimer := 0, stopTimer := 0, startMark := none, stopMark := none })
    |>.notify .fault .pumpFailed (p.val + 1) 0 c.code (s.pdc.recoveryTime q.cls : Nat)
  match q.state with
  | .starting => (t.startEnded.endPair p).complete q.startMark 1 c.code
  | .running => t.publishRunning
  | .stopping => t.complete q.stopMark 1 c.code
  | .disabled | .recovering | .stopped | .failed => t

/-- Whether the device load leaves room under the device pump cap (R130, R148). -/
def State.underCap (s : State) : Bool :=
  match s.twu.condition.cap with
  | some c => decide (s.deviceLoad < c)
  | none => true

/-- The first grant check that fails for a pump (R130). -/
def State.grantCheck (s : State) (p : PumpId) : Option Nat :=
  if (s.pump p).state ≠ .stopped then some 1
  else if (s.pump p).trip then some 2
  else if s.lau.record.margins[p] < (s.pdc.startMargin : Int) then some 3
  else if s.lau.record.wells[bayOfPump p].unknown then some 4
  else if s.ceiling (bayOfPump p) ≤ s.bayLoad (bayOfPump p) then some 5
  else if !s.underCap then some 6
  else none

/-- The entry into STARTING (R120); PTRP then active ends the start (R121), PFB then true completes it. -/
def State.beginStart (s : State) (e : StartEntry) : State :=
  let t := (s.enterPump e.pump .starting).onPump e.pump fun q =>
    { q with starts := min (q.starts + 1) 65535, startTimer := 0, startOrigin := e.origin, startMark := e.mark }
  if (s.pump e.pump).trip then t.failPump e.pump .tripped
  else if (s.pump e.pump).feedback then t.enterRunning e.pump
  else t

/-- An entry removed with NOT_PERMITTED: to the deferred table when its mark is set, to the duty controller when its
origin is DUTY (R130, R131, R149). -/
def State.refuseStart (s : State) (e : StartEntry) (check : Nat) : State :=
  match e.origin with
  | .host => s.complete e.mark 2 check
  | .duty => ((s.complete e.mark 2 check).endPair e.pump).evaluationFollows

/-- Takes entries from the oldest on, until one is granted or the queue is empty (R129). -/
def State.grantFrom : List StartEntry → State → State
  | [], s => s.onPdc fun d => { d with queue := [] }
  | e :: q, s =>
    let t := s.onPdc fun d => { d with queue := q }
    match t.grantCheck e.pump with
    | none => t.beginStart e
    | some check => State.grantFrom q (t.refuseStart e check)

/-- Whether the start spacing has run out (R129). -/
def Pdc.spacingOut (d : Pdc) : Bool :=
  match d.sinceStart with
  | some ms => reached ms d.startSpacing
  | none => true

/-- Whether a pump is in STARTING. -/
def State.anyStarting (s : State) : Bool := allPumps.any fun p => (s.pump p).state = .starting

/-- The start arbiter evaluates (R129). -/
def State.startArbiter (s : State) : State :=
  if !s.anyStarting && s.pdc.spacingOut then State.grantFrom s.pdc.queue s else s

/-- An entry joins the start queue, or is merged into the pump's entry (R128); at a joining the arbiter evaluates. -/
def State.joinStart (s : State) (p : PumpId) (o : StartOrigin) (mark : Option Nat) : State :=
  if s.pdc.queue.any (fun e => e.pump = p) then
    s.onPdc fun d =>
      { d with queue := d.queue.map fun e => if e.pump = p then { e with mark := mergedMark e.mark mark } else e }
  else (s.onPdc fun d => { d with queue := d.queue ++ [⟨p, o, mark, 0⟩] }).startArbiter

/-- Whether the pump holds a start queue entry. -/
def State.queued (s : State) (p : PumpId) : Bool := s.pdc.queue.any fun e => e.pump = p

/-- Removes the pump's entry from the start queue. -/
def State.leaveStart (s : State) (p : PumpId) : State :=
  s.onPdc fun d => { d with queue := d.queue.filter fun e => e.pump ≠ p }

end Sys2Proof.Machine
end

