-- ==== Sys2Proof/Machine/Duty.lean ====
section
/-! DEFINITION. Sys2Proof/Machine/Duty.lean: the duty controller (Chapter 7): shed scopes, the add decision, the
changeover search, the duty evaluation, and the commands that act through it. -/

namespace Sys2Proof.Machine

/-! ## Shed scopes (R146, R147, R152) -/

/-- Whether a pump belongs to a scope. -/
def inScope (k : ScopeId) (p : PumpId) : Bool := k = 3 || (bayOfPump p).val = k.val

/-- The bay of a scope that is not the device. -/
def scopeBay (k : ScopeId) : BayId := if k = 0 then 0 else if k = 1 then 1 else 2

/-- Whether the pump being started for a changeover is in STARTING, and so is left out of the device's load (R146). -/
def State.pairStarting (s : State) : Bool :=
  match s.pdc.pair with
  | some pr => decide ((s.pump pr.b).state = .starting)
  | none => false

/-- The load of a scope. -/
def State.scopeLoad (s : State) (k : ScopeId) : Nat :=
  if k = 3 then s.deviceLoad - flag s.pairStarting else s.bayLoad (scopeBay k)

/-- The limit of a scope, if it has one. -/
def State.scopeLimit (s : State) (k : ScopeId) : Option Nat :=
  if k = 3 then s.deviceLimit else some (s.ceiling (scopeBay k))

/-- Whether a scope is in excess. -/
def State.inExcess (s : State) (k : ScopeId) : Bool :=
  match s.scopeLimit k with
  | some l => decide (l < s.scopeLoad k)
  | none => false

/-- Origin of the stops of a scope. -/
def State.scopeOrigin (s : State) (k : ScopeId) : StopOrigin :=
  if k = 3 then
    match s.twu.condition.cap with
    | some c => if c < s.scopeLoad k then .cap else .demand
    | none => .demand
  else .ceiling

/-- The candidate of a scope: the latest in the duty order among its pumps in RUNNING or STARTING. -/
def State.candidate (s : State) (k : ScopeId) : Option PumpId :=
  s.pdc.order.toList.reverse.find? fun p => inScope k p && (s.pump p).state.commanded

/-- Whether the header hold blocks the stop of a RUNNING pump. -/
def State.blocked (s : State) (p : PumpId) : Bool :=
  s.pdc.headerHeld && decide ((s.pump p).state = .running) && decide (s.runningNow = 1)

/-- A stop due for a scope is made, held or waits; the timer stops. -/
def State.makeDue (s : State) (k : ScopeId) : State :=
  match s.candidate k with
  | none => s.onScope k fun _ => {}
  | some p =>
    if (s.pump p).state = .starting then s.onScope k fun _ => { due := .waiting }
    else if s.blocked p then s.onScope k fun _ => { due := .held p }
    else (s.onScope k fun _ => {}).orderStop p (s.scopeOrigin k) none

/-- A scope whose timer has reached the shed delay at its turn: its stop is due while it is in excess, and given up when
it is not (R146, R147). -/
def State.fallDue (s : State) (k : ScopeId) : State := if s.inExcess k then s.makeDue k else s.onScope k fun _ => {}

/-- Brings one scope up to date (R146), re-examining a due stop (R147). -/
def State.updateScope (s : State) (k : ScopeId) : State :=
  if s.inExcess k then
    match s.pdc.scopes[k].due with
    | .waiting | .held _ => s.makeDue k
    | .none =>
      match s.pdc.scopes[k].timer with
      | none => s.onScope k fun sc => { sc with timer := some 0 }
      | some _ => s
  else s.onScope k fun _ => {}

/-! ## Add decision and changeover search (R144, R148) -/

/-- Whether a start of origin DUTY is queued or in flight. -/
def State.dutyStart (s : State) : Bool :=
  s.pdc.queue.any (fun e => e.origin = .duty)
    || allPumps.any fun p => decide ((s.pump p).state = .starting ∧ (s.pump p).startOrigin = .duty)

/-- The conditions on a pump that the duty controller may start. -/
def State.startable (s : State) (p : PumpId) : Bool :=
  decide ((s.pump p).state = .stopped) && !(s.pump p).trip && !s.queued p
    && decide ((s.pdc.startMargin : Int) ≤ s.lau.record.margins[p])
    && !s.lau.record.wells[bayOfPump p].unknown
    && decide (s.bayLoad (bayOfPump p) < s.ceiling (bayOfPump p))

/-- The pump the add decision queues, if any. -/
def State.addChoice (s : State) : Option PumpId :=
  if decide (s.deviceLoad < s.target) && !s.dutyStart then s.pdc.order.toList.find? s.startable else none

/-- The conditions of a changeover search, beside an add decision that made no add. -/
def State.searching (s : State) : Bool :=
  s.pdc.changeover && s.pdc.pair.isNone && !s.dutyStart && !s.inExcess 3

/-- The first pair found, taking W from the latest RUNNING pump in the list and B from the first above it. -/
def State.findPair (s : State) : Option Pair :=
  if s.underCap then
    (s.pdc.order.toList.reverse.filter fun w => (s.pump w).state = .running).findSome? fun w =>
      ((s.pdc.order.toList.takeWhile (· ≠ w)).find? s.startable).map fun b => ⟨b, w⟩
  else none

/-- The changeover search (R148). -/
def State.searchChangeover (s : State) : State :=
  if s.searching then
    match s.findPair with
    | some pr => (s.onPdc fun d => { d with pair := some pr }).joinStart pr.b .duty none
    | none => s.onPdc fun d => { d with changeover := false }
  else s

/-! ## The duty evaluation (R143) -/

/-- One duty evaluation: the shed scopes in order; in AUTO the add decision, and without an add the search. -/
def State.dutyEvaluate (s : State) : State :=
  let t := allScopes.foldl State.updateScope s
  match t.pdc.mode with
  | .manual => t
  | .auto =>
    match t.addChoice with
    | some p => t.joinStart p .duty none
    | none => t.searchChangeover

/-- The evaluations that follow a piece of work, each in turn, until none follows. -/
def State.evaluations : Nat → State → State
  | 0, s => s
  | n + 1, s =>
    if s.pdc.evaluationDue then
      State.evaluations n ((s.onPdc fun d => { d with evaluationDue := false }).dutyEvaluate)
    else s

/-- The end of a piece of work: the duty evaluations it calls for (DEDUCED, notes/assumptions/8.md). An event of R143
makes its evaluation before the first scan event too, which R156 leaves open (DESIGN CHOICE, notes/assumptions/8.md). -/
def State.settle (s : State) : State := State.evaluations 32 s

/-! ## Commands -/

/-- SHED_TIMER_EXPIRY (R146, R147). -/
def execShedTimerExpiry (k : ScopeId) (s : State) : Host.Outcome State Fault Refusal :=
  .next
    (match s.pdc.scopes[k].timer with
     | some ms => if s.active && reached ms s.pdc.shedDelay then (s.fallDue k).settle else s
     | none => s)

/-- LOW_LEVEL_STOP (R150): the stop of a pump in STARTING waits for its start to end. -/
def execLowLevelStop (p : PumpId) (s : State) : Host.Outcome State Fault Refusal :=
  .next (if s.active && s.lowLevelFalls p then (s.lowLevelActs p).settle else s)

/-- A duty order list with its first pump moved to the end (R135). -/
def rotate (v : Vector PumpId 8) : Vector PumpId 8 :=
  #v[v[1], v[2], v[3], v[4], v[5], v[6], v[7], v[0]]

/-- Whether the rotation timer has run its interval (R135). -/
def Pdc.rotationDue (d : Pdc) : Bool :=
  decide (d.rotationInterval ≠ 0) && reached d.rotationTimer (d.rotationInterval * 3600)

/-- ROTATION_TIMER_EXPIRY (R135): the list rotates, the timer restarts, and the changeover pending mark is set. -/
def execRotationTimerExpiry (s : State) : Host.Outcome State Fault Refusal :=
  .next
    (if s.active && s.pdc.rotationDue then
      ((s.onPdc fun d => { d with order := rotate d.order, rotationTimer := 0, changeover := true }).notify .status .rotated
        (s.pdc.order[1].val + 1) 0 (s.pdc.order[0].val + 1 : Nat) 0).evaluationFollows.settle
     else s)

/-- SET DEMAND (R140). -/
def execSetDemand (a : Form Nat) (s : State) : Host.Outcome State Fault Refusal :=
  .next (s.request (.setDemand a) (withArgs a fun v => outsideFallback fun t =>
    let w := clampNat 0 8 v
    ⟨if w = t.pdc.demand then t else ((t.onPdc fun d => { d with demand := w }).evaluationFollows).settle,
      okCode (decide (w ≠ v)), takenData (decide (w ≠ v)) [(true, .u16, w)]⟩))

/-- A held stop dropped (R136, R152). -/
def Scope.dropHeld (k : Scope) : Scope :=
  match k.due with
  | .held _ => {}
  | .none | .waiting => k

/-- The change from AUTO to MANUAL (R136, R149). -/
def Pdc.toManual (d : Pdc) : Pdc :=
  { d with
    mode := .manual, pair := none, scopes := d.scopes.map Scope.dropHeld
    queue := d.queue.filter fun e => e.origin ≠ .duty }

/-- A change of duty mode (R136). -/
def State.setMode (s : State) (m : DutyMode) : State :=
  if m = s.pdc.mode then s
  else
    (match m with
     | .manual => s.onPdc Pdc.toManual
     | .auto => s.onPdc fun d => { d with mode := .auto }).evaluationFollows

/-- SET DUTY MODE (R136). -/
def execSetDutyMode (a : Form Nat) (s : State) : Host.Outcome State Fault Refusal :=
  .next (s.request (.setDutyMode a) (withArgs a fun v t =>
    match toDutyMode v with
    | none => .refuse t .badArgument
    | some m => outsideFallback (fun t => ⟨(t.setMode m).settle, .ok, []⟩) t))

/-- SET DUTY ORDER (R134, R135, R148). -/
def execSetDutyOrder (a : Form (List Nat)) (s : State) : Host.Outcome State Fault Refusal :=
  .next (s.request (.setDutyOrder a) (withArgs a fun l t =>
    match toOrder l with
    | none => .refuse t .badArgument
    | some o =>
      let u := t.onPdc fun d => { d with order := o, rotationTimer := 0, changeover := true }
      ⟨if u.pdc = t.pdc then u else u.evaluationFollows.settle, .ok, []⟩))

end Sys2Proof.Machine
end

