-- ==== Sys2Proof/Machine/Screens.lean ====
section
/-! DEFINITION. Sys2Proof/Machine/Screens.lean: the commands of the Screen Wash Controller (Chapters 4 and 5): the
screens' pins and timers, the header purge and the sluice, and the requests answered at once. -/

namespace Sys2Proof.Machine

/-! ## Pulses, jams and stalls -/

/-- Whether the index guard refuses a pulse (R71). -/
def WashRecord.guarded (w : WashRecord) (seconds : Nat) : Bool :=
  match w.guard with
  | some ms => !reached ms seconds
  | none => false

/-- The record after an accepted pulse (R71). -/
def WashRecord.accept (w : WashRecord) : WashRecord :=
  { w with accepted := min (w.accepted + 1) 65535, passTimer := 0, guard := some 0 }

/-- Replaces a screen's wash record. -/
def State.setWash (s : State) (n : ScreenId) (w : WashRecord) : State := s.onScreen n fun sc => { sc with wash := some w }

/-- An accepted pulse acts on the state of a counted (R72) or a continuous wash (R73). -/
def State.acceptPulse (s : State) (n : ScreenId) (w : WashRecord) : State :=
  match (s.screen n).state with
  | .washing =>
    if w.passes = 0 then s.setWash n w
    else if w.counter = 0 then (s.setWash n w).enterScreen n .finishing
    else s.setWash n { w with counter := w.counter - 1 }
  | .finishing => ((s.setWash n w).endWash n .complete .idle).settle
  | .outOfService | .idle | .queued | .jammed => s

/-- INDEX_PULSE (R71..R73). -/
def execIndexPulse (n : ScreenId) (s : State) : Host.Outcome State Fault Refusal :=
  .next
    (if s.active && (s.screen n).state.isWashing then
      match (s.screen n).wash with
      | none => s
      | some w =>
        if w.guarded s.swc.indexGuard then s.setWash n { w with doubleIndex := true } else s.acceptPulse n w.accept
     else s)

/-- What a screen does at a change of SJAM, a rising edge ending its wash (R78) and either edge re-evaluating the arbiter
while it is QUEUED (R92, R104). -/
def State.jamActs (s : State) (n : ScreenId) (rising : Bool) : State :=
  match (s.screen n).state with
  | .washing | .finishing => if rising then (s.endWash n .jammed .jammed).publishCapacity.settle else s
  | .queued => s.reevaluate.settle
  | .outOfService | .idle | .jammed => s

/-- A new level of SJAM: it is read in every phase, and acts once LOADING has ended. -/
def State.jamLevel (s : State) (n : ScreenId) (level : Bool) : State :=
  if (s.screen n).jam = level then s
  else
    let t := s.onScreen n fun sc => { sc with jam := level }
    if t.active then t.jamActs n level else t

/-- SJAM_RISING (R78, R92). -/
def execSjamRising (n : ScreenId) (s : State) : Host.Outcome State Fault Refusal := .next (s.jamLevel n true)

/-- SJAM_FALLING (R92, R104). -/
def execSjamFalling (n : ScreenId) (s : State) : Host.Outcome State Fault Refusal := .next (s.jamLevel n false)

/-- Whether a screen's pass timer has reached the pass timeout (R75). -/
def State.stalled (s : State) (n : ScreenId) : Bool :=
  match (s.screen n).wash with
  | some w => reached w.passTimer s.swc.passTimeout
  | none => false

/-- PASS_TIMEOUT (R75). -/
def execPassTimeout (n : ScreenId) (s : State) : Host.Outcome State Fault Refusal :=
  .next (if s.active && (s.screen n).state.isWashing && s.stalled n then (s.endWash n .stalled .idle).settle else s)

/-! ## Header loss, sluice and header purge -/

/-- HDOK_CHANGE (R104, R108): the pin is read in every phase, and acts once LOADING has ended. -/
def execHdokChange (level : Bool) (s : State) : Host.Outcome State Fault Refusal :=
  .next
    (if level = s.swc.hdok then s
     else if s.active then
      (s.onSwc fun w =>
        { w with hdok := level, falsePeriod := if level then none else some 0 }).reevaluate.settle
     else s.onSwc fun w => { w with hdok := level })

/-- Whether a false period has reached the header loss delay (R108). -/
def Swc.lossReached (w : Swc) : Bool :=
  match w.falsePeriod with
  | some ms => reached ms w.lossDelay
  | none => false

/-- Every wash in progress ends NO_WATER (R108). -/
def State.loseHeader (s : State) : State := s.endWashes (fun _ _ => true) .noWater

/-- HEADER_LOSS_DELAY_EXPIRY (R108). -/
def execHeaderLossDelayExpiry (s : State) : Host.Outcome State Fault Refusal :=
  .next (if s.active && s.swc.lossReached then s.loseHeader.settle else s)

/-- Whether the sluice run has reached its time (R109). -/
def Swc.sluiceDone (w : Swc) : Bool := w.sluicing && reached w.sluiceMs w.sluiceTime

/-- SLUICE_RUN_END (R109, R88). -/
def execSluiceRunEnd (s : State) : Host.Outcome State Fault Refusal :=
  .next (if s.active && s.swc.sluiceDone then s.endSluice.publishHeld.settle else s)

/-- Whether the header purge timer has run its interval (R105). -/
def Swc.purgeFalls (w : Swc) : Bool :=
  decide (w.purge = .idle ∧ w.purgeInterval ≠ 0) && reached w.purgeTimer (w.purgeInterval * 60)

/-- HEADER_PURGE_TIMER_EXPIRY (R105): PENDING, and at once ACTIVE when nothing stands against it. -/
def execHeaderPurgeTimerExpiry (s : State) : Host.Outcome State Fault Refusal :=
  .next
    (if s.active && s.swc.purgeFalls then
      (s.onSwc fun w => { w with purge := .pending, pendingMs := 0 }).activatePurge.publishHeld.settle
     else s)

/-- Whether the purge's active time has reached the header purge time (R106). -/
def Swc.purgeDone (w : Swc) : Bool := decide (w.purge = .active) && reached w.activeMs w.purgeTime

/-- The header purge leaves ACTIVE or PENDING for IDLE, and the arbiter re-evaluates (R104, R106). -/
def State.finishPurge (s : State) : State := s.idlePurge.publishHeld.reevaluate

/-- HEADER_PURGE_COMPLETE (R106). -/
def execHeaderPurgeComplete (s : State) : Host.Outcome State Fault Refusal :=
  .next (if s.active && s.swc.purgeDone then s.finishPurge.settle else s)

/-- Whether a PENDING purge has reached the deferral limit and is not overdue yet (R107). -/
def Swc.purgeLate (w : Swc) : Bool :=
  decide (w.purge = .pending) && !w.overdue && reached w.pendingMs (w.deferral * 60)

/-- The header purge becomes overdue (R107, R74). -/
def State.purgeOverdue (s : State) : State := (s.onSwc fun w => { w with overdue := true }).finishContinuous

/-- PURGE_OVERDUE (R107). -/
def execPurgeOverdue (s : State) : Host.Outcome State Fault Refusal :=
  .next (if s.active && s.swc.purgeLate then s.purgeOverdue else s)

/-! ## Requests -/

/-- The mark of the screen's queue entry. -/
def State.queueMark (s : State) (n : ScreenId) : Option Nat :=
  match s.swc.queue.find? fun e => e.screen = n with
  | some e => e.mark
  | none => none

/-- A queue entry removed, WITHDRAWN handed for its mark (R79, R80, R85), and the arbiter re-evaluates (R104). -/
def State.removeEntry (s : State) (n : ScreenId) (next : ScreenState) : State :=
  (((s.complete (s.queueMark n) 6 0).leaveQueue n).enterScreen n next).reevaluate

/-- STOP WASH by the screen's state (R79). -/
def State.stopWash (s : State) (n : ScreenId) : State :=
  match (s.screen n).state with
  | .washing | .finishing => (s.endWash n .abortedByRequest .idle).settle
  | .queued => (s.removeEntry n .idle).settle
  | .outOfService | .idle | .jammed => s

/-- STOP WASH (R79). -/
def execStopWash (a : Form Nat) (s : State) : Host.Outcome State Fault Refusal :=
  .next (s.request (.stopWash a) (withArgs a fun v t =>
    match index1 6 v with
    | none => .refuse t .badArgument
    | some n => outsideFallback (fun t => ⟨t.stopWash n, .ok, []⟩) t))

/-- CLEAR SCREEN (R93, R111). -/
def execClearScreen (a : Form Nat) (s : State) : Host.Outcome State Fault Refusal :=
  .next (s.request (.clearScreen a) (withArgs a fun v t =>
    match index1 6 v with
    | none => .refuse t .badArgument
    | some n =>
      match (t.screen n).state with
      | .jammed =>
        if (t.screen n).jam then .refuse t .jamActive
        else ⟨(t.enterScreen n .idle).publishCapacity.settle, .ok, []⟩
      | .outOfService | .idle | .queued | .washing | .finishing => .refuse t .state))

/-- SET SERVICE out by the screen's state (R80). -/
def State.serviceOut (s : State) (n : ScreenId) : State :=
  match (s.screen n).state with
  | .washing | .finishing => s.endWash n .abortedByRequest .outOfService
  | .queued => s.removeEntry n .outOfService
  | .idle | .jammed => s.enterScreen n .outOfService
  | .outOfService => s

/-- A screen found jammed with its band stopped enters JAMMED with its notice (R92). -/
def State.foundJammed (s : State) (n : ScreenId) : State :=
  (s.enterScreen n .jammed).notify .fault .screenJammed (n.val + 1) 0 0 0

/-- SET SERVICE in by the screen's state (R80). -/
def State.serviceIn (s : State) (n : ScreenId) : State :=
  match (s.screen n).state with
  | .outOfService => if (s.screen n).jam then s.foundJammed n else s.enterScreen n .idle
  | .idle | .queued | .washing | .finishing | .jammed => s

/-- SET SERVICE (R80). -/
def execSetService (a : Form (Nat × Nat)) (s : State) : Host.Outcome State Fault Refusal :=
  .next (s.request (.setService a) (withArgs a fun x t =>
    match index1 6 x.1, yesNo x.2 with
    | some n, some v =>
      outsideFallback (fun t =>
        let u := t.onScreen n fun sc => { sc with inService := v }
        ⟨(if v then u.serviceIn n else u.serviceOut n).publishCapacity.settle, .ok, []⟩) t
    | _, _ => .refuse t .badArgument))

/-- SET SCREEN on a screen (R96). -/
def Screen.configure (sc : Screen) (c : ScreenArgs) : Screen :=
  { sc with
    washStart := taken (clampNat 0 3000) c.washStart sc.washStart
    high := taken (clampNat 0 3000) c.high sc.high
    blind := taken (clampNat 0 3000) c.blind sc.blind
    defaultPasses := taken (clampNat 1 64) c.defaultPasses sc.defaultPasses }

/-- Whether SET SCREEN had a value clamped. -/
def screenClamped (c : ScreenArgs) : Bool :=
  adjusted (clampNat 0 3000) c.washStart || adjusted (clampNat 0 3000) c.high || adjusted (clampNat 0 3000) c.blind
    || adjusted (clampNat 1 64) c.defaultPasses

/-- SET SCREEN (R96). -/
def execSetScreen (a : Form ScreenArgs) (s : State) : Host.Outcome State Fault Refusal :=
  .next (s.request (.setScreen a) (withArgs a fun c t =>
    match index1 6 c.screen with
    | none => .refuse t .badArgument
    | some n =>
      if c.washStart.isNone && c.high.isNone && c.blind.isNone && c.defaultPasses.isNone then .refuse t .badArgument
      else
        let u := t.onScreen n fun sc => sc.configure c
        let sc := u.screen n
        ⟨u, okCode (screenClamped c), takenData (screenClamped c)
          [(c.washStart.isSome, .u16, sc.washStart), (c.high.isSome, .u16, sc.high), (c.blind.isSome, .u16, sc.blind),
            (c.defaultPasses.isSome, .u16, sc.defaultPasses)]⟩))

/-- The settings SET WASH TIMING gives (R68, R97). -/
def Swc.configure (w : Swc) (c : WashTimingArgs) : Swc :=
  { w with
    passTimeout := taken (clampNat 30 1800) c.passTimeout w.passTimeout
    indexGuard := taken (clampNat 1 30) c.indexGuard w.indexGuard
    washInterval := taken (clampOff 10 1440) c.washInterval w.washInterval
    fallbackInterval := taken (clampNat 10 1440) c.fallbackInterval w.fallbackInterval
    stormPasses := taken (clampNat 1 64) c.stormPasses w.stormPasses
    sluiceTime := taken (clampNat 10 600) c.sluiceTime w.sluiceTime
    purgeInterval := taken (clampOff 5 240) c.purgeInterval w.purgeInterval
    purgeTime := taken (clampNat 10 300) c.purgeTime w.purgeTime
    deferral := taken (clampNat 1 60) c.deferral w.deferral
    lossDelay := taken (clampNat 2 60) c.lossDelay w.lossDelay }

/-- The settings of SET WASH TIMING, in table order. -/
def Swc.timings (w : Swc) : List Nat :=
  [w.passTimeout, w.indexGuard, w.washInterval, w.fallbackInterval, w.stormPasses, w.sluiceTime, w.purgeInterval,
    w.purgeTime, w.deferral, w.lossDelay]

/-- The values SET WASH TIMING carries, in table order. -/
def washTimingValues (c : WashTimingArgs) : List (Option Nat) :=
  [c.passTimeout, c.indexGuard, c.washInterval, c.fallbackInterval, c.stormPasses, c.sluiceTime, c.purgeInterval,
    c.purgeTime, c.deferral, c.lossDelay]

/-- Whether a value given differs from the value taken, for some setting. -/
def anyClamped (given : List (Option Nat)) (now : List Nat) : Bool :=
  (given.zip now).any fun x =>
    match x.1 with
    | some v => decide (v ≠ x.2)
    | none => false

/-- The reply fields of settings of two bytes each, in table order. -/
def wordFields (given : List (Option Nat)) (now : List Nat) : List (Bool × Width × Int) :=
  (given.zip now).map fun x => (x.1.isSome, .u16, (x.2 : Int))

/-- A new header purge interval (R105). -/
def State.purgeIntervalActs (s : State) : State :=
  match s.swc.purge with
  | .idle => s.onSwc fun w => { w with purgeTimer := 0 }
  | .pending => if s.swc.purgeInterval = 0 then s.finishPurge else s
  | .active => s

/-- Does `f` when a setting differs from what it was. -/
def whenNew (old new : Nat) (f : State → State) (s : State) : State := if new = old then s else f s

/-- What the new values of SET WASH TIMING do when the request is taken, in table order (DEDUCED, notes/assumptions/12.md): the
pass timeout (R68), the sluice purge time (R109), the header purge interval (R105), the header purge time (R106), the
deferral limit (R107) and the header loss delay (R108). -/
def State.washTimingActs (s : State) (old : Swc) : State :=
  let new := s.swc
  s
  |> whenNew old.passTimeout new.passTimeout (fun t => t.endWashes (fun u n => u.stalled n) .stalled)
  |> whenNew old.sluiceTime new.sluiceTime (fun t => if t.swc.sluiceDone then t.endSluice.publishHeld else t)
  |> whenNew old.purgeInterval new.purgeInterval State.purgeIntervalActs
  |> whenNew old.purgeTime new.purgeTime (fun t => if t.swc.purgeDone then t.finishPurge else t)
  |> whenNew old.deferral new.deferral (fun t => if t.swc.purgeLate then t.purgeOverdue else t)
  |> whenNew old.lossDelay new.lossDelay (fun t => if t.swc.lossReached then t.loseHeader else t)

/-- SET WASH TIMING (R68, R97). -/
def execSetWashTiming (a : Form WashTimingArgs) (s : State) : Host.Outcome State Fault Refusal :=
  .next (s.request (.setWashTiming a) (withArgs a fun c t =>
    if (washTimingValues c).all Option.isNone then .refuse t .badArgument
    else
      let set := t.onSwc fun w => w.configure c
      let clamped := anyClamped (washTimingValues c) set.swc.timings
      ⟨(set.washTimingActs t.swc).settle, okCode clamped, takenData clamped (wordFields (washTimingValues c) set.swc.timings)⟩))

/-! ## GET SCREEN (R91) -/

/-- A wash record as it is sent. -/
def washBytes (w : WashRecord) : List Byte :=
  encodeFields [(.u16, w.passes), (.u8, w.cls.code), (.u8, flag w.mark.isSome), (.u16, w.counter), (.u16, w.done),
    (.u8, flag w.doubleIndex), (.u16, secs w.passTimer)]

/-- A staged wash as it is sent. -/
def stagedBytes (g : Staged) : List Byte :=
  encodeFields [(.u16, g.passes), (.u8, g.cls.code), (.u8, flag g.mark.isSome)]

/-- A wash result as it is sent. -/
def resultBytes (r : WashResult) : List Byte :=
  encodeFields [(.u8, r.outcome.code), (.u16, r.passes), (.u16, r.done), (.u8, flag r.doubleIndex), (.u8, r.origin.code),
    (.u8, flag r.mark.isSome), (.u32, r.endedAt), (.u8, flag r.pending)]

/-- An entry of the wash queue as it is sent (R101). -/
def queueBytes (e : QueueEntry) : List Byte :=
  encodeFields [(.u8, e.screen.val + 1), (.u8, e.cls.code), (.u16, e.passes), (.u8, flag e.mark.isSome),
    (.u16, secs e.ageMs)]

/-- The data of GET SCREEN: the fields R91 lists, and then the screen's queue entry as merged (R102), which R91 gives no
place (DESIGN CHOICE, notes/assumptions/27.md). -/
def State.screenData (s : State) (n : ScreenId) : List Byte :=
  let sc := s.screen n
  let hd := s.lau.record.heads[n]
  encodeFields [(.u8, sc.state.code), (.u8, flag sc.inService), (.u8, flag sc.ready), (.u8, flag sc.settled),
      (.u8, flag sc.jam), (.u8, flag s.swc.hdok)]
    ++ group washBytes (if sc.state.isWashing then sc.wash else none) ++ group stagedBytes sc.staged
    ++ group resultBytes sc.current ++ group resultBytes sc.previous
    ++ encodeFields [(.u16, secs sc.sinceEnd), (.s16, limited hd.loss), (.u8, flag hd.unknown), (.u8, flag sc.counts)]
    ++ group queueBytes (s.swc.queue.find? fun e => e.screen = n)

/-- GET SCREEN (R91, R102). -/
def execGetScreen (a : Form Nat) (s : State) : Host.Outcome State Fault Refusal :=
  .next (s.request (.getScreen a) (withArgs a fun v t =>
    match index1 6 v with
    | none => .refuse t .badArgument
    | some n => ⟨t, .ok, t.screenData n⟩))

end Sys2Proof.Machine
end

