-- ==== Sys2Proof/Machine/Pumps.lean ====
section
/-! DEFINITION. Sys2Proof/Machine/Pumps.lean: the commands of the Pump Duty Controller's pumps (Chapter 6): the starter
pins, the timers of a start, a stop and a recovery, and the requests answered at once. -/

namespace Sys2Proof.Machine

/-! ## Starter pins -/

/-- A PFB edge is read in every phase; it acts once LOADING has ended. -/
def State.feedbackLevel (s : State) (p : PumpId) (level : Bool) : State :=
  s.onPump p fun q => { q with feedback := level }

/-- PFB_RISING (R120). -/
def execPfbRising (p : PumpId) (s : State) : Host.Outcome State Fault Refusal :=
  .next
    (if (s.pump p).feedback then s
     else
      let t := s.feedbackLevel p true
      if t.active && decide ((t.pump p).state = .starting) then (t.enterRunning p).settle else t)

/-- PFB_FALLING (R121, R122). -/
def execPfbFalling (p : PumpId) (s : State) : Host.Outcome State Fault Refusal :=
  .next
    (if (s.pump p).feedback then
      let t := s.feedbackLevel p false
      if t.active then
        match (t.pump p).state with
        | .running => if (t.pump p).trip then t else (t.failPump p .feedbackLost).settle
        | .stopping => (t.stopEnded p).settle
        | .disabled | .recovering | .stopped | .starting | .failed => t
      else t
     else s)

/-- PTRP_ACTIVE (R121): the input goes active, or with `level` false back to inactive. -/
def execPtrpActive (p : PumpId) (level : Bool) (s : State) : Host.Outcome State Fault Refusal :=
  .next
    (let t := s.onPump p fun q => { q with trip := level }
     if t.active && level && (t.pump p).state.commanded then (t.failPump p .tripped).settle else t)

/-! ## Timers -/

/-- Whether a STARTING pump's start timer has reached the start timeout (R120). -/
def State.startLate (s : State) (p : PumpId) : Bool :=
  decide ((s.pump p).state = .starting) && reached (s.pump p).startTimer s.pdc.startTimeout

/-- START_TIMEOUT (R120). -/
def execStartTimeout (p : PumpId) (s : State) : Host.Outcome State Fault Refusal :=
  .next (if s.active && s.startLate p then (s.failPump p .startTimeout).settle else s)

/-- Whether a STOPPING pump's stop timer has reached the stop timeout (R122). -/
def State.stopLate (s : State) (p : PumpId) : Bool :=
  decide ((s.pump p).state = .stopping) && reached (s.pump p).stopTimer s.pdc.stopTimeout

/-- STOP_TIMEOUT (R122). -/
def execStopTimeout (p : PumpId) (s : State) : Host.Outcome State Fault Refusal :=
  .next (if s.active && s.stopLate p then (s.failPump p .stopTimeout).settle else s)

/-- Whether a RECOVERING pump's timer has run to 0 (R123). -/
def State.recovered (s : State) (p : PumpId) : Bool :=
  decide ((s.pump p).state = .recovering ∧ (s.pump p).recovery = 0)

/-- RECOVERY_TIMER_EXPIRY (R123). -/
def execRecoveryTimerExpiry (p : PumpId) (s : State) : Host.Outcome State Fault Refusal :=
  .next (if s.active && s.recovered p then (s.enterPump p .stopped).settle else s)

/-- Whether the start spacing has run out and that has not been taken yet (R129). -/
def Pdc.spacingFalls (d : Pdc) : Bool := d.sinceStart.isSome && d.spacingOut && !d.spacingTaken

/-- START_SPACING_EXPIRY (R129). -/
def execStartSpacingExpiry (s : State) : Host.Outcome State Fault Refusal :=
  .next
    (if s.active && s.pdc.spacingFalls then
      (s.onPdc fun d => { d with spacingTaken := true }).startArbiter.settle
     else s)

/-! ## Requests -/

/-- ENABLE PUMP (R126). -/
def execEnablePump (a : Form Nat) (s : State) : Host.Outcome State Fault Refusal :=
  .next (s.request (.enablePump a) (withArgs a fun v t =>
    match index1 8 v with
    | none => .refuse t .badArgument
    | some p =>
      match (t.pump p).state with
      | .disabled => ⟨((t.onPump p fun q => { q with enabled := true }).rest p).settle, .ok, []⟩
      | .recovering | .stopped | .starting | .running | .stopping | .failed => ⟨t, .ok, []⟩))

/-- The pump's start queue entry. -/
def State.startEntry (s : State) (p : PumpId) : Option StartEntry := s.pdc.queue.find? fun e => e.pump = p

/-- The pump is disabled, its entry removed with NOT_PERMITTED, check 1 (R126). -/
def State.disablePump (s : State) (p : PumpId) : State :=
  let t := match s.startEntry p with
    | some e => (s.leaveStart p).refuseStart e 1
    | none => s
  (t.onPump p fun q => { q with enabled := false }).enterPump p .disabled

/-- DISABLE PUMP (R126). -/
def execDisablePump (a : Form Nat) (s : State) : Host.Outcome State Fault Refusal :=
  .next (s.request (.disablePump a) (withArgs a fun v t =>
    match index1 8 v with
    | none => .refuse t .badArgument
    | some p =>
      match (t.pump p).state with
      | .disabled => ⟨t, .ok, []⟩
      | .recovering | .stopped | .failed => ⟨(t.disablePump p).settle, .ok, []⟩
      | .starting | .running | .stopping => .refuse t .state))

/-- CLEAR PUMP (R125). -/
def execClearPump (a : Form Nat) (s : State) : Host.Outcome State Fault Refusal :=
  .next (s.request (.clearPump a) (withArgs a fun v t =>
    match index1 8 v with
    | none => .refuse t .badArgument
    | some p =>
      match (t.pump p).state with
      | .failed => if (t.pump p).trip then .refuse t .state else ⟨(t.rest p).settle, .ok, []⟩
      | .disabled | .recovering | .stopped | .starting | .running | .stopping => .refuse t .state))

/-- RESET HOURS (R127). -/
def execResetHours (a : Form Nat) (s : State) : Host.Outcome State Fault Refusal :=
  .next (s.request (.resetHours a) (withArgs a fun v t =>
    match index1 8 v with
    | none => .refuse t .badArgument
    | some p => ⟨t.onPump p fun q => { q with runMs := 0, starts := 0 }, .ok, []⟩))

/-- A recovery timer cut to a recovery time it exceeds; a RECOVERING pump cut to 0 enters STOPPED (R123). -/
def State.cutRecovery (s : State) (p : PumpId) : State :=
  let ms := s.pdc.recoveryTime (s.pump p).cls * 1000
  if ms < (s.pump p).recovery then
    let t := s.onPump p fun q => { q with recovery := ms }
    if t.recovered p then t.enterPump p .stopped else t
  else s

/-- SET PUMP on a pump (R116): a changed class cuts a counting recovery timer (R123). -/
def setPumpOn (p : PumpId) (cls : Option PumpClass) (c : PumpArgs) (s : State) : Answer :=
  let t := s.onPump p fun q =>
    { q with
      cls := cls.getD q.cls
      inlet := taken (clampInt (-30000) 30000) c.inlet q.inlet
      submergence := taken (clampNat 0 5000) c.submergence q.submergence }
  let u := if (t.pump p).cls = (s.pump p).cls then t else (t.cutRecovery p).settle
  let clamped := adjusted (clampInt (-30000) 30000) c.inlet || adjusted (clampNat 0 5000) c.submergence
  ⟨u, okCode clamped, takenData clamped
    [(c.cls.isSome, .u8, (t.pump p).cls.code), (c.inlet.isSome, .s16, (t.pump p).inlet),
      (c.submergence.isSome, .u16, (t.pump p).submergence)]⟩

/-- SET PUMP (R116). -/
def execSetPump (a : Form PumpArgs) (s : State) : Host.Outcome State Fault Refusal :=
  .next (s.request (.setPump a) (withArgs a fun c t =>
    match index1 8 c.pump with
    | none => .refuse t .badArgument
    | some p =>
      if c.cls.isNone && c.inlet.isNone && c.submergence.isNone then .refuse t .badArgument
      else
        match c.cls with
        | none => setPumpOn p none c t
        | some v =>
          match toPumpClass v with
          | none => .refuse t .badArgument
          | some k => setPumpOn p (some k) c t))

/-- The settings SET PUMP TIMING gives (R117). -/
def Pdc.configure (d : Pdc) (c : PumpTimingArgs) : Pdc :=
  { d with
    recoveryLarge := taken (clampNat 0 3600) c.recoveryLarge d.recoveryLarge
    recoverySmall := taken (clampNat 0 3600) c.recoverySmall d.recoverySmall
    startTimeout := taken (clampNat 5 120) c.startTimeout d.startTimeout
    stopTimeout := taken (clampNat 5 300) c.stopTimeout d.stopTimeout
    startSpacing := taken (clampNat 2 60) c.startSpacing d.startSpacing
    startMargin := taken (clampNat 0 3000) c.startMargin d.startMargin
    tripDelay := taken (clampNat 5 120) c.tripDelay d.tripDelay
    shedDelay := taken (clampNat 5 300) c.shedDelay d.shedDelay
    pumpsPerScreen := taken (clampNat 1 4) c.pumpsPerScreen d.pumpsPerScreen
    rotationInterval := taken (clampNat 0 720) c.rotationInterval d.rotationInterval
    fallbackDemand := taken (clampNat 0 8) c.fallbackDemand d.fallbackDemand }

/-- The settings of SET PUMP TIMING, in table order. -/
def Pdc.timings (d : Pdc) : List Nat :=
  [d.recoveryLarge, d.recoverySmall, d.startTimeout, d.stopTimeout, d.startSpacing, d.startMargin, d.tripDelay,
    d.shedDelay, d.pumpsPerScreen, d.rotationInterval, d.fallbackDemand]

/-- The values SET PUMP TIMING carries, in table order. -/
def pumpTimingValues (c : PumpTimingArgs) : List (Option Nat) :=
  [c.recoveryLarge, c.recoverySmall, c.startTimeout, c.stopTimeout, c.startSpacing, c.startMargin, c.tripDelay,
    c.shedDelay, c.pumpsPerScreen, c.rotationInterval, c.fallbackDemand]

/-- Cuts the recovery timers of the pumps of a class (R123). -/
def State.cutClass (c : PumpClass) (s : State) : State :=
  allPumps.foldl (fun t p => if (t.pump p).cls = c then t.cutRecovery p else t) s

/-- The start that a new start timeout ends (R120). -/
def State.endLateStarts (s : State) : State :=
  allPumps.foldl (fun t p => if t.startLate p then t.failPump p .startTimeout else t) s

/-- The stops that a new stop timeout ends (R122), in ascending pump number (DESIGN CHOICE, notes/assumptions/29.md). -/
def State.endLateStops (s : State) : State :=
  allPumps.foldl (fun t p => if t.stopLate p then t.failPump p .stopTimeout else t) s

/-- A new start spacing is compared with the time passed, and the arbiter evaluates (R129). -/
def State.spacingActs (s : State) : State :=
  (s.onPdc fun d => { d with spacingTaken := d.spacingOut }).startArbiter

/-- The low-level stops that a new trip delay makes due (R150), in ascending pump number (DESIGN CHOICE,
notes/assumptions/29.md). -/
def State.stopLowPumps (s : State) : State :=
  allPumps.foldl (fun t p => if t.lowLevelFalls p then t.lowLevelActs p else t) s

/-- Whether a scope's timer has reached the shed delay (R146). -/
def State.shedFalls (s : State) (k : ScopeId) : Bool :=
  match s.pdc.scopes[k].timer with
  | some ms => reached ms s.pdc.shedDelay
  | none => false

/-- The stops that a new shed delay makes due, in scope order (R146). -/
def State.makeDueStops (s : State) : State :=
  (allScopes.foldl (fun t k => if t.shedFalls k then t.fallDue k else t) s).evaluationFollows

/-- A new fallback demand replaces the demand while the part is in fallback (R190). -/
def State.fallbackDemandActs (s : State) : State :=
  if s.slp.fallback then (s.onPdc fun d => { d with demand := d.fallbackDemand }).evaluationFollows else s

/-- What the new values of SET PUMP TIMING do when the request is taken, in table order (DEDUCED, notes/assumptions/12.md). -/
def State.pumpTimingActs (s : State) (old : Pdc) : State :=
  let new := s.pdc
  s
  |> whenNew old.recoveryLarge new.recoveryLarge (State.cutClass .large)
  |> whenNew old.recoverySmall new.recoverySmall (State.cutClass .small)
  |> whenNew old.startTimeout new.startTimeout State.endLateStarts
  |> whenNew old.stopTimeout new.stopTimeout State.endLateStops
  |> whenNew old.startSpacing new.startSpacing State.spacingActs
  |> whenNew old.startMargin new.startMargin State.evaluationFollows
  |> whenNew old.tripDelay new.tripDelay State.stopLowPumps
  |> whenNew old.shedDelay new.shedDelay State.makeDueStops
  |> whenNew old.pumpsPerScreen new.pumpsPerScreen State.evaluationFollows
  |> whenNew old.rotationInterval new.rotationInterval (fun t => t.onPdc fun d => { d with rotationTimer := 0 })
  |> whenNew old.fallbackDemand new.fallbackDemand State.fallbackDemandActs

/-- SET PUMP TIMING (R117). -/
def execSetPumpTiming (a : Form PumpTimingArgs) (s : State) : Host.Outcome State Fault Refusal :=
  .next (s.request (.setPumpTiming a) (withArgs a fun c t =>
    if (pumpTimingValues c).all Option.isNone then .refuse t .badArgument
    else
      let set := t.onPdc fun d => d.configure c
      let clamped := anyClamped (pumpTimingValues c) set.pdc.timings
      ⟨(set.pumpTimingActs t.pdc).settle, okCode clamped, takenData clamped (wordFields (pumpTimingValues c) set.pdc.timings)⟩))

/-! ## GET PUMP (R137) -/

/-- The place of an item in a list, from 1, or 0 when it is not there. -/
def placeIn (f : α → Bool) (l : List α) : Nat :=
  match l.findIdx? f with
  | some i => i + 1
  | none => 0

/-- A timer that runs in some states only, as it is sent. -/
def timerBytes (ms : Nat) : List Byte := encodeField .u16 (secs ms)

/-- The data of GET PUMP (R137). -/
def State.pumpData (s : State) (p : PumpId) : List Byte :=
  let q := s.pump p
  encodeFields [(.u8, q.state.code), (.u8, flag q.enabled), (.u8, q.cls.code), (.s16, q.inlet),
      (.u16, q.submergence), (.u8, flag q.run), (.u8, flag q.feedback), (.u8, flag q.trip),
      (.u16, ((q.recovery + 999) / 1000 : Nat))]
    ++ group timerBytes (if q.state = .starting then some q.startTimer else none)
    ++ group timerBytes (if q.state = .stopping then some q.stopTimer else none)
    ++ encodeFields [(.u8, q.cause.code), (.u8, (q.stopOrigin.map StopOrigin.code).getD 255),
        (.u32, (q.runMs / 1000 : Nat)), (.u16, q.starts),
        (.u8, placeIn (fun x => x = p) s.pdc.order.toList), (.u8, placeIn (fun e => e.pump = p) s.pdc.queue),
        (.u8, flag (s.heldByHeader p)), (.s16, limited s.lau.record.margins[p]),
        (.u8, flag s.lau.record.wells[bayOfPump p].unknown)]

/-- GET PUMP (R137). -/
def execGetPump (a : Form Nat) (s : State) : Host.Outcome State Fault Refusal :=
  .next (s.request (.getPump a) (withArgs a fun v t =>
    match index1 8 v with
    | none => .refuse t .badArgument
    | some p => ⟨t, .ok, t.pumpData p⟩))

end Sys2Proof.Machine
end

