-- ==== Sys2Proof/Machine/Bands.lean ====
section
/-! DEFINITION. Sys2Proof/Machine/Bands.lean: alarm bands and the Intake Condition (Chapter 3): claims, their notices and
latches, the publication and what the PDC and the SWC do at it, the reminder, and the requests of the band table. -/

namespace Sys2Proof.Machine

/-! ## Claims (R47, R51, R52) -/

/-- Whether v lies in the band's range (R47). -/
def Band.covers (b : Band) (v : Int) : Bool := decide (b.low ≤ v ∧ v < b.high)

/-- Whether v lies in the band's widened range (R47). -/
def Band.widened (b : Band) (v : Int) : Bool := decide (b.low - b.hysteresis ≤ v ∧ v < b.high + b.hysteresis)

/-- Whether a band takes part in the claim of a quantity (R51). -/
def Band.watches (b : Band) (q : Quantity) : Bool := b.enabled && decide (b.quantity = q)

/-- A quantity's claim. -/
def Claims.of (c : Claims) : Quantity → Option BandId
  | .level => c.level
  | .residual => c.residual
  | .rate => c.rate

/-- The claims with one replaced. -/
def Claims.put (c : Claims) (q : Quantity) (b : Option BandId) : Claims :=
  match q with
  | .level => { c with level := b }
  | .residual => { c with residual := b }
  | .rate => { c with rate := b }

/-- A quantity's value last handed (R50). -/
def Handed.of (h : Handed) : Quantity → Option Int
  | .level => h.level
  | .residual => h.residual
  | .rate => h.rate

/-- The lowest-numbered band of a rank that watches the quantity and whose range contains v. -/
def Twu.chosen (t : Twu) (q : Quantity) (v : Int) (r : Rank) : Option BandId :=
  allBands.find? fun b => t.bands[b].watches q && decide (t.bands[b].rank = r) && t.bands[b].covers v

/-- Whether the current band keeps the claim by its widened range: a subtractive one, or a ranked one (steps 1 and 3). -/
def Twu.keeps (t : Twu) (q : Quantity) (v : Int) (subtractive : Bool) : Option BandId → Bool
  | none => false
  | some b =>
    t.bands[b].watches q && (decide (t.bands[b].rank = .subtractive) == subtractive) && t.bands[b].widened v

/-- The claim of a quantity for a value handed (R51), or for unavailable (R52). -/
def Twu.claimFor (t : Twu) (q : Quantity) (current : Option BandId) : Option Int → Option BandId
  | none => none
  | some v =>
    if t.keeps q v false current then current
    else
      match (t.chosen q v .fast).or ((t.chosen q v .medium).or (t.chosen q v .slow)) with
      | some b => some b
      | none => if t.keeps q v true current then current else t.chosen q v .subtractive

/-- The number of a band, 0 for none. -/
def bandNumber (b : Option BandId) : Nat :=
  match b with
  | some b => b.val + 1
  | none => 0

/-- The notice class a claim is reported with (R53). -/
def Twu.claimClass (t : Twu) : Option BandId → NoticeClass
  | some b =>
    match t.bands[b].noticeClass with
    | .alarm => .alarm
    | .status => .status
  | none => .status

/-- A band of notice class ALARM that takes a claim is latched, its reminder count 0 (R54). -/
def Band.latch (b : Band) : Band :=
  match b.noticeClass with
  | .alarm => { b with latched := true, reminders := 0 }
  | .status => b

/-- Evaluates a quantity's claim at the value last handed: a change queues BAND_ENTERED and latches (R51..R54). -/
def State.evaluateClaim (s : State) (q : Quantity) : State :=
  let v := s.twu.handed.of q
  let old := s.twu.claims.of q
  let new := s.twu.claimFor q old v
  if new = old then s
  else
    let t := (s.onTwu fun t => { t with claims := t.claims.put q new }).notify (s.twu.claimClass new) .bandEntered
      (bandNumber new) q.code (available v) (bandNumber old : Nat)
    match new with
    | some b => t.onBand b Band.latch
    | none => t

/-! ## The Intake Condition (R60..R63) -/

/-- The bands that claim a quantity. -/
def Twu.claiming (t : Twu) : List Band :=
  (([.level, .residual, .rate] : List Quantity).filterMap t.claims.of).map fun b => t.bands[b]

/-- The lesser of two caps, NONE being no bound. -/
def lesserCap : Option Nat → Option Nat → Option Nat
  | none, c => c
  | c, none => c
  | some a, some b => some (min a b)

/-- The device pump cap of some claiming bands (R61). -/
def capOf (bs : List Band) : Option Nat := bs.foldl (fun c b => lesserCap c b.cap) none

/-- The effective wash mode of some claiming bands (R62). -/
def modeOf (bs : List Band) : WashMode :=
  if bs.any (fun b => b.mode = .hold) then .hold else if bs.any (fun b => b.mode = .storm) then .storm else .normal

/-- The record as recomputed, with the condition number it had (R60). -/
def Twu.recomputed (t : Twu) : Condition :=
  ⟨t.claims, capOf t.claiming, modeOf t.claiming, t.condition.number⟩

/-- What the PDC does at a publication that replaces `old` (R63, R143, R153). -/
def State.pdcActs (s : State) (old : Condition) : State :=
  let new := s.twu.condition
  if new.cap = old.cap then s
  else (if new.cap = some 0 then s.clearHeader .abortedByCondition else s).evaluationFollows

/-- What a changed effective wash mode does (R74, R100, R112). -/
def State.modeActs (s : State) (old : Condition) : State :=
  if s.twu.condition.mode = old.mode then s
  else
    match s.twu.condition.mode with
    | .hold => s.finishContinuous
    | .storm => s.evaluateTriggers
    | .normal => s

/-- A cap raised from 0 lets a PENDING header purge become ACTIVE (R105). -/
def State.capActs (s : State) (old : Condition) : State :=
  if old.cap = some 0 && decide (s.twu.condition.cap ≠ some 0) then s.activatePurge.publishHeld else s

/-- What the SWC does at a publication that replaces `old` (R63, R104); a STORM evaluation comes before the arbiter's
own re-evaluation (DESIGN CHOICE, notes/assumptions/29.md). -/
def State.swcActs (s : State) (old : Condition) : State :=
  let new := s.twu.condition
  if new.mode = old.mode ∧ new.cap = old.cap then s else ((s.modeActs old).capActs old).reevaluate

/-- The PDC and the SWC act at a publication. The manual orders neither first; the order tells only when the cap becomes
0, and is then a free choice (DESIGN CHOICE, notes/assumptions/9.md). -/
def State.readersAct (s : State) (old : Condition) : State :=
  if s.twu.condition.cap = some 0 ∧ old.cap ≠ some 0 then
    if s.choice 2 = 0 then (s.drawn.pdcActs old).swcActs old else (s.drawn.swcActs old).pdcActs old
  else (s.pdcActs old).swcActs old

/-- Recomputes the record and publishes it when a field other than the condition number has changed (R60, R63). -/
def State.recompute (s : State) : State :=
  let old := s.twu.condition
  let new := s.twu.recomputed
  if new = old then s
  else (s.onTwu fun t => { t with condition := { new with number := (old.number + 1) % 65536 } }).readersAct old

/-! ## Commands -/

/-- The reminder of one band at an expiry (R57). -/
def State.remind (s : State) (b : BandId) : State :=
  if s.twu.bands[b].latched then
    let t := s.onBand b fun bd => { bd with reminders := min (bd.reminders + 1) 32767 }
    let bd := t.twu.bands[b]
    t.notify .alarm .bandReminder (b.val + 1) bd.quantity.code (flag (t.twu.claims.of bd.quantity = some b) : Nat)
      (bd.reminders : Nat)
  else s

/-- Whether the reminder timer has run its interval (R56). -/
def Twu.reminderDue (t : Twu) : Bool := decide (t.reminderInterval ≠ 0) && reached t.reminderTimer t.reminderInterval

/-- REMINDER_TIMER_EXPIRY (R57). -/
def execReminderTimerExpiry (s : State) : Host.Outcome State Fault Refusal :=
  .next
    (if s.active && s.twu.reminderDue then
      allBands.foldl State.remind (s.onTwu fun t => { t with reminderTimer := 0 })
     else s)

/-- The quantity a band claims, as its code, or 0xFF (R64). -/
def Twu.claimedBy (t : Twu) (b : BandId) : Nat :=
  match ([.level, .residual, .rate] : List Quantity).find? fun q => t.claims.of q = some b with
  | some q => q.code
  | none => 255

/-- The settings of a band in the encoding of SET BAND (R47, R169). -/
def Band.settings (b : Band) : List Byte :=
  encodeFields [(.u8, flag b.enabled), (.u8, b.quantity.code), (.s16, b.low), (.s16, b.high), (.u8, b.rank.code),
    (.u16, b.hysteresis), (.u8, capCode b.cap), (.u8, b.mode.code), (.u8, b.noticeClass.code)]

/-- The data of GET CONDITION (R64). -/
def Twu.conditionData (w : Twu) : List Byte :=
  encodeFields [(.u8, bandNumber w.condition.claims.level), (.u8, bandNumber w.condition.claims.residual),
      (.u8, bandNumber w.condition.claims.rate), (.u8, capCode w.condition.cap), (.u8, w.condition.mode.code),
      (.u16, w.condition.number), (.s16, available w.handed.level), (.s16, available w.handed.residual),
      (.s16, available w.handed.rate)]
    ++ allBands.flatMap (fun b =>
        encodeFields [(.u8, flag w.bands[b].latched), (.u16, w.bands[b].reminders), (.u8, w.claimedBy b)])
    ++ encodeField .u16 w.reminderInterval

/-- GET CONDITION (R64). -/
def execGetCondition (a : Form Unit) (s : State) : Host.Outcome State Fault Refusal :=
  .next (s.request (.getCondition a) (withArgs a fun _ t => ⟨t, .ok, t.twu.conditionData⟩))

/-- The quantities re-evaluated by a SET BAND, in the order LEVEL, RESIDUAL, RATE (R49). -/
def State.reevaluateQuantities (s : State) (before after : Quantity) : State :=
  ([.level, .residual, .rate] : List Quantity).foldl
    (fun t q => if q = before ∨ q = after then t.evaluateClaim q else t) s

/-- The entry a SET BAND gives, if every enumeration is in its list and the bounds are in order after clamping (R48). -/
def bandEntry (old : Band) (b : BandArgs) : Option Band :=
  match yesNo b.enabled, toQuantity b.quantity, toRank b.rank, toMode b.mode, toBandClass b.noticeClass with
  | some en, some q, some r, some m, some k =>
    let lo := clampInt (-30000) 30000 b.low
    let hi := clampInt (-30000) 30000 b.high
    if lo < hi then
      some { old with
        enabled := en, quantity := q, low := lo, high := hi, rank := r, hysteresis := clampNat 0 500 b.hysteresis
        cap := toCap b.cap, mode := m, noticeClass := k }
    else none
  | _, _, _, _, _ => none

/-- Whether a SET BAND had a value clamped (R48). -/
def bandClamped (b : BandArgs) (new : Band) : Bool :=
  decide (new.low ≠ b.low ∨ new.high ≠ b.high ∨ new.hysteresis ≠ b.hysteresis ∨ capCode new.cap ≠ b.cap)

/-- SET BAND, entry form (R48, R49). -/
def execSetBandEntry (a : Form BandArgs) (s : State) : Host.Outcome State Fault Refusal :=
  .next (s.request (.setBandEntry a) (withArgs a fun b t =>
    match index1 8 b.band with
    | none => .refuse t .badArgument
    | some n =>
      match bandEntry t.twu.bands[n] b with
      | none => .refuse t .badArgument
      | some new =>
        let u := (((t.onBand n fun _ => new).reevaluateQuantities t.twu.bands[n].quantity new.quantity).recompute).settle
        let clamped := bandClamped b new
        ⟨u, okCode clamped,
          (if clamped then new.settings else [])
            ++ encodeFields [(.u8, u.twu.claimedBy n), (.u8, flag u.twu.bands[n].latched), (.u16, u.twu.condition.number)]⟩))

/-- SET BAND, reminder form (R56). -/
def execSetBandReminder (a : Form Nat) (s : State) : Host.Outcome State Fault Refusal :=
  .next (s.request (.setBandReminder a) (withArgs a fun v t =>
    let w := clampOff 60 3600 v
    ⟨if w = t.twu.reminderInterval then t
     else t.onTwu fun u => { u with reminderInterval := w, reminderTimer := 0 },
      okCode (decide (w ≠ v)), takenData (decide (w ≠ v)) [(true, .u16, w)]⟩))

/-- A band acknowledged (R55). -/
def Band.acknowledge (b : Band) : Band := { b with latched := false, reminders := 0 }

/-- ACK BAND (R55). -/
def execAckBand (a : Form Nat) (s : State) : Host.Outcome State Fault Refusal :=
  .next (s.request (.ackBand a) (withArgs a fun v t =>
    if 8 < v then .refuse t .badArgument
    else
      let u := t.onTwu fun w =>
        { w with bands := Vector.ofFn fun b : BandId =>
            if v = 0 ∨ v = b.val + 1 then w.bands[b].acknowledge else w.bands[b] }
      let latched := allBands.filter fun b => u.twu.bands[b].latched
      ⟨u, .ok, encodeField .u8 latched.length ++ latched.flatMap fun b => encodeField .u8 (b.val + 1 : Nat)⟩))

end Sys2Proof.Machine
end

