-- ==== Sys2Proof/Machine/Tide.lean ====
section
/-! DEFINITION. Sys2Proof/Machine/Tide.lean: the trend ring and the rate, the prediction banks, the prediction and the
residual (Chapter 2), the intake time (R171), the scan event with its three readers (R22), and their commands. -/

namespace Sys2Proof.Machine

/-! ## Trend ring and rate (R26..R29) -/

/-- An entry appended to the ring, the oldest leaving a full one (R27). -/
def appendRing (ring : List TidePoint) (p : TidePoint) : List TidePoint :=
  (if ring.length < 16 then ring else ring.drop 1) ++ [p]

/-- The rate of a ring (R29). -/
def rateOf (ring : List TidePoint) (interval : Nat) : Option Int :=
  match ring, ring.getLast? with
  | oldest :: _ :: _, some newest =>
    some (clampInt (-9999) 9999 (roundDiv ((newest.level - oldest.level) * 3600) (interval * (ring.length - 1))))
  | _, _ => none

/-- A rate event: the rate is formed and handed, and the RATE claim evaluated, as a piece of work of its own (R29, R50). -/
def State.rateEvent (s : State) : State :=
  ((s.onTwu fun t =>
      let r := rateOf t.ring t.trendInterval
      { t with rate := r, handed := { t.handed with rate := r } }).evaluateClaim .rate).recompute.settle

/-- The emptying of the ring, with the restart of the trend timer and its rate event (R25, R28). -/
def State.emptyRing (s : State) : State :=
  (s.onTwu fun t => { t with ring := [], trendTimer := 0 }).rateEvent

/-- TREND_TIMER_EXPIRY (R26). -/
def execTrendTimerExpiry (s : State) : Host.Outcome State Fault Refusal :=
  .next
    (if s.active && reached s.twu.trendTimer s.twu.trendInterval then
      let t := s.onTwu fun t => { t with trendTimer := 0 }
      if s.lau.record.cls = .lost then t
      else (t.onTwu fun u => { u with ring := appendRing u.ring ⟨s.stamp, s.lau.record.sea⟩ }).rateEvent
     else s)

/-- SET TREND (R25). -/
def execSetTrend (a : Form Nat) (s : State) : Host.Outcome State Fault Refusal :=
  .next (s.request (.setTrend a) (withArgs a fun v t =>
    let w := clampNat 5 60 v
    ⟨if w = t.twu.trendInterval then t else (t.onTwu fun u => { u with trendInterval := w }).emptyRing,
      okCode (decide (w ≠ v)), takenData (decide (w ≠ v)) [(true, .u16, w)]⟩))

/-! ## Prediction banks (R31..R40) -/

/-- The other bank. -/
def otherBank (b : BankId) : BankId := if b = 0 then 1 else 0

/-- The standing bank's number. -/
def Twu.standing (t : Twu) : BankId := otherBank t.loading

/-- Replaces a bank. -/
def Twu.onBank (t : Twu) (b : BankId) (f : Bank → Bank) : Twu := { t with banks := t.banks.set b (f t.banks[b]) }

/-- The loading bank becomes ACTIVE, the standing bank EMPTY, and the roles are exchanged (R35, R38, R39). -/
def Twu.swap (t : Twu) : Twu :=
  { (t.onBank t.loading fun b => { b with state := .active }).onBank t.standing (fun _ => {}) with
    loading := t.standing }

/-- A swap with its notice and cause (R35, R38..R40). -/
def State.swapBanks (s : State) (cause : Nat) : State :=
  (s.onTwu Twu.swap).notify .status .tideBankSwapped (s.twu.loading.val + 1) 0 (cause : Nat)
    (s.twu.banks[s.twu.loading].points.length : Nat)

/-- The ACTIVE bank expires (R38, R40). -/
def State.expireBank (s : State) : State :=
  let b := s.twu.banks[s.twu.standing]
  (s.onTwu fun t => t.onBank t.standing fun _ => {}).notify .status .predictionEnded (s.twu.standing.val + 1) 0
    ((b.points.getLast?.map TidePoint.level).getD 0) (b.points.length : Nat)

/-- Whether the intake time has passed a bank's last point (R38). -/
def passed (time : Nat) (b : Bank) : Bool :=
  match b.points.getLast? with
  | some p => decide (p.time < time)
  | none => false

/-- Whether the intake time has reached a bank's first point (R39). -/
def firstReached (time : Nat) (b : Bank) : Bool :=
  match b.points with
  | p :: _ => decide (p.time ≤ time)
  | [] => false

/-- One application of R38 or R39. -/
def State.checkBank (s : State) : State :=
  let st := s.twu.banks[s.twu.standing]
  let ld := s.twu.banks[s.twu.loading]
  match st.state with
  | .active =>
    if passed s.slp.time st then if ld.state = .sealed then s.swapBanks 0 else s.expireBank else s
  | .empty => if ld.state = .sealed && firstReached s.slp.time ld then s.swapBanks 1 else s
  | .filling | .sealed => s

/-- The bank check (R37): at most one swap and then at most one expiry, so two applications are all of it. -/
def State.checkBanks (s : State) : State := if s.slp.timeSet then s.checkBank.checkBank else s

/-- Whether a point is appended to a bank, or the code it is refused with (R33). -/
def pointCheck (b : Bank) (p : TidePoint) : Option Code :=
  if 128 ≤ b.points.length then some .full
  else
    match b.points.getLast? with
    | none => none
    | some l =>
      if p.time ≤ l.time then some .order
      else if p.time - l.time < 60 ∨ 3600 < p.time - l.time then some .order
      else none

/-- What offering the points of a request leaves: the bank, the levels taken, whether one was clamped, and the code a
point was refused with. -/
structure Offered where
  bank : Bank
  levels : List Int
  clamped : Bool
  refused : Option Code

/-- Offers points one by one; after a refusal none is appended (R33). -/
def offerPoints : List TidePoint → Bank → Offered
  | [], b => ⟨b, [], false, none⟩
  | p :: ps, b =>
    match pointCheck b p with
    | some c => ⟨b, [], false, some c⟩
    | none =>
      let l := clampInt (-30000) 30000 p.level
      let o := offerPoints ps ⟨.filling, b.points ++ [⟨p.time, l⟩]⟩
      { o with levels := l :: o.levels, clamped := o.clamped || decide (l ≠ p.level) }

/-- TIDE POINTS (R32, R33). -/
def execTidePoints (a : Form (List TidePoint)) (s : State) : Host.Outcome State Fault Refusal :=
  .next (s.request (.tidePoints a) (withArgs a fun ps t =>
    let n := t.twu.loading
    if ps = [] ∨ 8 < ps.length then .refuse t .badArgument
    else if t.twu.banks[n].state = .sealed then .refuse t .state
    else
      let o := offerPoints ps t.twu.banks[n]
      ⟨t.onTwu fun u => u.onBank n fun _ => o.bank,
        o.refused.getD (okCode o.clamped),
        encodeFields [(.u8, n.val + 1), (.u16, o.levels.length), (.u16, o.bank.points.length), (.u8, o.levels.length)]
          ++ o.levels.flatMap fun l => encodeField .s16 l⟩))

/-- Whether a bank may be sealed (R34): FILLING with 2 or more points. -/
def Bank.sealable (b : Bank) : Bool := decide (b.state = .filling ∧ 2 ≤ b.points.length)

/-- Whether a bank may be committed (R35): FILLING or SEALED with 2 or more points. -/
def Bank.committable (b : Bank) : Bool := decide ((b.state = .filling ∨ b.state = .sealed) ∧ 2 ≤ b.points.length)

/-- The reply data of a tide request: the number of the bank it acted on (R41). -/
def bankNumber (b : BankId) : List Byte := encodeField .u8 (b.val + 1 : Nat)

/-- TIDE SEAL (R34). -/
def execTideSeal (a : Form Unit) (s : State) : Host.Outcome State Fault Refusal :=
  .next (s.request (.tideSeal a) (withArgs a fun _ t =>
    let n := t.twu.loading
    if t.twu.banks[n].sealable then
      ⟨(t.onTwu fun u => u.onBank n fun b => { b with state := .sealed }).checkBanks, .ok, bankNumber n⟩
    else .refuse t .state))

/-- TIDE COMMIT NOW (R35). -/
def execTideCommitNow (a : Form Unit) (s : State) : Host.Outcome State Fault Refusal :=
  .next (s.request (.tideCommitNow a) (withArgs a fun _ t =>
    let n := t.twu.loading
    if t.twu.banks[n].committable then ⟨(t.swapBanks 2).checkBanks, .ok, bankNumber n⟩
    else .refuse t .state))

/-- TIDE CLEAR (R36). -/
def execTideClear (a : Form Unit) (s : State) : Host.Outcome State Fault Refusal :=
  .next (s.request (.tideClear a) (withArgs a fun _ t =>
    let n := t.twu.loading
    ⟨t.onTwu fun u => u.onBank n fun _ => {}, .ok, bankNumber n⟩))

/-! ## Intake time (R171) -/

/-- INTAKE_TIME_COUNT (R171): a second of the count. -/
def execIntakeTimeCount (s : State) : Host.Outcome State Fault Refusal :=
  .next
    (if s.slp.timeSet && decide (1000 ≤ s.slp.phaseMs) then
      (s.onSlp fun l => { l with time := (l.time + 1) % 4294967296, phaseMs := l.phaseMs - 1000 }).checkBanks
     else s)

/-- SET CLOCK, absolute form (R171). -/
def execSetClockAbsolute (a : Form Nat) (s : State) : Host.Outcome State Fault Refusal :=
  .next (s.request (.setClockAbsolute a) (withArgs a fun v t =>
    let u := (t.onSlp fun l => { l with time := v % 4294967296, timeSet := true, phaseMs := 0 }).checkBanks
    ⟨u, .ok, encodeField .u32 u.slp.time⟩))

/-- SET CLOCK, step form (R171). -/
def execSetClockStep (a : Form Int) (s : State) : Host.Outcome State Fault Refusal :=
  .next (s.request (.setClockStep a) (withArgs a fun v t =>
    if t.slp.timeSet then
      let w := clampInt (-3600) 3600 v
      let sum := (t.slp.time : Int) + w
      let new := clampInt 0 4294967295 sum
      let u := (t.onSlp fun l => { l with time := new.toNat }).checkBanks
      ⟨u, okCode (decide (w ≠ v ∨ new ≠ sum)), encodeField .u32 u.slp.time⟩
    else .refuse t .timeNotSet))

/-! ## Prediction and residual (R42, R43) -/

/-- The level interpolated between the neighbouring points of a list at a time, if it lies within them (R42). -/
def interpolate (t : Nat) : List TidePoint → Option Int
  | a :: b :: ps =>
    if a.time ≤ t ∧ t ≤ b.time then
      some (a.level + roundDiv ((b.level - a.level) * ((t : Int) - a.time)) (b.time - a.time))
    else interpolate t (b :: ps)
  | _ => none

/-- The prediction at the intake time (R42). -/
def State.predicted (s : State) : Option Int :=
  let b := s.twu.banks[s.twu.standing]
  if s.slp.timeSet && decide (b.state = .active) then interpolate s.slp.time b.points else none

/-- The voted sea level of the record, or unavailable (R43, R44). -/
def LevelRecord.seaLevel (r : LevelRecord) : Option Int := if r.voted && !r.stale then some r.sea else none

/-- The residual (R43). -/
def residualOf (prediction sea : Option Int) : Option Int :=
  match prediction, sea with
  | some p, some s => some (clampInt (-30000) 30000 (s - p))
  | _, _ => none

/-! ## The scan event (R22) -/

/-- The LEVEL and RESIDUAL evaluation of a scan event, one piece of work (R44, R50). -/
def State.handLevels (s : State) : State :=
  let p := s.predicted
  let sea := s.lau.record.seaLevel
  let r := residualOf p sea
  let t := s.onTwu fun t =>
    { t with
      prediction := p, residual := r, formedScan := s.lau.record.scan, formedTime := s.stamp
      handed := { t.handed with level := sea, residual := r } }
  ((t.evaluateClaim .level).evaluateClaim .residual).recompute.settle

/-- What the TWU does at a scan event: the LEVEL and RESIDUAL evaluation, and when the sea returns from LOST the emptying
of the ring; the two pieces of work may be taken in either order (R28, R44, R50). -/
def State.twuReads (before : SeaClass) (s : State) : State :=
  if before = .lost ∧ s.lau.record.cls ≠ .lost then
    if s.choice 2 = 0 then s.drawn.emptyRing.handLevels else s.drawn.handLevels.emptyRing
  else s.handLevels

/-- What the SWC does at a scan event: the trigger evaluation (R98), and the verdicts and capacity flags (R111). -/
def State.swcReads (s : State) : State := s.evaluateTriggers.formVerdicts.settle

/-- The low-margin period of a pump at a scan event (R150). -/
def State.marginPeriod (s : State) (p : PumpId) : State :=
  s.onPump p fun q =>
    { q with lowMargin :=
        if s.lau.record.margins[p] < 0 && !s.lau.record.wells[bayOfPump p].unknown && q.state.commanded then
          some (q.lowMargin.getD {})
        else none }

/-- What the PDC does at a scan event: the low-margin periods (R150) and a duty evaluation (R143). -/
def State.pdcReads (s : State) : State := (allPumps.foldl State.marginPeriod s).evaluationFollows.settle

/-- The three readers of a record, in one of their six orders. -/
def State.read (before : SeaClass) (k : Nat) (s : State) : State :=
  match k with
  | 0 => ((s.twuReads before).swcReads).pdcReads
  | 1 => ((s.twuReads before).pdcReads).swcReads
  | 2 => (s.swcReads.twuReads before).pdcReads
  | 3 => s.swcReads.pdcReads.twuReads before
  | 4 => (s.pdcReads.twuReads before).swcReads
  | _ => s.pdcReads.swcReads.twuReads before

/-- The end of a scan: the record is published, and the TWU, the SWC and the PDC act on it in an order the manual leaves
open, a free choice (R22, DESIGN CHOICE, notes/assumptions/9.md). -/
def State.scanEnd (s : State) : State :=
  let t := s.publishRecord
  State.read s.lau.record.cls (t.choice 6) t.drawn

/-- SCAN_EVENT (R1, R22): every channel left in the scan is dealt with, and the scan ends. -/
def execScanEvent (s : State) : Host.Outcome State Fault Refusal :=
  .next (if s.active && s.lau.scan.isSome then (State.dealMany 12 s).scanEnd else s)

/-! ## Reading the Tide Watch Unit (R45) -/

/-- A point as it is sent. -/
def pointBytes (p : TidePoint) : List Byte := encodeFields [(.u32, p.time), (.s16, p.level)]

/-- A bank in the summary form: its number, role, state, point count, and first and last points, absent groups while it
is EMPTY (DESIGN CHOICE, notes/assumptions/27.md). -/
def Twu.bankSummary (t : Twu) (n : BankId) : List Byte :=
  let b := t.banks[n]
  encodeFields [(.u8, n.val + 1), (.u8, flag (n ≠ t.loading)), (.u8, b.state.code), (.u16, b.points.length)]
    ++ group pointBytes b.points.head? ++ group pointBytes b.points.getLast?

/-- The data of GET TIDE in its summary form (R45); the oldest and the newest entry of an empty ring are absent groups
(DESIGN CHOICE, notes/assumptions/27.md). -/
def Twu.summaryData (w : Twu) : List Byte :=
  encodeFields [(.u16, w.trendInterval), (.u16, w.ring.length)] ++ group pointBytes w.ring.head?
    ++ group pointBytes w.ring.getLast?
    ++ encodeFields [(.s16, available w.rate), (.s16, available w.prediction), (.s16, available w.residual),
        (.u16, w.formedScan), (.u32, w.formedTime)]
    ++ w.bankSummary 0 ++ w.bankSummary 1

/-- GET TIDE, summary form (R45). -/
def execGetTideSummary (a : Form Unit) (s : State) : Host.Outcome State Fault Refusal :=
  .next (s.request (.getTideSummary a) (withArgs a fun _ t => ⟨t, .ok, t.twu.summaryData⟩))

/-- GET TIDE, point form (R45). -/
def execGetTidePoints (a : Form (Nat × Nat)) (s : State) : Host.Outcome State Fault Refusal :=
  .next (s.request (.getTidePoints a) (withArgs a fun x t =>
    match index1 2 x.1 with
    | none => .refuse t .badArgument
    | some n =>
      let b := t.twu.banks[n]
      if x.2 < b.points.length then
        let ps := (b.points.drop x.2).take 8
        ⟨t, .ok, encodeField .u8 ps.length ++ ps.flatMap pointBytes
          ++ encodeFields [(.u8, b.state.code), (.u16, b.points.length)]⟩
      else .refuse t .badArgument))

end Sys2Proof.Machine
end

