-- ==== Sys2Proof/Machine/Image.lean ====
section
/-! DEFINITION. Sys2Proof/Machine/Image.lean: the sections of the settings (R169), GET CONFIG, and the configuration
image: its form, its checks (R193), and its application (R194). -/

namespace Sys2Proof.Machine

/-! ## Sections (R169, R193) -/

/-- Indices of a section, from its first on: section 0 counts from 0, sections 3, 5, 7 and 11 from 1, the others are 0. -/
def sectionIndices : Nat → List Nat
  | 0 => List.range 12
  | 3 | 7 | 11 => List.range' 1 8
  | 5 => List.range' 1 6
  | 1 | 2 | 4 | 6 | 8 | 9 | 10 => [0]
  | _ => []

/-- The sections and indices of an image, in its order: 49 of them. -/
def imageKeys : List (Nat × Nat) := (List.range 12).flatMap fun x => (sectionIndices x).map fun i => (x, i)

/-- Encodings of a section's settings, in table order (R166, R169, R193). -/
def sectionWidths : Nat → List Width
  | 0 => [.u8, .u16, .u16, .s16, .u16]
  | 1 => [.u16, .u16, .u16, .u16]
  | 2 | 4 => [.u16]
  | 3 => bandWidths
  | 5 => [.u8, .u16, .u16, .u16, .u16]
  | 6 => List.replicate 10 .u16
  | 7 => [.u8, .u8, .s16, .u16]
  | 8 => List.replicate 11 .u16
  | 9 => List.replicate 8 .u8
  | 10 => [.u8, .u8, .u16, .u16, .u16]
  | 11 => [.u32, .u16]
  | _ => []

/-- The settings of a channel. -/
def Channel.values (ch : Channel) : List Int := [flag ch.enabled, ch.zero, ch.gain, ch.elevation, ch.shift]

/-- The settings of a band. -/
def Band.values (b : Band) : List Int :=
  [flag b.enabled, b.quantity.code, b.low, b.high, b.rank.code, b.hysteresis, capCode b.cap, b.mode.code,
    b.noticeClass.code]

/-- The settings of a screen. -/
def Screen.values (sc : Screen) : List Int := [flag sc.inService, sc.washStart, sc.high, sc.blind, sc.defaultPasses]

/-- The settings of a pump. -/
def Pump.values (p : Pump) : List Int := [flag p.enabled, p.cls.code, p.inlet, p.submergence]

/-- The counters of a pump (section 11). -/
def Pump.counters (p : Pump) : List Int := [(p.runMs / 1000 : Nat), p.starts]

/-- The values of an item of a table numbered from 1. -/
def itemValues {α : Type} {n : Nat} (v : Vector α n) (i : Nat) (f : α → List Int) : List Int :=
  match index1 n i with
  | some k => f v[k]
  | none => []

/-- The settings in force of a section and index (R169), and the counters of section 11. -/
def State.sectionValues (s : State) (x i : Nat) : List Int :=
  match x with
  | 0 => itemValues s.lau.channels (i + 1) Channel.values
  | 1 => [s.lau.density, s.lau.interval, s.lau.tolerance, s.lau.lostLimit]
  | 2 => [s.twu.trendInterval]
  | 3 => itemValues s.twu.bands i Band.values
  | 4 => [s.twu.reminderInterval]
  | 5 => itemValues s.swc.screens i Screen.values
  | 6 => s.swc.timings.map Int.ofNat
  | 7 => itemValues s.pdc.pumps i Pump.values
  | 8 => s.pdc.timings.map Int.ofNat
  | 9 => s.pdc.order.toList.map fun p => (p.val + 1 : Nat)
  | 10 => [s.slp.rate, s.slp.threshold, s.slp.batchTimeout, s.slp.supervision, s.slp.discard]
  | 11 => itemValues s.pdc.pumps i Pump.counters
  | _ => []

/-- The settings of a section and index, as GET CONFIG gives them. -/
def State.sectionBytes (s : State) (x i : Nat) : List Byte := encodeFields ((sectionWidths x).zip (s.sectionValues x i))

/-- GET CONFIG (R169). -/
def execGetConfig (a : Form (Nat × Nat)) (s : State) : Host.Outcome State Fault Refusal :=
  .next (s.request (.getConfig a) (withArgs a fun x t =>
    if x.1 ≤ 10 ∧ x.2 ∈ sectionIndices x.1 then ⟨t, .ok, t.sectionBytes x.1 x.2⟩ else .refuse t .badArgument))

/-! ## The image written (R193, R195) -/

/-- The section records. -/
def State.imageRecords (s : State) : List Byte :=
  imageKeys.flatMap fun k => natField .u8 k.1 ++ natField .u8 k.2 ++ s.sectionBytes k.1 k.2

/-- The configuration image of the settings in force and the pump counters. -/
def State.image (s : State) : List Byte :=
  let body := natField .u8 1 ++ natField .u16 s.imageRecords.length ++ s.imageRecords
  body ++ natField .u16 (crc16 body).toNat

/-- The byte writes of a save, in the loader's order: the header with format number 0, the records and the CRC, then the
format number 1 (R195). -/
def saveWrites (image : List Byte) : List (Nat × Byte) :=
  match image with
  | [] => []
  | f :: rest => (0, 0x00#8) :: ((List.range' 1 rest.length).zip rest) ++ [(0, f)]

/-- A memory with one byte written; a byte it does not list yet reads as 0xFF. -/
def writeByte (m : List Byte) (a : Nat) (b : Byte) : List Byte :=
  (m ++ List.replicate (a + 1 - m.length) 0xFF#8).set a b

/-- The memory after the first `n` writes of a save. -/
def afterWrites (image : List Byte) (n : Nat) (m : List Byte) : List Byte :=
  ((saveWrites image).take n).foldl (fun m w => writeByte m w.1 w.2) m

/-- How many whole section records lie within the first `n` bytes of the records. -/
def wholeRecords : List (Nat × Nat) → Nat → Nat
  | [], _ => 0
  | k :: ks, n =>
    let len := 2 + ((sectionWidths k.1).map Width.bytes).sum
    if len ≤ n then wholeRecords ks (n - len) + 1 else 0

/-! ## The image read (R193) -/

/-- A byte of the memory; one that nothing has written reads as 0xFF (DESIGN CHOICE, notes/assumptions/11.md). -/
def byteAt (m : List Byte) (a : Nat) : Byte := m.getD a 0xFF#8

/-- Some bytes of the memory. -/
def bytesAt (m : List Byte) (a n : Nat) : List Byte := (List.range' a n).map (byteAt m)

/-- A number within a range. -/
def within (lo hi : Int) (v : Int) : Bool := decide (lo ≤ v ∧ v ≤ hi)

/-- A number that is 0, for off, or within a range. -/
def offOrWithin (lo hi : Int) (v : Int) : Bool := decide (v = 0) || within lo hi v

/-- A number of a list. -/
def oneOf (l : List Int) (v : Int) : Bool := decide (v ∈ l)

/-- A number that the tests of its place allow. -/
def allowed (tests : List (Int → Bool)) (vs : List Int) : Bool := (tests.zip vs).all fun x => x.1 x.2

/-- Ranges and lists of a section's settings, in table order. -/
def sectionTests : Nat → List (Int → Bool)
  | 0 => [within 0 1, within 0 65535, within 0 65535, within (-20000) 20000, within 0 6]
  | 1 => [within 9900 10400, fun v => within 100 2000 v && decide (v % 100 = 0), within 10 500, within 10 300]
  | 2 => [within 5 60]
  | 3 => [within 0 1, within 0 2, within (-30000) 30000, within (-30000) 30000, within 0 3, within 0 500,
      fun v => within 0 8 v || decide (v = 255), within 0 2, within 0 1]
  | 4 => [offOrWithin 60 3600]
  | 5 => [within 0 1, within 0 3000, within 0 3000, within 0 3000, within 1 64]
  | 6 => [within 30 1800, within 1 30, offOrWithin 10 1440, within 10 1440, within 1 64, within 10 600,
      offOrWithin 5 240, within 10 300, within 1 60, within 2 60]
  | 7 => [within 0 1, within 0 1, within (-30000) 30000, within 0 5000]
  | 8 => [within 0 3600, within 0 3600, within 5 120, within 5 300, within 2 60, within 0 3000, within 5 120,
      within 5 300, within 1 4, within 0 720, within 0 8]
  | 10 => [within 0 4, oneOf [1, 3, 6, 12], within 5 300, offOrWithin 5 600, within 5 600]
  | _ => []

/-- Whether a record's settings pass check 6: each within its range or list, a band's bounds in order, and the duty order
a permutation. -/
def settingsValid (x : Nat) (vs : List Int) : Bool :=
  allowed (sectionTests x) vs &&
    match x, vs with
    | 3, [_, _, lo, hi, _, _, _, _, _] => decide (lo < hi)
    | 9, vs => (toOrder (vs.map Int.toNat)).isSome
    | _, _ => true

/-- A section record as read. -/
structure Record where
  sec : Nat
  index : Nat
  values : List Int

/-- A failed check: its code, and value2 of the notice (R194). -/
structure ImageError where
  code : Nat
  sec : Int

/-- Reads the records, `keys` being the sections and indices still to come: checks 5, 6 and 7 of each record in turn. A
record that is missing at the end fails check 7 (DEDUCED, notes/assumptions/24.md). `fuel` bounds the records read. -/
def readRecords : Nat → List (Nat × Nat) → List Byte → Except ImageError (List Record)
  | _, [], [] => .ok []
  | _, k :: _, [] => .error ⟨7, k.1⟩
  | _, _, [x] => .error ⟨5, x.toNat⟩
  | 0, _, x :: _ => .error ⟨7, x.toNat⟩
  | fuel + 1, keys, x :: i :: rest =>
    if i.toNat ∈ sectionIndices x.toNat then
      match takeFields (sectionWidths x.toNat) rest with
      | none => .error ⟨5, x.toNat⟩
      | some (vs, left) =>
        if !settingsValid x.toNat vs then .error ⟨6, x.toNat⟩
        else
          match keys with
          | [] => .error ⟨7, x.toNat⟩
          | k :: ks =>
            if k = (x.toNat, i.toNat) then
              match readRecords fuel ks left with
              | .ok rs => .ok (⟨x.toNat, i.toNat, vs⟩ :: rs)
              | .error e => .error e
            else .error ⟨7, x.toNat⟩
    else .error ⟨5, x.toNat⟩

/-- Reads and checks the image (R193); `answers` says whether the memory answers every transfer. -/
def readImage (m : List Byte) (answers : Bool) : Except ImageError (List Record) :=
  let len := numberOf (bytesAt m 1 2)
  if !answers then .error ⟨1, -1⟩
  else if byteAt m 0 ≠ 0x01#8 then .error ⟨2, -1⟩
  else if 2048 < len then .error ⟨3, -1⟩
  else if encodeField .u16 (crc16 (bytesAt m 0 (3 + len))).toNat ≠ bytesAt m (3 + len) 2 then .error ⟨4, -1⟩
  else readRecords len imageKeys (bytesAt m 3 len)

/-! ## The image applied (R194) -/

/-- The settings of a channel from a record. -/
def Channel.load (ch : Channel) : List Int → Channel
  | [en, z, g, e, k] =>
    { ch with enabled := decide (en = 1), zero := z.toNat, gain := g.toNat, elevation := e, shift := k.toNat }
  | _ => ch

/-- The settings of a band from a record. -/
def Band.load (b : Band) : List Int → Band
  | [en, q, lo, hi, r, h, c, m, k] =>
    { b with
      enabled := decide (en = 1), quantity := (toQuantity q.toNat).getD b.quantity, low := lo, high := hi
      rank := (toRank r.toNat).getD b.rank, hysteresis := h.toNat, cap := toCap c.toNat
      mode := (toMode m.toNat).getD b.mode, noticeClass := (toBandClass k.toNat).getD b.noticeClass }
  | _ => b

/-- The settings of a screen from a record. -/
def Screen.load (sc : Screen) : List Int → Screen
  | [v, w, h, b, p] =>
    { sc with
      inService := decide (v = 1), washStart := w.toNat, high := h.toNat, blind := b.toNat, defaultPasses := p.toNat }
  | _ => sc

/-- The settings of a pump from a record. -/
def Pump.load (p : Pump) : List Int → Pump
  | [en, c, i, m] =>
    { p with
      enabled := decide (en = 1), cls := (toPumpClass c.toNat).getD p.cls, inlet := i, submergence := m.toNat }
  | _ => p

/-- The counters of a pump from a record. -/
def Pump.loadCounters (p : Pump) : List Int → Pump
  | [r, n] => { p with runMs := r.toNat * 1000, starts := n.toNat }
  | _ => p

/-- The settings of the LAU from section 1. -/
def Lau.load (l : Lau) : List Int → Lau
  | [d, i, t, m] => { l with density := d.toNat, interval := i.toNat, tolerance := t.toNat, lostLimit := m.toNat }
  | _ => l

/-- The settings of SET WASH TIMING from section 6. -/
def Swc.load (w : Swc) : List Int → Swc
  | [a, b, c, d, e, f, g, h, i, j] =>
    { w with
      passTimeout := a.toNat, indexGuard := b.toNat, washInterval := c.toNat, fallbackInterval := d.toNat
      stormPasses := e.toNat, sluiceTime := f.toNat, purgeInterval := g.toNat, purgeTime := h.toNat
      deferral := i.toNat, lossDelay := j.toNat }
  | _ => w

/-- The settings of SET PUMP TIMING from section 8. -/
def Pdc.load (p : Pdc) : List Int → Pdc
  | [a, b, c, d, e, f, g, h, i, j, k] =>
    { p with
      recoveryLarge := a.toNat, recoverySmall := b.toNat, startTimeout := c.toNat, stopTimeout := d.toNat
      startSpacing := e.toNat, startMargin := f.toNat, tripDelay := g.toNat, shedDelay := h.toNat
      pumpsPerScreen := i.toNat, rotationInterval := j.toNat, fallbackDemand := k.toNat }
  | _ => p

/-- The settings of SET LINK from section 10. -/
def Slp.load (l : Slp) : List Int → Slp
  | [r, t, b, s, d] =>
    { l with rate := r.toNat, threshold := t.toNat, batchTimeout := b.toNat, supervision := s.toNat, discard := d.toNat }
  | _ => l

/-- One record applied. -/
def State.applyRecord (s : State) (r : Record) : State :=
  match r.sec with
  | 0 => match index0 12 r.index with
    | some c => s.onChannel c fun ch => ch.load r.values
    | none => s
  | 1 => s.onLau fun l => l.load r.values
  | 2 => s.onTwu fun t => { t with trendInterval := (r.values.headD 15).toNat }
  | 3 => match index1 8 r.index with
    | some b => s.onBand b fun bd => bd.load r.values
    | none => s
  | 4 => s.onTwu fun t => { t with reminderInterval := (r.values.headD 0).toNat }
  | 5 => match index1 6 r.index with
    | some n => s.onScreen n fun sc => sc.load r.values
    | none => s
  | 6 => s.onSwc fun w => w.load r.values
  | 7 => match index1 8 r.index with
    | some p => s.onPump p fun q => q.load r.values
    | none => s
  | 8 => s.onPdc fun d => d.load r.values
  | 9 => s.onPdc fun d => { d with order := (toOrder (r.values.map Int.toNat)).getD d.order }
  | 10 => s.onSlp fun l => l.load r.values
  | 11 => match index1 8 r.index with
    | some p => s.onPump p fun q => q.loadCounters r.values
    | none => s
  | _ => s

/-- The image applied whole, or the defaults with a CONFIG_IMAGE_BAD notice (R194). The settings stand at their defaults
from the beginning of LOADING. -/
def State.loadImage (s : State) (answers : Bool) : State :=
  match readImage s.slp.memory answers with
  | .ok rs => (rs.foldl State.applyRecord s).onSlp fun l => { l with configDefaults := false }
  | .error e => s.notify .fault .configImageBad 0 0 (e.code : Nat) e.sec

end Sys2Proof.Machine
end

