-- ==== Sys2Proof/Machine/Deferred.lean ====
section
/-! DEFINITION. Sys2Proof/Machine/Deferred.lean: the deferred request table (R175..R181), the four deferred requests
(R81, R132, R133, R178) and the end of a configuration save (R195). -/

namespace Sys2Proof.Machine

/-! ## The table (R176, R177, R180) -/

/-- The slot that holds a target. -/
def State.slotOf (s : State) (t : Target) : Option SlotId :=
  allSlots.find? fun i =>
    match s.slp.slots[i] with
    | some sl => decide (sl.target = t)
    | none => false

/-- The lowest free slot. -/
def State.freeSlot (s : State) : Option SlotId := allSlots.find? fun i => s.slp.slots[i].isNone

/-- The opening number after one more opening: it wraps from 65535 to 1 (R175). -/
def nextOpening (n : Nat) : Nat := n % 65535 + 1

/-- A slot opened (R177). -/
def State.openSlot (s : State) (i : SlotId) (k : DeferredKind) (t : Target) (args : List Byte) : State :=
  s.onSlp fun l =>
    { l with
      opening := nextOpening l.opening
      slots := l.slots.set i (some ⟨k, t, args, nextOpening l.opening, .inProgress⟩) }

/-- A slot freed. -/
def State.freeSlotAt (s : State) (i : SlotId) : State := s.onSlp fun l => { l with slots := l.slots.set i none }

/-- What the rule of the owner says of a request with no slot for its target (R177). -/
inductive Verdict where
  | refused (c : Code)
  | answered (s : State)
  | opens

/-- The number of a slot, as it is sent. -/
def slotNumber (i : SlotId) : List Byte := encodeField .u8 (i.val + 1 : Nat)

/-- A request that found a slot with its target (R176, R180). -/
def foundSlot (i : SlotId) (sl : Slot) (k : DeferredKind) (args : List Byte) (s : State) : Answer :=
  if sl.kind = k ∧ sl.arguments = args then
    match sl.state with
    | .inProgress => ⟨s, .deferred, slotNumber i⟩
    | .done r d at_ _ => ⟨s.freeSlotAt i, .ok, encodeFields [(.u8, r), (.u16, d), (.u32, at_)]⟩
  else .refuse s .retryLater

/-- A request with no slot for its target (R177): `act` is the action of the owner's row, given the mark. -/
def newRequest (k : DeferredKind) (t : Target) (args : List Byte) (v : Verdict) (act : Nat → State → State)
    (data : List Byte) (s : State) : Answer :=
  match v with
  | .refused c => .refuse s c
  | .answered u => ⟨u, .ok, []⟩
  | .opens =>
    match s.freeSlot with
    | none => .refuse s .retryLater
    | some i =>
      let u := s.openSlot i k t args
      ⟨act u.slp.opening u, .deferred, slotNumber i ++ data⟩

/-- A deferred request held against the table, past its structural refusals (R176). -/
def deferredRequest (k : DeferredKind) (t : Target) (args : List Byte) (v : State → Verdict)
    (act : Nat → State → State) (data : List Byte) (s : State) : Answer :=
  match s.slotOf t with
  | some i =>
    match s.slp.slots[i] with
    | some sl => foundSlot i sl k args s
    | none => newRequest k t args (v s) act data s
  | none => newRequest k t args (v s) act data s

/-- The payload of a request, as received. -/
def payloadBytes (i : Instr) : List Byte :=
  match encodeRequest i with
  | some (_, bs) => bs
  | none => []

/-! ## WASH SCREEN (R81) -/

/-- The SWC's checks on a WASH SCREEN. -/
def washVerdict (n : ScreenId) (s : State) : Verdict :=
  match (s.screen n).state with
  | .outOfService | .jammed => .refused .state
  | .idle | .queued => .opens
  | .washing | .finishing => if (s.screen n).staged.isSome then .refused .full else .opens

/-- A host wash request reaches the queue (R101, R102) or the staged slot (R82). -/
def State.hostWash (n : ScreenId) (passes mark : Nat) (s : State) : State :=
  match (s.screen n).state with
  | .idle => (s.joinQueue n .host passes (some mark)).reevaluate.settle
  | .queued => (s.mergeQueue n .host passes (some mark)).reevaluate.settle
  | .washing | .finishing => s.stage n ⟨passes, .host, some mark⟩
  | .outOfService | .jammed => s

/-- WASH SCREEN (R81, R176, R177). -/
def execWashScreen (a : Form (Nat × Nat)) (s : State) : Host.Outcome State Fault Refusal :=
  .next (s.request (.washScreen a) (withArgs a fun x t =>
    match index1 6 x.1 with
    | none => .refuse t .badArgument
    | some n =>
      let passes := clampNat 0 64 x.2
      outsideFallback (deferredRequest .washScreen (.screen n) (payloadBytes (.washScreen a)) (washVerdict n)
        (State.hostWash n passes) (encodeField .u16 passes)) t))

/-! ## START PUMP and STOP PUMP (R132, R133, R154) -/

/-- The PDC's checks on a START PUMP (R132). -/
def startVerdict (p : PumpId) (s : State) : Verdict :=
  match s.pdc.mode with
  | .auto => .refused .state
  | .manual =>
    match (s.pump p).state with
    | .running => .answered s
    | .disabled | .recovering | .stopping | .failed => .refused .state
    | .starting | .stopped => .opens

/-- The action of a START PUMP (R128, R132). -/
def State.hostStart (p : PumpId) (mark : Nat) (s : State) : State :=
  match (s.pump p).state with
  | .starting => s.onPump p fun q => { q with startMark := some mark }
  | .stopped => (s.joinStart p .host (some mark)).settle
  | .running | .disabled | .recovering | .stopping | .failed => s

/-- START PUMP (R132, R176, R177). -/
def execStartPump (a : Form Nat) (s : State) : Host.Outcome State Fault Refusal :=
  .next (s.request (.startPump a) (withArgs a fun v t =>
    match index1 8 v with
    | none => .refuse t .badArgument
    | some p =>
      outsideFallback (deferredRequest .startPump (.pump p) (payloadBytes (.startPump a)) (startVerdict p)
        (State.hostStart p) []) t))

/-- Whether a RUNNING pump is the last in RUNNING while the header is held (R133). -/
def State.lastUnderHeader (s : State) : Bool := decide (s.runningNow = 1) && s.pdc.headerHeld

/-- The PDC's checks on a STOP PUMP (R133). -/
def stopVerdict (p : PumpId) (force : Bool) (s : State) : Verdict :=
  match s.pdc.mode with
  | .auto => .refused .state
  | .manual =>
    match (s.pump p).state with
    | .stopped => .answered (s.leaveStart p)
    | .recovering | .disabled | .failed => .answered s
    | .starting => .refused .state
    | .stopping => .opens
    | .running => if s.lastUnderHeader && !force then .refused .headerInUse else .opens

/-- The action of a STOP PUMP: a stop in progress is followed, the last running pump's forced stop clears the header
first (R154), and any other stop is ordered (R122). -/
def State.hostStop (p : PumpId) (force : Bool) (mark : Nat) (s : State) : State :=
  match (s.pump p).state with
  | .stopping => s.onPump p fun q => { q with stopMark := some mark }
  | .running =>
    ((if s.lastUnderHeader then s.clearHeader .abortedByRequest else s).orderStop p (if force then .forced else .host)
      (some mark)).settle
  | .stopped | .recovering | .disabled | .failed | .starting => s

/-- STOP PUMP (R133, R154, R176, R177). -/
def execStopPump (a : Form (Nat × Nat)) (s : State) : Host.Outcome State Fault Refusal :=
  .next (s.request (.stopPump a) (withArgs a fun x t =>
    match index1 8 x.1, yesNo x.2 with
    | some p, some force =>
      outsideFallback (deferredRequest .stopPump (.pump p) (payloadBytes (.stopPump a)) (stopVerdict p force)
        (State.hostStop p force) []) t
    | _, _ => .refuse t .badArgument))

/-! ## SAVE CONFIG (R178, R195) -/

/-- The loader's check on a SAVE CONFIG (R178). -/
def saveVerdict (s : State) : Verdict := if s.slp.save.isSome then .refused .retryLater else .opens

/-- The loader takes its copy and begins the save (R195). -/
def State.beginSave (mark : Nat) (s : State) : State := s.onSlp fun l => { l with save := some ⟨s.image, mark⟩ }

/-- SAVE CONFIG (R176..R178, R195). -/
def execSaveConfig (a : Form Unit) (s : State) : Host.Outcome State Fault Refusal :=
  .next (s.request (.saveConfig a) (withArgs a fun _ t =>
    deferredRequest .saveConfig .memory (payloadBytes (.saveConfig a)) saveVerdict State.beginSave [] t))

/-- What the memory holds when a save ends: the bytes read back, or as many writes as it answered (DESIGN CHOICE,
notes/assumptions/11.md). -/
def savedMemory (image : List Byte) (m : List Byte) : SaveEnd → List Byte
  | .readBack bs => bs ++ m.drop bs.length
  | .noAnswer n => afterWrites image n m

/-- The reason code of a save's end, 0 for WRITTEN (R195). -/
def saveReason (image : List Byte) : SaveEnd → Nat
  | .readBack bs => if bs = image then 0 else 8
  | .noAnswer _ => 1

/-- The number of records written (R195). -/
def recordsWritten : SaveEnd → Nat
  | .readBack _ => 49
  | .noAnswer n => wholeRecords imageKeys (n - 3)

/-- The notice and the outcome of a save that ends, the notice first (R195). -/
def State.reportSave (s : State) (mark reason records : Nat) : State :=
  (s.notify (if reason = 0 then .status else .fault) .configSaved 0 0 (reason : Nat) (records : Nat)).complete (some mark)
    (if reason = 0 then 0 else 1) reason

/-- SAVE_CONFIG_END (R195): a save carried over a SOFT RESET FULL ends without outcome or notice (R192). -/
def execSaveConfigEnd (e : SaveEnd) (s : State) : Host.Outcome State Fault Refusal :=
  .next
    (match s.slp.save with
     | none => s
     | some sv =>
       let t := s.onSlp fun l => { l with memory := savedMemory sv.image l.memory e, save := none }
       if s.active then t.reportSave sv.mark (saveReason sv.image e) (recordsWritten e) else t)

/-! ## Discard (R181) -/

/-- Whether a DONE slot's discard timer has reached the discard time. -/
def State.discardFalls (s : State) (i : SlotId) : Bool :=
  match s.slp.slots[i] with
  | some sl =>
    match sl.state with
    | .done _ _ _ ms => reached ms s.slp.discard
    | .inProgress => false
  | none => false

/-- A DONE slot freed with its DEFERRED_DISCARDED notice. -/
def State.discardSlot (s : State) (i : SlotId) : State :=
  match s.slp.slots[i] with
  | some sl =>
    match sl.state with
    | .done r d _ _ =>
      (s.freeSlotAt i).notify .status .deferredDiscarded sl.target.number sl.kind.code (r : Nat) (min d 32767 : Nat)
    | .inProgress => s
  | none => s

/-- DISCARD_TIMER_EXPIRY (R181). -/
def execDiscardTimerExpiry (i : SlotId) (s : State) : Host.Outcome State Fault Refusal :=
  .next (if s.active && s.discardFalls i then s.discardSlot i else s)

end Sys2Proof.Machine
end

