-- ==== Sys2Proof/Machine/Link.lean ====
section
/-! DEFINITION. Sys2Proof/Machine/Link.lean: reception (R161, R162), the transmitter and the batches (R167, R185, R186),
supervision and fallback (R189..R191), and the requests that the Supervisory Link Port answers itself. -/

namespace Sys2Proof.Machine

/-! ## Reception (R161, R162) -/

/-- Whether the part takes bytes: not while RESET_N is held low (R192). -/
def State.listening (s : State) : Bool := decide (s.phase ≠ .resetHeld)

/-- A frame in collection. -/
def State.collecting (s : State) : Bool := s.listening && decide (s.slp.receiver = .collecting)

/-- The receiver returns to hunting. -/
def State.hunt (s : State) : State := s.onSlp fun l => { l with receiver := .hunting }

/-- FRAME_START (R161): a start byte while hunting. -/
def execFrameStart (s : State) : Host.Outcome State Fault Refusal :=
  .next (if s.listening then s.onSlp fun l => { l with receiver := .collecting } else s)

/-- A good frame is handed on (R162): reported to the supervision timer, then held as a request, or dropped. -/
def State.goodFrame (s : State) (f : Frame) : State :=
  if 0x80 ≤ f.kind.toNat then s.heard.markLinkError
  else s.heard.hold ⟨f.kind, f.tag, decodeRequest f.kind f.payload⟩

/-- FRAME_RECEIVED (R161, R162): the last CRC byte of a frame in collection. -/
def execFrameReceived (f : Frame) (s : State) : Host.Outcome State Fault Refusal :=
  .next (if s.collecting then if f.good then s.hunt.goodFrame f else s.hunt.markLinkError else s)

/-- FRAMING_ERROR (R161). -/
def execFramingError (s : State) : Host.Outcome State Fault Refusal :=
  .next (if s.listening then s.hunt.markLinkError else s)

/-- RX_GAP_TIMEOUT (R161). -/
def execRxGapTimeout (s : State) : Host.Outcome State Fault Refusal :=
  .next (if s.collecting then s.hunt.markLinkError else s)

/-- LEN_ABOVE_120 (R161). -/
def execLenAbove120 (s : State) : Host.Outcome State Fault Refusal :=
  .next (if s.collecting then s.hunt.markLinkError else s)

/-- UNKNOWN_KIND (R163, step 2). -/
def execUnknownKind (kind : Byte) (s : State) : Host.Outcome State Fault Refusal :=
  .next (s.request (.unknownKind kind) fun t => .refuse t .unknownKind)

/-! ## Start-up (R192) -/

/-- The memory after a save is abandoned: as many of its writes as the free value says were made (R192, R195;
DESIGN CHOICE, notes/assumptions/11.md). -/
def State.abandonSave (s : State) : State :=
  match s.slp.save with
  | none => s
  | some sv =>
    s.drawn.onSlp fun l =>
      { l with
        memory := afterWrites sv.image (s.choice ((saveWrites sv.image).length + 1)) l.memory, save := none }

/-- The start of start-up: every block at its start-up value, LOADING, CFGSRC read. The inputs are as they stand; the
memory, and a save that goes on, are not state of a block (R24, R46, R65, R95, R115, R139, R156, R174, R192). -/
def State.startUp (s : State) (cfgsrc : Bool) : State :=
  { phase := .loading
    cfgsrc := cfgsrc
    swc := { screens := s.swc.screens.map fun sc => { jam := sc.jam }, hdok := s.swc.hdok }
    pdc := { pumps := Vector.ofFn fun p : PumpId =>
               { (defaultPumps[p] : Pump) with feedback := (s.pump p).feedback, trip := (s.pump p).trip } }
    slp := { fromImage := cfgsrc, memory := s.slp.memory, save := s.slp.save }
    draws := s.draws
    pending := s.pending }

/-! ## The transmitter (R167, R172, R186) -/

/-- The quiet time compared with the time already run (R185). -/
def Slp.compareQuiet (l : Slp) : Slp := { l with quietOut := decide (l.notices ≠ []) && l.quietReached l.quietMs }

/-- A rate that waited for the last byte of a reply takes effect (R167, R170). -/
def Slp.takeRate (l : Slp) : Slp :=
  match l.nextRate with
  | some r => { l with rateInForce := r, nextRate := none }.compareQuiet
  | none => l

/-- The transmitter falls free: the waiting reply is sent, else a batch that is due when no request waits to be taken. -/
def State.transmitNext (s : State) (requestHeld : Bool) : State :=
  match s.slp.waiting with
  | some r => s.onSlp fun l => { l with tx := .reply r, waiting := none }
  | none => if s.batchDue && !requestHeld then s.formBatch else s

/-- REPLY_SENT (R163, R167, R172): the request leaves the buffer, a new rate takes effect, and start-up follows the reply
to SOFT RESET FULL. A request still held is taken next, and its reply and a batch then follow as R173 orders them
(DEDUCED, notes/assumptions/22.md). -/
def execReplySent (cfgsrc : Bool) (s : State) : Host.Outcome State Fault Refusal :=
  .next
    (match s.slp.tx with
     | .reply _ =>
       let t := s.onSlp fun l => { l with requests := l.requests.drop 1, tx := .free }.takeRate
       if t.slp.fullReset then t.startUp cfgsrc else t.transmitNext (decide (t.slp.requests ≠ []))
     | .free | .batch _ _ _ => s)

/-- BATCH_SENT (R167, R186). -/
def execBatchSent (s : State) : Host.Outcome State Fault Refusal :=
  .next
    (match s.slp.tx with
     | .batch _ _ _ => (s.onSlp fun l => { l with tx := .free }).transmitNext false
     | .free | .reply _ => s)

/-- Whether a batch can be formed now (R186). -/
def State.batchReady (s : State) : Bool := s.batchDue && decide (s.slp.tx = .free) && s.slp.waiting.isNone

/-- NOTICE_BATCH (R185, R186). -/
def execNoticeBatch (s : State) : Host.Outcome State Fault Refusal :=
  .next (if s.batchReady then s.formBatch else s)

/-- Whether the quiet time runs out now (R185). -/
def State.quietFalls (s : State) : Bool :=
  s.active && decide (s.slp.notices ≠ []) && s.slp.quietReached s.slp.quietMs && !s.slp.quietOut

/-- QUIET_TIME_EXPIRY (R185). -/
def execQuietTimeExpiry (s : State) : Host.Outcome State Fault Refusal :=
  .next (if s.quietFalls then s.onSlp fun l => { l with quietOut := true } else s)

/-- GET NOTICES (R187). -/
def execGetNotices (a : Form Unit) (s : State) : Host.Outcome State Fault Refusal :=
  .next (s.request (.getNotices a) (withArgs a fun _ t =>
    let d := deliver 6 t.slp.notices
    ⟨t.onSlp Slp.delivered, .ok, recordBytes (batchHeader d.1.length t.slp.overrun) d.1⟩))

/-! ## Supervision and fallback (R189..R191) -/

/-- A slot at the entry into fallback: a DONE one is freed without notice (R190). -/
def dropDone (sl : Option Slot) : Option Slot := sl.filter fun x => decide (x.state = .inProgress)

/-- The entry into fallback (R190). -/
def State.enterFallback (s : State) : State :=
  let t := (s.onSlp fun l => { l with fallback := true, slots := l.slots.map dropDone }).setMode .auto
  let u := ((t.onPdc fun d => { d with demand := d.fallbackDemand }).evaluationFollows).settle
  u.notify .fault .supervisionLost 0 0 (u.slp.supervision : Nat) (u.pdc.demand : Nat)

/-- Whether the supervision timer expires now (R189). -/
def Slp.supervisionFalls (l : Slp) : Bool :=
  l.supervising && decide (l.supervision ≠ 0) && reached l.supervisionMs l.supervision

/-- SUPERVISION_TIMER_EXPIRY (R189). -/
def execSupervisionTimerExpiry (s : State) : Host.Outcome State Fault Refusal :=
  .next
    (if s.active && s.slp.supervisionFalls then
      let t := s.onSlp fun l => { l with supervising := false }
      if t.slp.fallback then t else t.enterFallback
     else s)

/-- RESUME (R191). -/
def execResume (a : Form Unit) (s : State) : Host.Outcome State Fault Refusal :=
  .next (s.request (.resume a) (withArgs a fun _ t => ⟨t.onSlp fun l => { l with fallback := false }, .ok, []⟩))

/-! ## SET LINK and the soft resets (R170, R172) -/

/-- The settings SET LINK gives; a rate other than the one in force waits for the last byte of the reply. -/
def Slp.configure (l : Slp) (c : LinkArgs) : Slp :=
  { l with
    rate := c.rate.getD l.rate
    threshold := c.threshold.getD l.threshold
    batchTimeout := taken (clampNat 5 300) c.batchTimeout l.batchTimeout
    supervision := taken (clampOff 5 600) c.supervision l.supervision
    discard := taken (clampNat 5 600) c.discard l.discard
    nextRate := if c.rate.getD l.rateInForce = l.rateInForce then l.nextRate else c.rate }

/-- Whether a rate code and a batch threshold given are in their lists (R170). -/
def linkListed (c : LinkArgs) : Bool :=
  decide (c.rate.getD 0 ≤ 4) && decide (c.threshold.getD 1 ∈ [1, 3, 6, 12])

/-- Whether SET LINK had a value clamped (R170). -/
def linkClamped (c : LinkArgs) : Bool :=
  adjusted (clampNat 5 300) c.batchTimeout || adjusted (clampOff 5 600) c.supervision
    || adjusted (clampNat 5 600) c.discard

/-- A new supervision time restarts the timer, or stops it when it is 0 (R189). -/
def State.supervisionActs (s : State) : State :=
  s.onSlp fun l => { l with supervisionMs := 0, supervising := decide (l.supervision ≠ 0) }

/-- A new discard time discards every DONE slot that has reached it, in ascending slot number (R181). -/
def State.discardActs (s : State) : State :=
  allSlots.foldl (fun t i => if t.discardFalls i then t.discardSlot i else t) s

/-- What the new values of SET LINK do when the request is taken, in table order (DEDUCED, notes/assumptions/12.md). -/
def State.linkActs (s : State) (old : Slp) : State :=
  let new := s.slp
  s
  |> whenNew old.batchTimeout new.batchTimeout (fun t => t.onSlp Slp.compareQuiet)
  |> whenNew old.supervision new.supervision State.supervisionActs
  |> whenNew old.discard new.discard State.discardActs

/-- SET LINK (R170). -/
def execSetLink (a : Form LinkArgs) (s : State) : Host.Outcome State Fault Refusal :=
  .next (s.request (.setLink a) (withArgs a fun c t =>
    if c.rate.isNone && c.threshold.isNone && c.batchTimeout.isNone && c.supervision.isNone && c.discard.isNone then
      .refuse t .badArgument
    else if !linkListed c then .refuse t .badArgument
    else
      let set := t.onSlp fun l => l.configure c
      ⟨set.linkActs t.slp, okCode (linkClamped c), takenData (linkClamped c)
        [(c.rate.isSome, .u8, set.slp.rate), (c.threshold.isSome, .u8, set.slp.threshold),
          (c.batchTimeout.isSome, .u16, set.slp.batchTimeout), (c.supervision.isSome, .u16, set.slp.supervision),
          (c.discard.isSome, .u16, set.slp.discard)]⟩))

/-- What SOFT RESET LINK does when it is taken (R172). -/
def Slp.linkReset (l : Slp) : Slp :=
  { l with
    requests := l.requests.take 1, notices := [], quietOut := false, slots := Vector.replicate 4 none
    linkError := false, overrun := false }

/-- SOFT RESET LINK (R172). -/
def execSoftResetLink (a : Form Unit) (s : State) : Host.Outcome State Fault Refusal :=
  .next (s.request (.softResetLink a) (withArgs a fun _ t => ⟨t.onSlp Slp.linkReset, .ok, []⟩))

/-- SOFT RESET FULL (R172): start-up begins when the last byte of the reply has been sent. -/
def execSoftResetFull (a : Form Unit) (s : State) : Host.Outcome State Fault Refusal :=
  .next (s.request (.softResetFull a) (withArgs a fun _ t => ⟨t.onSlp fun l => { l with fullReset := true }, .ok, []⟩))

/-! ## GET STATUS (R168) -/

/-- A shed scope as it is sent (R142). -/
def Scope.bytes (k : Scope) : List Byte := group timerBytes k.timer ++ encodeField .u8 k.due.code

/-- A list of items as it is sent (R166). -/
def listBytes {α : Type} (f : α → List Byte) (l : List α) : List Byte := encodeField .u8 l.length ++ l.flatMap f

/-- An entry of the start queue as it is sent (R128). -/
def startBytes (e : StartEntry) : List Byte :=
  encodeFields [(.u8, e.pump.val + 1), (.u8, e.origin.code), (.u8, flag e.mark.isSome), (.u16, secs e.ageMs)]

/-- A slot's kind, target and state, as they are sent (R175); a free slot is an absent group (DESIGN CHOICE,
notes/assumptions/27.md). -/
def slotBytes (sl : Slot) : List Byte :=
  encodeFields [(.u8, sl.kind.code), (.u8, sl.target.number), (.u8, flag (sl.state ≠ .inProgress))]

/-- The link figures of GET STATUS: rate code, requests held, notices queued. -/
def State.linkFigures (s : State) : List Byte :=
  encodeFields [(.u8, s.slp.rateInForce), (.u16, s.slp.requests.length), (.u16, s.slp.notices.length)]

/-- How many slots are in use. -/
def State.slotsUsed (s : State) : Nat := (allSlots.filter fun i => s.slp.slots[i].isSome).length

/-- The pending or active time of the header purge (R107). -/
def Swc.purgeTimeNow (w : Swc) : Option Nat :=
  match w.purge with
  | .idle => none
  | .pending => some w.pendingMs
  | .active => some w.activeMs

/-- The data of GET STATUS outside LOADING (R168); with long queues it is longer than a frame carries (DEDUCED,
notes/assumptions/15.md). -/
def State.statusData (s : State) : List Byte :=
  encodeFields [(.u32, s.slp.time), (.u16, s.pdc.demand), (.u8, s.pdc.mode.code), (.u16, s.ceiling 0), (.u16, s.ceiling 1),
      (.u16, s.ceiling 2), (.u16, s.target), (.u8, capCode s.deviceLimit)]
    ++ allScopes.flatMap (fun k => s.pdc.scopes[k].bytes)
    ++ encodeField .u8 (flag s.pdc.changeover)
    ++ group (fun pr => encodeFields [(.u8, pr.b.val + 1), (.u8, pr.w.val + 1)]) s.pdc.pair
    ++ listBytes (fun p => encodeField .u8 (p.val + 1 : Nat)) (allPumps.filter s.heldByHeader)
    ++ listBytes queueBytes s.swc.queue
    ++ encodeField .u8 s.swc.purge.code ++ group timerBytes s.swc.purgeTimeNow
    ++ encodeFields [(.u8, flag s.swc.overdue), (.u8, flag s.swc.sluicing)]
    ++ group timerBytes (if s.swc.sluicing then some s.swc.sluiceMs else none)
    ++ listBytes startBytes s.pdc.queue
    ++ encodeField .u16 s.runningNow
    ++ s.linkFigures
    ++ allSlots.flatMap (fun i => group slotBytes s.slp.slots[i])

/-- GET STATUS (R168): in LOADING its data is the link figures and the slots in use. -/
def execGetStatus (a : Form Unit) (s : State) : Host.Outcome State Fault Refusal :=
  .next (s.requestIn (.getStatus a)
    (withArgs a fun _ t => ⟨t, .ok, t.linkFigures ++ encodeField .u16 t.slotsUsed⟩)
    (withArgs a fun _ t => ⟨t, .ok, t.statusData⟩))

end Sys2Proof.Machine
end

