-- ==== Sys2Proof/Machine/StartUp.lean ====
section
/-! DEFINITION. Sys2Proof/Machine/StartUp.lean: power-on, RESET_N and the end of LOADING (R192..R194). -/

namespace Sys2Proof.Machine

/-- POWER_ON (R192): start-up begins; a save that was running is abandoned where it stands. -/
def execPowerOn (cfgsrc : Bool) (s : State) : Host.Outcome State Fault Refusal := .next (s.abandonSave.startUp cfgsrc)

/-- RESET_N_ASSERTED (R192): every output is off and the part takes no input, frame or request until the release, which
abandons all state of every block; the model abandons it here, where nothing shows it (DEDUCED,
notes/assumptions/10.md). -/
def execResetNAsserted (s : State) : Host.Outcome State Fault Refusal :=
  .next (if s.phase = .resetHeld then s else { s.abandonSave.startUp false with phase := .resetHeld })

/-- RESET_N_RELEASED (R192). -/
def execResetNReleased (cfgsrc : Bool) (s : State) : Host.Outcome State Fault Refusal :=
  .next (if s.phase = .resetHeld then s.startUp cfgsrc else s)

/-! ## The end of LOADING -/

/-- A save carried over a SOFT RESET FULL is carried to its end before the image is read (R192; DESIGN CHOICE,
notes/assumptions/11.md). -/
def Slp.finishSave (l : Slp) : Slp :=
  match l.save with
  | some sv => { l with memory := savedMemory sv.image l.memory (.readBack sv.image), save := none }
  | none => l

/-- The settings are taken from the image or from the defaults (R192, R194). -/
def State.takeSettings (s : State) (answers : Bool) : State :=
  if s.slp.fromImage then s.loadImage answers else s

/-- A channel's start state (R5). -/
def Channel.start (ch : Channel) : Channel :=
  { ch with health := if ch.enabled then .under else .disabled, awaiting := ch.enabled }

/-- The LAU's start state: the start-up record with the margins of the settings in force (R22, R24), the scan timer and
the first scan started (R1); that scan's channels are dealt with after this step (DEDUCED, notes/assumptions/17.md). -/
def State.startLau (s : State) (samples : Vector Nat 12) : State :=
  s.onLau fun l =>
    let chs := l.channels.map Channel.start
    { l.startScan samples 0 with
      channels := chs
      record := { channels := chs.map (fun ch => ⟨ch.level, ch.health, ch.clamped⟩)
                  margins := Vector.ofFn fun p => marginOf 0 (s.pump p) } }

/-- A screen's start state from its in-service setting and SJAM (R95). -/
def State.startScreen (s : State) (n : ScreenId) : State :=
  if (s.screen n).inService then
    if (s.screen n).jam then s.foundJammed n else s.enterScreen n .idle
  else s.enterScreen n .outOfService

/-- A pump's start state: RECOVERING with the full recovery time of its class, or DISABLED (R139). -/
def State.startPump (s : State) (p : PumpId) : State :=
  if (s.pump p).enabled then
    (s.onPump p fun q => { q with recovery := s.pdc.recoveryTime q.cls * 1000 }).rest p
  else s.enterPump p .disabled

/-- The link's start state: the rate of the settings applies, or waits for a frame being sent, and the supervision timer
starts (R174, R189). -/
def Slp.start (l : Slp) : Slp :=
  let u := { l with supervising := decide (l.supervision ≠ 0), supervisionMs := 0, nextRate := some l.rate }
  if l.tx = .free then u.takeRate else u

/-- The blocks take their start states and their timers start; no duty evaluation is made before the first scan event
(R95, R115, R139, R156, R192). Screens found jammed queue their notices in ascending number (DESIGN CHOICE,
notes/assumptions/29.md). -/
def State.startBlocks (s : State) (samples : Vector Nat 12) : State :=
  let t := allScreens.foldl State.startScreen (s.startLau samples)
  let u := allPumps.foldl State.startPump t
  ({ u with phase := .running }.onSwc fun w =>
      { w with falsePeriod := if w.hdok then none else some 0 })
    |>.onPdc (fun d => { d with evaluationDue := false })
    |>.onSlp Slp.start

/-- LOADING_END (R192..R194). -/
def execLoadingEnd (e : LoaderEnd) (s : State) : Host.Outcome State Fault Refusal :=
  .next
    (if s.phase = .loading then ((s.onSlp Slp.finishSave).takeSettings e.answers).startBlocks e.samples else s)

end Sys2Proof.Machine
end

