-- ==== Sys2Proof/Machine/Clock.lean ====
section
/-! DEFINITION. Sys2Proof/Machine/Clock.lean: what the part does with no command waiting (DESIGN CHOICE, notes/assumptions/4.md): it
takes an event that is due of itself, one at a time in a free order, or a millisecond passes. -/

namespace Sys2Proof.Machine

/-! ## A millisecond passes -/

/-- One more millisecond of a timer that runs, up to a limit. -/
def countTo (limit ms : Nat) : Nat := min (ms + 1) limit

/-- A timer that counts while a condition holds, and holds its value otherwise. -/
def countWhile (running : Bool) (ms : Nat) : Nat := if running then ms + 1 else ms

/-- The LAU's timers: the scan timer, and the lost time while the sea is LOST (R1, R18). -/
def Lau.elapse (l : Lau) : Lau :=
  { l with timer := l.timer + 1, lostMs := if l.record.cls = .lost then countTo 65535000 l.lostMs else l.lostMs }

/-- The TWU's timers (R26, R56). -/
def Twu.elapse (t : Twu) : Twu :=
  { t with
    trendTimer := t.trendTimer + 1, reminderTimer := countWhile (decide (t.reminderInterval ≠ 0)) t.reminderTimer }

/-- A screen's timers (R69, R76). -/
def Screen.elapse (sc : Screen) : Screen :=
  { sc with
    sinceEnd := countTo 172800000 sc.sinceEnd
    wash := sc.wash.map fun w => { w with passTimer := w.passTimer + 1, guard := w.guard.map (· + 1) } }

/-- The SWC's timers: the purge timer runs in IDLE, the pending time in PENDING, the active and sluice times while HDOK
is true (R105..R109). -/
def Swc.elapse (w : Swc) : Swc :=
  { w with
    screens := w.screens.map Screen.elapse
    queue := w.queue.map fun e => { e with ageMs := e.ageMs + 1 }
    purgeTimer := countWhile (decide (w.purge = .idle ∧ w.purgeInterval ≠ 0)) w.purgeTimer
    pendingMs := countWhile (decide (w.purge = .pending)) w.pendingMs
    activeMs := countWhile (decide (w.purge = .active) && w.hdok) w.activeMs
    falsePeriod := w.falsePeriod.map (· + 1)
    sluiceMs := countWhile (w.sluicing && w.hdok) w.sluiceMs }

/-- Whether a pump's recovery timer counts down (R123). -/
def PumpState.resting : PumpState → Bool
  | .recovering | .failed | .disabled => true
  | .stopped | .starting | .running | .stopping => false

/-- A pump's timers and its run seconds (R120, R122, R123, R127, R150). -/
def Pump.elapse (q : Pump) : Pump :=
  { q with
    recovery := if q.state.resting then q.recovery - 1 else q.recovery
    startTimer := countWhile (decide (q.state = .starting)) q.startTimer
    stopTimer := countWhile (decide (q.state = .stopping)) q.stopTimer
    runTime := countWhile (decide (q.state = .running)) q.runTime
    runMs := if q.state = .running then countTo 4294967295999 q.runMs else q.runMs
    lowMargin := q.lowMargin.map fun m => { m with ms := m.ms + 1 } }

/-- The PDC's timers (R128, R129, R135, R146). -/
def Pdc.elapse (d : Pdc) : Pdc :=
  { d with
    pumps := d.pumps.map Pump.elapse
    queue := d.queue.map fun e => { e with ageMs := e.ageMs + 1 }
    sinceStart := d.sinceStart.map (countTo 60000)
    rotationTimer := countWhile (decide (d.rotationInterval ≠ 0)) d.rotationTimer
    scopes := d.scopes.map fun k => { k with timer := k.timer.map (· + 1) } }

/-- A slot's discard timer (R181). -/
def Slot.elapse (sl : Slot) : Slot :=
  match sl.state with
  | .inProgress => sl
  | .done r d at_ ms => { sl with state := .done r d at_ (ms + 1) }

/-- The SLP's timers: the second count while the time is set, the discard timers, the quiet time and the supervision
timer (R171, R181, R185, R189). -/
def Slp.elapse (l : Slp) : Slp :=
  { l with
    phaseMs := countWhile l.timeSet l.phaseMs
    slots := l.slots.map fun sl => sl.map Slot.elapse
    quietMs := countTo 30000 l.quietMs
    supervisionMs := countWhile l.supervising l.supervisionMs }

/-- A millisecond passes. -/
def State.elapse (s : State) : State :=
  { s with lau := s.lau.elapse, twu := s.twu.elapse, swc := s.swc.elapse, pdc := s.pdc.elapse, slp := s.slp.elapse }

/-! ## Events that are due -/

/-- An event when a condition holds. -/
def dueIf (b : Bool) (i : Instr) : List Instr := if b then [i] else []

/-- The counts of a scan that no command gives: free values (DESIGN CHOICE, notes/assumptions/3.md and 4.md). -/
def State.freeSamples (s : State) : Vector Nat 12 := Vector.ofFn fun i => Config.free (s.draws + 1 + i.val) % 65536

/-- The held request that can be taken (R163). -/
def State.dueRequest (s : State) : List Instr :=
  if s.slp.replyOutstanding then [] else (s.slp.requests.take 1).map Request.command

/-- What is due of the LAU and the TWU. -/
def State.dueSea (s : State) : List Instr :=
  (match s.lau.scan with
   | none => dueIf (decide (s.lau.period ≤ s.lau.timer)) (.scanTimerExpiry s.freeSamples 12)
   | some sc => dueIf (decide (12 ≤ sc.next)) .scanEvent)
    ++ dueIf (reached s.twu.trendTimer s.twu.trendInterval) .trendTimerExpiry
    ++ dueIf s.twu.reminderDue .reminderTimerExpiry

/-- What is due of the SWC. -/
def State.dueWash (s : State) : List Instr :=
  allScreens.flatMap (fun n => dueIf ((s.screen n).state.isWashing && s.stalled n) (.passTimeout n))
    ++ dueIf (s.swc.lossReached && s.anyWashing) .headerLossDelayExpiry
    ++ dueIf s.swc.sluiceDone .sluiceRunEnd
    ++ dueIf s.swc.purgeFalls .headerPurgeTimerExpiry
    ++ dueIf s.swc.purgeDone .headerPurgeComplete
    ++ dueIf s.swc.purgeLate .purgeOverdue

/-- What is due of the PDC. -/
def State.duePumps (s : State) : List Instr :=
  allPumps.flatMap (fun p =>
      dueIf (s.startLate p) (.startTimeout p) ++ dueIf (s.stopLate p) (.stopTimeout p)
        ++ dueIf (s.recovered p) (.recoveryTimerExpiry p)
        ++ dueIf (s.lowLevelFalls p) (.lowLevelStop p))
    ++ dueIf s.pdc.spacingFalls .startSpacingExpiry
    ++ dueIf s.pdc.rotationDue .rotationTimerExpiry
    ++ allScopes.flatMap (fun k => dueIf (s.shedFalls k) (.shedTimerExpiry k))

/-- What is due of the SLP, beside a request. -/
def State.dueLink (s : State) : List Instr :=
  dueIf (s.slp.timeSet && decide (1000 ≤ s.slp.phaseMs)) .intakeTimeCount
    ++ allSlots.flatMap (fun i => dueIf (s.discardFalls i) (.discardTimerExpiry i))
    ++ dueIf s.slp.supervisionFalls .supervisionTimerExpiry
    ++ dueIf s.batchReady .noticeBatch
    ++ dueIf s.quietFalls .quietTimeExpiry

/-- Every event that is due of itself: in LOADING the taking of a request alone, since no timer runs (R192). -/
def State.dueEvents (s : State) : List Instr :=
  match s.phase with
  | .resetHeld => []
  | .loading => s.dueRequest
  | .running => s.dueRequest ++ s.dueSea ++ s.dueWash ++ s.duePumps ++ s.dueLink

/-- What the part does with no command waiting: it puts one event that is due in the queue, the choice among several
being free; with none due it goes on with a scan in progress, or a millisecond passes. -/
def State.idle (s : State) : State :=
  match s.dueEvents with
  | [] => if s.active then (if s.lau.scan.isSome then s.dealNext else s.elapse) else s
  | e :: es => { s with draws := s.draws + 13, pending := [(e :: es).getD (s.choice (es.length + 1)) e] }

end Sys2Proof.Machine
end

