-- ==== Sys2Proof/Machine/Dispatch.lean ====
section
/-! DEFINITION. Sys2Proof/Machine/Dispatch.lean: the meaning of each command, one arm a constructor of Instr. -/

namespace Sys2Proof.Machine

/-- A command's effect on everything but the queue of waiting commands. -/
def exec (i : Instr) (s : State) : Host.Outcome State Fault Refusal :=
  match i with
  | .powerOn cfgsrc => Sys2Proof.Machine.execPowerOn cfgsrc s
  | .resetNAsserted => Sys2Proof.Machine.execResetNAsserted s
  | .resetNReleased cfgsrc => Sys2Proof.Machine.execResetNReleased cfgsrc s
  | .loadingEnd e => Sys2Proof.Machine.execLoadingEnd e s
  | .scanTimerExpiry samples dealt => Sys2Proof.Machine.execScanTimerExpiry samples dealt s
  | .scanEvent => Sys2Proof.Machine.execScanEvent s
  | .trendTimerExpiry => Sys2Proof.Machine.execTrendTimerExpiry s
  | .reminderTimerExpiry => Sys2Proof.Machine.execReminderTimerExpiry s
  | .intakeTimeCount => Sys2Proof.Machine.execIntakeTimeCount s
  | .indexPulse n => Sys2Proof.Machine.execIndexPulse n s
  | .sjamRising n => Sys2Proof.Machine.execSjamRising n s
  | .sjamFalling n => Sys2Proof.Machine.execSjamFalling n s
  | .passTimeout n => Sys2Proof.Machine.execPassTimeout n s
  | .hdokChange level => Sys2Proof.Machine.execHdokChange level s
  | .headerLossDelayExpiry => Sys2Proof.Machine.execHeaderLossDelayExpiry s
  | .sluiceRunEnd => Sys2Proof.Machine.execSluiceRunEnd s
  | .headerPurgeTimerExpiry => Sys2Proof.Machine.execHeaderPurgeTimerExpiry s
  | .headerPurgeComplete => Sys2Proof.Machine.execHeaderPurgeComplete s
  | .purgeOverdue => Sys2Proof.Machine.execPurgeOverdue s
  | .pfbRising p => Sys2Proof.Machine.execPfbRising p s
  | .pfbFalling p => Sys2Proof.Machine.execPfbFalling p s
  | .ptrpActive p level => Sys2Proof.Machine.execPtrpActive p level s
  | .startTimeout p => Sys2Proof.Machine.execStartTimeout p s
  | .stopTimeout p => Sys2Proof.Machine.execStopTimeout p s
  | .recoveryTimerExpiry p => Sys2Proof.Machine.execRecoveryTimerExpiry p s
  | .startSpacingExpiry => Sys2Proof.Machine.execStartSpacingExpiry s
  | .rotationTimerExpiry => Sys2Proof.Machine.execRotationTimerExpiry s
  | .shedTimerExpiry scope => Sys2Proof.Machine.execShedTimerExpiry scope s
  | .lowLevelStop p => Sys2Proof.Machine.execLowLevelStop p s
  | .discardTimerExpiry slot => Sys2Proof.Machine.execDiscardTimerExpiry slot s
  | .supervisionTimerExpiry => Sys2Proof.Machine.execSupervisionTimerExpiry s
  | .saveConfigEnd e => Sys2Proof.Machine.execSaveConfigEnd e s
  | .frameReceived f => Sys2Proof.Machine.execFrameReceived f s
  | .framingError => Sys2Proof.Machine.execFramingError s
  | .rxGapTimeout => Sys2Proof.Machine.execRxGapTimeout s
  | .lenAbove120 => Sys2Proof.Machine.execLenAbove120 s
  | .replySent cfgsrc => Sys2Proof.Machine.execReplySent cfgsrc s
  | .batchSent => Sys2Proof.Machine.execBatchSent s
  | .noticeBatch => Sys2Proof.Machine.execNoticeBatch s
  | .quietTimeExpiry => Sys2Proof.Machine.execQuietTimeExpiry s
  | .unknownKind kind => Sys2Proof.Machine.execUnknownKind kind s
  | .getStatus a => Sys2Proof.Machine.execGetStatus a s
  | .getLevels a => Sys2Proof.Machine.execGetLevels a s
  | .getTideSummary a => Sys2Proof.Machine.execGetTideSummary a s
  | .getTidePoints a => Sys2Proof.Machine.execGetTidePoints a s
  | .getCondition a => Sys2Proof.Machine.execGetCondition a s
  | .getScreen a => Sys2Proof.Machine.execGetScreen a s
  | .getPump a => Sys2Proof.Machine.execGetPump a s
  | .getNotices a => Sys2Proof.Machine.execGetNotices a s
  | .getConfig a => Sys2Proof.Machine.execGetConfig a s
  | .setChannel a => Sys2Proof.Machine.execSetChannel a s
  | .setDensity a => Sys2Proof.Machine.execSetDensity a s
  | .setScan a => Sys2Proof.Machine.execSetScan a s
  | .setSea a => Sys2Proof.Machine.execSetSea a s
  | .setTrend a => Sys2Proof.Machine.execSetTrend a s
  | .setBandEntry a => Sys2Proof.Machine.execSetBandEntry a s
  | .setBandReminder a => Sys2Proof.Machine.execSetBandReminder a s
  | .setScreen a => Sys2Proof.Machine.execSetScreen a s
  | .setWashTiming a => Sys2Proof.Machine.execSetWashTiming a s
  | .setPump a => Sys2Proof.Machine.execSetPump a s
  | .setPumpTiming a => Sys2Proof.Machine.execSetPumpTiming a s
  | .setDutyOrder a => Sys2Proof.Machine.execSetDutyOrder a s
  | .setDutyMode a => Sys2Proof.Machine.execSetDutyMode a s
  | .setDemand a => Sys2Proof.Machine.execSetDemand a s
  | .setLink a => Sys2Proof.Machine.execSetLink a s
  | .setClockAbsolute a => Sys2Proof.Machine.execSetClockAbsolute a s
  | .setClockStep a => Sys2Proof.Machine.execSetClockStep a s
  | .tidePoints a => Sys2Proof.Machine.execTidePoints a s
  | .tideCommitNow a => Sys2Proof.Machine.execTideCommitNow a s
  | .tideSeal a => Sys2Proof.Machine.execTideSeal a s
  | .tideClear a => Sys2Proof.Machine.execTideClear a s
  | .stopWash a => Sys2Proof.Machine.execStopWash a s
  | .clearScreen a => Sys2Proof.Machine.execClearScreen a s
  | .setService a => Sys2Proof.Machine.execSetService a s
  | .enablePump a => Sys2Proof.Machine.execEnablePump a s
  | .disablePump a => Sys2Proof.Machine.execDisablePump a s
  | .clearPump a => Sys2Proof.Machine.execClearPump a s
  | .resetHours a => Sys2Proof.Machine.execResetHours a s
  | .ackBand a => Sys2Proof.Machine.execAckBand a s
  | .resume a => Sys2Proof.Machine.execResume a s
  | .softResetLink a => Sys2Proof.Machine.execSoftResetLink a s
  | .softResetFull a => Sys2Proof.Machine.execSoftResetFull a s
  | .washScreen a => Sys2Proof.Machine.execWashScreen a s
  | .startPump a => Sys2Proof.Machine.execStartPump a s
  | .stopPump a => Sys2Proof.Machine.execStopPump a s
  | .saveConfig a => Sys2Proof.Machine.execSaveConfig a s
  | .frameStart => Sys2Proof.Machine.execFrameStart s

end Sys2Proof.Machine
end

