-- ==== Sys2Proof/WellFormed.lean ====
section
/-! DEFINITION. Sys2Proof/WellFormed.lean: which commands can come to the part: every operand fits the field it is sent
in (R158, R166), a scan's counts fit the converter (R1), and a request fits its payload. A value that fits its field and
lies outside a rule's range is well formed: the rule clamps or refuses it. -/

namespace Sys2Proof

/-- A number that fits an unsigned field of one byte. -/
def fits8 (n : Nat) : Bool := decide (n < 256)

/-- A number that fits an unsigned field of two bytes. -/
def fits16 (n : Nat) : Bool := decide (n < 65536)

/-- A number that fits an unsigned field of four bytes. -/
def fits32 (n : Nat) : Bool := decide (n < 4294967296)

/-- A number that fits a signed field of two bytes. -/
def fitsS16 (v : Int) : Bool := decide (-32768 ≤ v ∧ v < 32768)

/-- A number that fits a signed field of four bytes. -/
def fitsS32 (v : Int) : Bool := decide (-2147483648 ≤ v ∧ v < 2147483648)

/-- A setting that a selector names fits its field. -/
def given {α : Type} (fits : α → Bool) : Option α → Bool
  | some v => fits v
  | none => true

/-- The arguments of a form fit their fields. -/
def formFits {α : Type} (fits : α → Bool) : Form α → Bool
  | .args a => fits a
  | .mismatch => true

/-- SET CHANNEL. -/
def ChannelArgs.fits (c : ChannelArgs) : Bool :=
  fits8 c.channel && given fits8 c.enabled && given fits16 c.zero && given fits16 c.gain && given fitsS16 c.elevation
    && given fits16 c.shift

/-- SET BAND: band 0 selects the reminder form (R48). -/
def BandArgs.fits (b : BandArgs) : Bool :=
  fits8 b.band && decide (b.band ≠ 0) && fits8 b.enabled && fits8 b.quantity && fitsS16 b.low && fitsS16 b.high
    && fits8 b.rank && fits16 b.hysteresis && fits8 b.cap && fits8 b.mode && fits8 b.noticeClass

/-- SET WASH TIMING. -/
def WashTimingArgs.fits (c : WashTimingArgs) : Bool :=
  given fits16 c.passTimeout && given fits16 c.indexGuard && given fits16 c.washInterval
    && given fits16 c.fallbackInterval && given fits16 c.stormPasses && given fits16 c.sluiceTime
    && given fits16 c.purgeInterval && given fits16 c.purgeTime && given fits16 c.deferral && given fits16 c.lossDelay

/-- SET PUMP TIMING. -/
def PumpTimingArgs.fits (c : PumpTimingArgs) : Bool :=
  given fits16 c.recoveryLarge && given fits16 c.recoverySmall && given fits16 c.startTimeout
    && given fits16 c.stopTimeout && given fits16 c.startSpacing && given fits16 c.startMargin
    && given fits16 c.tripDelay && given fits16 c.shedDelay && given fits16 c.pumpsPerScreen
    && given fits16 c.rotationInterval && given fits16 c.fallbackDemand

/-- TIDE POINTS: the count and the points fit a payload of 120 bytes. -/
def pointsFit (ps : List TidePoint) : Bool :=
  decide (1 + 6 * ps.length ≤ 120) && ps.all fun p => fits32 p.time && fitsS16 p.level

/-- Whether a KIND names a request of the catalogue (section 8.5). -/
def catalogued (kind : Byte) : Bool :=
  let k := kind.toNat
  decide (1 ≤ k ∧ k ≤ 8 ∨ 0x10 ≤ k ∧ k ≤ 0x1E ∨ 0x20 ≤ k ∧ k ≤ 0x23 ∨ 0x30 ≤ k ∧ k ≤ 0x39 ∨ 0x40 ≤ k ∧ k ≤ 0x43)

/-- A frame that the receiver can collect: its LEN is at most 120 (R158, R161). -/
def Frame.fits (f : Frame) : Bool := decide (f.payload.length ≤ 120)

/-- Whether a command can come to the part. -/
def Instr.wellFormed : Instr → Bool
  | .powerOn _ | .resetNAsserted | .resetNReleased _ | .scanEvent | .trendTimerExpiry
  | .reminderTimerExpiry | .intakeTimeCount | .indexPulse _ | .sjamRising _ | .sjamFalling _ | .passTimeout _
  | .hdokChange _ | .headerLossDelayExpiry | .sluiceRunEnd | .headerPurgeTimerExpiry | .headerPurgeComplete
  | .purgeOverdue | .pfbRising _ | .pfbFalling _ | .ptrpActive _ _ | .startTimeout _ | .stopTimeout _
  | .recoveryTimerExpiry _ | .startSpacingExpiry | .rotationTimerExpiry | .shedTimerExpiry _ | .lowLevelStop _
  | .discardTimerExpiry _ | .supervisionTimerExpiry | .saveConfigEnd _ | .framingError | .rxGapTimeout | .lenAbove120
  | .replySent _ | .batchSent | .noticeBatch | .quietTimeExpiry | .frameStart => true
  | .loadingEnd e => e.samples.toList.all fits16
  | .scanTimerExpiry samples dealt => samples.toList.all fits16 && decide (dealt ≤ 12)
  | .frameReceived f => f.fits
  | .unknownKind k => decide (k.toNat < 128) && !catalogued k
  | .getStatus _ | .getTideSummary _ | .getCondition _ | .getNotices _ | .tideCommitNow _ | .tideSeal _ | .tideClear _
  | .resume _ | .softResetLink _ | .softResetFull _ | .saveConfig _ => true
  | .getLevels a | .getScreen a | .getPump a | .setDutyMode a | .stopWash a | .clearScreen a | .enablePump a
  | .disablePump a | .clearPump a | .resetHours a | .ackBand a | .startPump a => formFits fits8 a
  | .setDensity a | .setScan a | .setTrend a | .setBandReminder a | .setDemand a => formFits fits16 a
  | .getTidePoints a | .getConfig a | .setService a | .stopPump a => formFits (fun x => fits8 x.1 && fits8 x.2) a
  | .washScreen a => formFits (fun x => fits8 x.1 && fits16 x.2) a
  | .setChannel a => formFits ChannelArgs.fits a
  | .setSea a => formFits (fun c => given fits16 c.tolerance && given fits16 c.lostLimit) a
  | .setBandEntry a => formFits BandArgs.fits a
  | .setScreen a => formFits (fun c => fits8 c.screen && given fits16 c.washStart && given fits16 c.high
      && given fits16 c.blind && given fits16 c.defaultPasses) a
  | .setWashTiming a => formFits WashTimingArgs.fits a
  | .setPump a => formFits (fun c => fits8 c.pump && given fits8 c.cls && given fitsS16 c.inlet
      && given fits16 c.submergence) a
  | .setPumpTiming a => formFits PumpTimingArgs.fits a
  | .setDutyOrder a => formFits (fun l => decide (l.length = 8) && l.all fits8) a
  | .setLink a => formFits (fun c => given fits8 c.rate && given fits8 c.threshold && given fits16 c.batchTimeout
      && given fits16 c.supervision && given fits16 c.discard) a
  | .setClockAbsolute a => formFits fits32 a
  | .setClockStep a => formFits fitsS32 a
  | .tidePoints a => formFits pointsFit a

end Sys2Proof
end

