-- ==== Sys2Proof/Safety.lean ====
section
/-! DEFINITION. Sys2Proof/Safety.lean: what a sound state of the part is, by the manual's statements about the whole
machine, and the terms in which claims about a request are stated. -/

namespace Sys2Proof.Machine

/-! ## Soundness -/

/-- The outputs follow the states: SDRV and SSPR (R67), PRUN (R118), SLUV (R109), HPRG (R106). -/
def State.OutputsAgree (s : State) : Prop :=
  (∀ n, (s.screen n).drive = (s.screen n).state.isWashing ∧ (s.screen n).spray = (s.screen n).state.isWashing)
    ∧ (∀ p, (s.pump p).run = (s.pump p).state.commanded)
    ∧ s.swc.sluv = s.swc.sluicing ∧ s.swc.hprg = decide (s.swc.purge = .active)

/-- At most one pump is in STARTING (R129). -/
def State.OneStarting (s : State) : Prop :=
  ∀ p q, (s.pump p).state = .starting → (s.pump q).state = .starting → p = q

/-- At most two screens are washing, and none while the header purge is ACTIVE (R103). -/
def State.HeaderShared (s : State) : Prop :=
  s.washingCount ≤ 2 ∧ (s.swc.purge = .active → s.anyWashing = false)

/-- A screen holds a wash record exactly while it is washing (R69). -/
def State.RecordsMatch (s : State) : Prop := ∀ n, (s.screen n).wash.isSome = (s.screen n).state.isWashing

/-- A screen has a queue entry exactly when it is in QUEUED, and at most one (R101). -/
def State.QueueMatches (s : State) : Prop :=
  (s.swc.queue.map QueueEntry.screen).Nodup
    ∧ ∀ n, n ∈ s.swc.queue.map QueueEntry.screen ↔ (s.screen n).state = .queued

/-- The duty order list is a permutation of the pumps (R134). -/
def State.OrderPermutes (s : State) : Prop := s.pdc.order.toList.Nodup

/-- The notice queue and the request buffer keep their bounds (R162, R183). -/
def State.LinkBounded (s : State) : Prop := s.slp.notices.length ≤ 32 ∧ s.slp.requests.length ≤ 2

/-- Point times strictly ascend with gaps of 60 to 3600 s (R31). -/
def gapsHold : List TidePoint → Prop
  | a :: b :: ps => a.time + 60 ≤ b.time ∧ b.time ≤ a.time + 3600 ∧ gapsHold (b :: ps)
  | _ => True

/-- A bank holds as many points as its state says (R31). -/
def Bank.CountFits (b : Bank) : Prop :=
  match b.state with
  | .empty => b.points = []
  | .filling => 1 ≤ b.points.length ∧ b.points.length ≤ 128
  | .sealed | .active => 2 ≤ b.points.length ∧ b.points.length ≤ 128

/-- The prediction banks are as R31 says: roles, counts, ascending times, and levels within ±30000. -/
def State.BanksSound (s : State) : Prop :=
  s.twu.banks[s.twu.loading].state ≠ .active
    ∧ (s.twu.banks[s.twu.standing].state = .empty ∨ s.twu.banks[s.twu.standing].state = .active)
    ∧ ∀ b : BankId, s.twu.banks[b].CountFits ∧ gapsHold s.twu.banks[b].points
        ∧ ∀ p ∈ s.twu.banks[b].points, -30000 ≤ p.level ∧ p.level ≤ 30000

/-- The trend ring holds at most 16 entries (R27). -/
def State.RingBounded (s : State) : Prop := s.twu.ring.length ≤ 16

/-- A pump's recovery timer is 0 unless it is in RECOVERING, FAILED or DISABLED (R123), and at most 3600 s. -/
def State.RecoverySound (s : State) : Prop :=
  ∀ p, ((s.pump p).state.resting = false → (s.pump p).recovery = 0) ∧ (s.pump p).recovery ≤ 3600000

/-- No two slots of the deferred request table have the same target (R175). -/
def State.TargetsDiffer (s : State) : Prop :=
  ∀ i j : SlotId, ∀ a b, s.slp.slots[i] = some a → s.slp.slots[j] = some b → a.target = b.target → i = j

/-- The start queue holds at most one entry per pump (R128). -/
def State.StartsDiffer (s : State) : Prop := (s.pdc.queue.map StartEntry.pump).Nodup

/-- Every band's low bound is less than its high bound (R47). -/
def State.BandsOrdered (s : State) : Prop := ∀ b : BandId, s.twu.bands[b].low < s.twu.bands[b].high

/-- Whether a section's settings in force are each within range or list (R166, R193). -/
def State.sectionSound (s : State) (k : Nat × Nat) : Bool := settingsValid k.1 (s.sectionValues k.1 k.2)

/-- Every setting in force is within its range or list, and the pump counters within their fields. -/
def State.SettingsSound (s : State) : Prop :=
  (∀ k ∈ imageKeys, s.sectionSound k = true)
    ∧ ∀ p, (s.pump p).runMs ≤ 4294967295999 ∧ (s.pump p).starts ≤ 65535

/-- A screen holds a staged wash only while it is washing (R82). -/
def State.StagedMatch (s : State) : Prop := ∀ n, (s.screen n).staged.isSome = true → (s.screen n).state.isWashing = true

/-- Outside work no screen is queued or washing (R95, R192). -/
def State.WashesClear (s : State) : Prop :=
  s.phase ≠ .running → ∀ n, (s.screen n).state ≠ .queued ∧ (s.screen n).state.isWashing = false

/-- The SWC's records, staged washes, queue and header agree with its screens. -/
structure State.SwcSound (s : State) : Prop where
  header : s.HeaderShared
  records : s.RecordsMatch
  staged : s.StagedMatch
  queue : s.QueueMatches
  clear : s.WashesClear

/-- The tables and queues keep their bounds and their entries apart (R27, R128, R134, R162, R175, R183). -/
structure State.TablesSound (s : State) : Prop where
  ring : s.RingBounded
  starts : s.StartsDiffer
  order : s.OrderPermutes
  link : s.LinkBounded
  targets : s.TargetsDiffer

/-- Every block is at its start-up value, the pins being as they stand: of the link, the receiver, the request buffer,
the transmitter, LINK_ERROR, the memory and a save that goes on are not spoken of (R192; before the end of LOADING the
states of screens and pumps are the model's choice, notes/assumptions/1.md). -/
def State.AtStartUp (s : State) : Prop :=
  s.lau = {} ∧ s.twu = {}
    ∧ s.swc = { screens := Vector.ofFn fun n : ScreenId => { jam := (s.screen n).jam }, hdok := s.swc.hdok }
    ∧ s.pdc =
      { pumps := Vector.ofFn fun p : PumpId =>
          { cls := if p.val < 6 then .large else .small, feedback := (s.pump p).feedback, trip := (s.pump p).trip } }
    ∧ s.slp =
      { receiver := s.slp.receiver, requests := s.slp.requests, waiting := s.slp.waiting, tx := s.slp.tx
        linkError := s.slp.linkError, fromImage := s.slp.fromImage, save := s.slp.save, memory := s.slp.memory }

/-- Until LOADING has ended, every block is at its start-up value (R192). -/
def State.LoadingAtStart (s : State) : Prop := s.phase ≠ .running → s.AtStartUp

/-- The Intake Condition published is the one its claims and bands give (R60..R63). -/
def State.ConditionCurrent (s : State) : Prop := s.twu.condition = s.twu.recomputed

/-- What the blocks publish to one another is as it stands: the running count (R119), header held (R110) and the six
capacity flags (R111). -/
structure State.PublicationsCurrent (s : State) : Prop where
  running : s.swc.runningCount = s.runningNow
  held : s.pdc.headerHeld = s.headerInUse
  counts : ∀ n, (s.screen n).counts = (s.screen n).counting

/-! ## Frames

A frame says what a piece of work may change: outside it every register, timer, setting, mark and pin is as it was. Each
`sans` function sets aside the fields that may change, so that equality of the two results says the others are equal. -/

/-- A screen without its state, wash, results and outputs: its settings, verdict, capacity flag and SJAM. -/
def Screen.sansWash (sc : Screen) : Screen :=
  { sc with
    state := .idle, wash := none, staged := none, current := none, previous := none, sinceEnd := 0
    drive := false, spray := false }

/-- The SWC without what a grant changes. -/
def Swc.sansGrants (w : Swc) : Swc := { w with screens := Vector.replicate 6 {}, queue := [], runningCount := 0 }

/-- The SWC without what the end of a wash, the sluice and the header purge change: its settings and HDOK. -/
def Swc.sansWashes (w : Swc) : Swc :=
  { w.sansGrants with
    purge := .idle, purgeTimer := 0, pendingMs := 0, activeMs := 0, overdue := false, hprg := false
    sluicing := false, sluiceMs := 0, sluv := false }

/-- A pump without its state, timers, marks and PRUN: its settings, run seconds, PFB and PTRP. -/
def Pump.sansMotion (q : Pump) : Pump :=
  { q with
    state := .stopped, recovery := 0, startTimer := 0, stopTimer := 0, cause := .none, startOrigin := .host
    startMark := none, stopOrigin := none, stopMark := none, runTime := 0, starts := 0, lowMargin := none, run := false }

/-- The PDC without what its evaluations change: its settings, order, rotation timer, mode and demand. -/
def Pdc.sansDuty (d : Pdc) : Pdc :=
  { d with
    pumps := defaultPumps, queue := [], sinceStart := none, spacingTaken := false, scopes := Vector.replicate 4 {}
    changeover := false, pair := none, headerHeld := false, evaluationDue := false }

/-- The SLP without its notice queue and its slots. -/
def Slp.sansNews (l : Slp) : Slp :=
  { l with notices := [], quietMs := 0, quietOut := false, overrun := false, slots := Vector.replicate 4 none }

/-- A screen that the arbiter has granted its queue entry (R70, R103). -/
def Screen.granted (sc : Screen) (e : QueueEntry) : Screen :=
  { sc with
    state := .washing, drive := true, spray := true
    wash := some { passes := e.passes, cls := e.cls, mark := e.mark, counter := startCounter e.passes } }

/-- A slot is as it was, or its request has completed: DONE with an outcome, or freed in fallback (R179). -/
def slotFollows (fallback : Bool) (stamp : Nat) (a b : Option Slot) : Prop :=
  b = a ∨ ∃ sl, a = some sl ∧ sl.state = .inProgress
    ∧ ((fallback = true ∧ b = none) ∨ (fallback = false ∧ ∃ r d, b = some { sl with state := .done r d stamp 0 }))

/-- What is news on the link: notices may be queued, and no ALARM or FAULT notice of the queue is lost; requests in
progress may complete; the rest of the link is as it was. -/
structure State.LinkFrame (s t : State) : Prop where
  slp : t.slp.sansNews = s.slp.sansNews
  notices : ∀ m ∈ s.slp.notices, m.cls.urgent = true → m ∈ t.slp.notices
  slots : ∀ i : SlotId, slotFollows s.slp.fallback s.stamp s.slp.slots[i] t.slp.slots[i]

/-- What the PDC does to the pumps, those of `P` apart: a pump in neither RUNNING nor STOPPED is as it was, and every
pump keeps its settings, run seconds and inputs. -/
structure State.PumpFrame (P : PumpId → Prop) (s t : State) : Prop where
  pdc : t.pdc.sansDuty = s.pdc.sansDuty
  pumps : ∀ p, (t.pump p).sansMotion = (s.pump p).sansMotion
  still : ∀ p, ¬ P p → (s.pump p).state ≠ .running → (s.pump p).state ≠ .stopped → t.pump p = s.pump p

/-- What grants of the header arbiter do: entries leave the wash queue, each with its screen starting its wash; the
running count is published. -/
structure State.GrantFrame (s t : State) : Prop where
  swc : t.swc.sansGrants = s.swc.sansGrants
  queue : t.swc.queue.Sublist s.swc.queue
  screens : ∀ n, t.screen n = s.screen n ∨ ∃ e ∈ s.swc.queue, e.screen = n ∧ t.screen n = (s.screen n).granted e

/-- What the ends of washes, the sluice, the header purge and the wash queue do: a screen not of `W` is as it was but for
a grant of its entry, and every screen keeps its settings, verdict, capacity flag and SJAM. -/
structure State.WashFrame (W : ScreenId → Prop) (s t : State) : Prop where
  swc : t.swc.sansWashes = s.swc.sansWashes
  screens : ∀ n, (t.screen n).sansWash = (s.screen n).sansWash
  queue : ∀ e ∈ t.swc.queue, ¬ W e.screen → e ∈ s.swc.queue
  kept : ∀ n, ¬ W n → t.screen n = s.screen n ∨ ∃ e ∈ s.swc.queue, e.screen = n ∧ t.screen n = (s.screen n).granted e

/-- The phase, the strap, the LAU and the queue of waiting commands are as they were. -/
structure State.SameCore (s t : State) : Prop where
  phase : t.phase = s.phase
  cfgsrc : t.cfgsrc = s.cfgsrc
  lau : t.lau = s.lau
  pending : t.pending = s.pending

/-- The TWU and the free value's counter are as they were. -/
def State.SameSea (s t : State) : Prop := t.twu = s.twu ∧ t.draws = s.draws

/-- What the duty evaluations after a piece of work may change, the pumps of `P` being moved by the work itself. -/
structure State.DutyFrame (P : PumpId → Prop) (s t : State) : Prop where
  core : s.SameCore t
  sea : s.SameSea t
  grant : s.GrantFrame t
  pump : s.PumpFrame P t
  link : s.LinkFrame t

/-- What a piece of work of the SWC may change, with the duty evaluations after it: the washes of the screens of `W`, the
sluice, the header purge, and what the duty evaluations change; the counter of free values is not spoken of. -/
structure State.WorkFrame (W : ScreenId → Prop) (P : PumpId → Prop) (s t : State) : Prop where
  core : s.SameCore t
  twu : t.twu = s.twu
  wash : s.WashFrame W t
  pump : s.PumpFrame P t
  link : s.LinkFrame t

/-- A screen after the end of a wash other than by COMPLETE: its result enters the pair, pending, the staged slot and the
wash record are empty, and the time since its last wash end restarts (R76, R85..R87). -/
def Screen.ended (sc : Screen) (w : WashRecord) (o : WashOutcome) (at_ : Nat) (next : ScreenState) : Screen :=
  { sc with
    previous := sc.current, current := some ⟨o, w.passes, w.accepted - 1, w.doubleIndex, w.cls, w.mark, at_, true⟩
    staged := none, wash := none, state := next, drive := false, spray := false, sinceEnd := 0 }

/-- A result made final (R88). -/
def released (r : Option WashResult) : Option WashResult := r.map fun r => { r with pending := false }

/-- The sluice purge runs with its full time (R109). -/
def State.SluiceRestarted (t : State) : Prop := t.swc.sluicing = true ∧ t.swc.sluv = true ∧ t.swc.sluiceMs = 0

/-- One slot alone follows the work under an opening number. -/
def State.Follows (s : State) (m : Nat) (i : SlotId) : Prop := ∀ j : SlotId, followedBy m s.slp.slots[j] = decide (j = i)

/-- The slot is DONE with an outcome, its discard timer at 0. -/
def State.DoneWith (s t : State) (i : SlotId) (result detail : Nat) : Prop :=
  t.slp.slots[i] = s.slp.slots[i].map fun sl => { sl with state := .done result detail s.stamp 0 }

/-- No shed scope holds a due stop, so that no duty evaluation orders a stop (R146, R147). -/
def State.NoDueStop (s : State) : Prop := ∀ k : ScopeId, s.pdc.scopes[k].due = .none

/-- A pump after its entry into FAILED (R118, R123): its cause recorded, its recovery timer loaded, PRUN off. -/
def Pump.failedWith (q : Pump) (c : FailCause) (seconds : Nat) : Pump :=
  { q with
    state := .failed, run := false, lowMargin := none, cause := c, recovery := seconds * 1000
    startTimer := 0, stopTimer := 0, startMark := none, stopMark := none }

/-- A running pump after a stop order, PFB still being true (R122). -/
def Pump.stopOrdered (q : Pump) (o : StopOrigin) (mark : Option Nat) : Pump :=
  { q with
    state := .stopping, run := false, lowMargin := none, stopTimer := 0, stopOrigin := some o, stopMark := mark }

/-- The recovery time of a pump's class, in seconds (R117). -/
def State.recoverySeconds (s : State) (p : PumpId) : Nat :=
  match (s.pump p).cls with
  | .large => s.pdc.recoveryLarge
  | .small => s.pdc.recoverySmall

/-! ## Requests -/

/-- A number clamped into a range (R166). -/
def heldTo (lo hi v : Nat) : Nat := max lo (min hi v)

/-- A number clamped into a range, or 0 for off (R166). -/
def heldToOrOff (lo hi v : Nat) : Nat := if v = 0 then 0 else heldTo lo hi v

/-- The value a setting takes: the one given, clamped, or the one it had. -/
def setTo (lo hi old : Nat) (given : Option Nat) : Nat := (given.map (heldTo lo hi)).getD old

/-- The value a setting with 0 for off takes. -/
def setToOrOff (lo hi old : Nat) (given : Option Nat) : Nat := (given.map (heldToOrOff lo hi)).getD old

/-- The value a signed setting takes. -/
def setToInt (lo hi old : Int) (given : Option Int) : Int := (given.map fun v => max lo (min hi v)).getD old

/-- Whether a value given lies outside a range. -/
def strays (lo hi : Nat) (given : Option Nat) : Bool := given.any fun v => decide (v < lo ∨ hi < v)

/-- Whether a value given is neither 0 nor within a range. -/
def straysOrOff (lo hi : Nat) (given : Option Nat) : Bool := given.any fun v => decide (v ≠ 0 ∧ (v < lo ∨ hi < v))

/-- Whether a signed value given lies outside a range. -/
def straysInt (lo hi : Int) (given : Option Int) : Bool := given.any fun v => decide (v < lo ∨ hi < v)

/-- The values named, each in its width, in table order (R166). -/
def carried (fs : List (Bool × Width × Int)) : List Byte :=
  (fs.filter (·.1)).flatMap fun f => encodeField f.2.1 f.2.2

/-- The request is taken now: LOADING has ended, no reply is waiting or being sent, and it is the oldest held (R163). -/
def State.Takes (s : State) (i : Instr) : Prop :=
  s.phase = .running ∧ s.slp.replyOutstanding = false ∧ ∃ r rest, s.slp.requests = r :: rest ∧ r.command = i

/-- Every block but the link is as it was. -/
def State.SameBlocks (s t : State) : Prop :=
  t.phase = s.phase ∧ t.cfgsrc = s.cfgsrc ∧ t.lau = s.lau ∧ t.twu = s.twu ∧ t.swc = s.swc ∧ t.pdc = s.pdc
    ∧ t.draws = s.draws ∧ t.pending = s.pending

/-- A notice batch is begun (R159, R186): up to six notices leave the queue of `l`, OVERRUN is carried and cleared, the
quiet time restarts, the status byte says whether notices remain; the rest of the link is as in `l`. -/
def State.BeginsBatch (s : State) (l : Slp) (t : State) : Prop :=
  s.SameBlocks t ∧ ∃ status : Byte,
    t.slp = { l with
      notices := (deliver 6 l.notices).2, overrun := false, quietMs := 0, quietOut := false
      tx := .batch status (BitVec.ofNat 8 ((deliver 6 l.notices).1.length + if l.overrun then 128 else 0))
        (deliver 6 l.notices).1 }
    ∧ status.getLsbD 0 = decide (t.slp.notices ≠ [])

/-- The reply `r` has been handed to the transmitter, which sends it if it was free and lets it wait otherwise (R167);
LINK_ERROR is cleared (R164), and the rest of the link is as it was. -/
def State.Sends (s t : State) (r : Reply) : Prop :=
  t.slp =
    match s.slp.tx with
    | .free => { s.slp with linkError := false, tx := .reply r }
    | .reply _ | .batch _ _ _ => { s.slp with linkError := false, waiting := some r }

end Sys2Proof.Machine
end

