-- ==== Sys2Proof/Certificates/Slice0/Obligations.lean ====
section
/-! DEFINITION. Sys2Proof/Certificates/Slice0/Obligations.lean: the statements about the part, from the manual's numbered
rules. A request statement speaks of a request that is taken (`State.Takes`); its effect is a state `v`, and what the
part then does is `v.reply code data`, which ReplyIsFormedAndSent describes. An event statement gives the state the event
leaves, with the frame of the work that follows it (Safety.lean). -/

section

open Sys2Proof Sys2Proof.Machine

/-! ## Steps, reset and the whole part -/

/-- A step takes the command at the front of the queue and runs it with the queue's rest. -/
def Obligations.StepRunsTheFrontCommand : Prop :=
  ∀ (c : Instr) (rest : List Instr) (s : State), s.pending = c :: rest → step s = exec c { s with pending := rest }

/-- The model's choice (notes/assumptions/4.md): with an empty queue an event that is due is put in the queue, or the next
channel of a scan in progress is dealt with, or a millisecond passes; while RESET_N is held low nothing happens. -/
def Obligations.EmptyQueueStep : Prop :=
  ∀ s : State, s.pending = [] →
    (s.phase = .resetHeld → step s = .next s)
      ∧ (s.dueEvents ≠ [] → ∃ e ∈ s.dueEvents, step s = .next { s with draws := s.draws + 13, pending := [e] })
      ∧ (s.phase = .running → s.dueEvents = [] → s.lau.scan = none → step s = .next s.elapse)
      ∧ (s.phase = .running → s.dueEvents = [] → s.lau.scan ≠ none → step s = .next s.dealNext)
      ∧ (s.phase = .loading → s.dueEvents = [] → step s = .next s)

/-- Every command ends in a next state, whatever the state and the operands, and leaves the queue of waiting commands. -/
def Obligations.EveryCommandCompletes : Prop :=
  ∀ (c : Instr) (s : State), ∃ t, exec c s = .next t ∧ t.pending = s.pending

/-- After reset every block is at its start-up value, every output is off, and every setting at its default. The
model's choices in it: notes/assumptions/1.md, 10.md. -/
def Obligations.ResetLeavesDefaults : Prop :=
  State.reset.phase = .loading ∧ State.reset.AtStartUp ∧ State.reset.slp.configDefaults = true
    ∧ State.reset.slp.timeSet = false
    ∧ (∀ n, (State.reset.screen n).drive = false ∧ (State.reset.screen n).spray = false)
    ∧ (∀ p, (State.reset.pump p).run = false) ∧ State.reset.swc.sluv = false ∧ State.reset.swc.hprg = false
    ∧ (∀ c : Fin 12, State.reset.sectionValues 0 c.val = [1, 10486, 977, 0, 3])
    ∧ State.reset.sectionValues 1 0 = [10250, 500, 50, 60] ∧ State.reset.sectionValues 2 0 = [15]
    ∧ (∀ b : Fin 8, State.reset.sectionValues 3 (b.val + 1) = [0, 0, -30000, 30000, 2, 0, 255, 0, 1])
    ∧ State.reset.sectionValues 4 0 = [0]
    ∧ (∀ n : Fin 6, State.reset.sectionValues 5 (n.val + 1) = [1, 150, 400, 800, 2])
    ∧ State.reset.sectionValues 6 0 = [300, 3, 0, 30, 4, 60, 60, 30, 10, 5]
    ∧ (∀ p : Fin 8, State.reset.sectionValues 7 (p.val + 1) = [1, if p.val < 6 then 0 else 1, -2600, 1200])
    ∧ State.reset.sectionValues 8 0 = [600, 180, 30, 60, 10, 300, 10, 20, 2, 24, 2]
    ∧ State.reset.sectionValues 9 0 = [1, 2, 3, 4, 5, 6, 7, 8]
    ∧ State.reset.sectionValues 10 0 = [1, 3, 20, 30, 120]

/-- Every invariant stated below holds at reset. The model's choices in it: notes/assumptions/1.md. -/
def Obligations.InvariantsHoldAtReset : Prop :=
  State.reset.OutputsAgree ∧ State.reset.OneStarting ∧ State.reset.SwcSound ∧ State.reset.TablesSound
    ∧ State.reset.BanksSound ∧ State.reset.SettingsSound ∧ State.reset.RecoverySound ∧ State.reset.LoadingAtStart
    ∧ State.reset.ConditionCurrent ∧ State.reset.PublicationsCurrent

/-- Every step keeps the outputs as the states say: SDRV and SSPR on exactly while the screen is washing (R67), PRUN
exactly while the pump is in STARTING or RUNNING (R118), SLUV while the sluice purge runs (R109) and HPRG while the header
purge is ACTIVE (R106). -/
def Obligations.OutputsFollowStates : Prop :=
  ∀ s t : State, s.OutputsAgree → step s = .next t → t.OutputsAgree

/-- Every step keeps at most one pump in STARTING; the trend ring within 16 entries, one start queue entry a pump, the
duty order a permutation, the notice queue within 32 and the request buffer within two, no two slots with one target;
and the prediction banks, the loading one not ACTIVE, the standing one EMPTY or ACTIVE, each with as many points as its
state allows, times ascending by 60 s to 3600 s, levels within 30000 mm. -/
def Obligations.TablesStaySound : Prop :=
  (∀ s t : State, s.OneStarting → step s = .next t → t.OneStarting)
    ∧ (∀ s t : State, s.TablesSound → step s = .next t → t.TablesSound)
    ∧ (∀ s t : State, s.BanksSound → step s = .next t → t.BanksSound)

/-- Every step keeps the header's bounds (at most two screens washing, none under an ACTIVE header purge), a wash record
exactly with a washing screen, a staged wash only with one, and a queue entry exactly with a QUEUED screen. -/
def Obligations.WashesStaySound : Prop :=
  ∀ s t : State, s.SwcSound → step s = .next t → t.SwcSound

/-- Every step keeps every setting within its range or list, and the recovery timers as R123 has them: 0 but in
RECOVERING, FAILED and DISABLED. -/
def Obligations.SettingsStaySound : Prop :=
  ∀ s t : State, s.SettingsSound → s.RecoverySound → step s = .next t → t.SettingsSound ∧ t.RecoverySound

/-- Every step keeps the blocks at their start-up values until LOADING has ended, and the Intake Condition at what the
claims and the bands give. The model's choices in it, the states of screens and pumps before the end of LOADING among
them: notes/assumptions/1.md. -/
def Obligations.ConditionStaysCurrent : Prop :=
  ∀ s t : State, s.LoadingAtStart → s.ConditionCurrent → step s = .next t → t.LoadingAtStart ∧ t.ConditionCurrent

/-- Every step keeps the running count, header held and the capacity flags at what the pumps and the screens give. The
model's choices in it: notes/assumptions/8.md. -/
def Obligations.PublicationsStayCurrent : Prop :=
  ∀ s t : State, s.SwcSound → s.LoadingAtStart → s.PublicationsCurrent → step s = .next t → t.PublicationsCurrent

/-- The LAU's channel table, settings, scan timer and record change only in the scan and in its own settings requests,
with the start of the part: no other command touches the LAU. -/
def Obligations.OnlyScansAndSettingsTouchTheLau : Prop :=
  ∀ (c : Instr) (s t : State), exec c s = .next t →
    match c with
    | .powerOn _ | .resetNAsserted | .resetNReleased _ | .loadingEnd _ | .replySent _ => True
    | .scanTimerExpiry _ _ | .scanEvent | .setChannel _ | .setDensity _ | .setScan _ | .setSea _ => True
    | _ => t.lau = s.lau

/-! ## Start-up (Chapter 10) -/

/-- Power-on begins LOADING with the strap read and every block at its start-up value, the pins as they stand; RESET_N
held low does the same but for the phase, every output off, and takes no frame and no request; its release begins
LOADING. The model's choices in it, the states of screens and pumps before the end of LOADING among them:
notes/assumptions/1.md, 10.md. -/
def Obligations.StartUpBeginsLoading : Prop :=
  (∀ (s : State) (strap : Bool),
      (∃ t, exec (.powerOn strap) s = .next t ∧ t.phase = .loading ∧ t.cfgsrc = strap ∧ t.slp.fromImage = strap
          ∧ t.slp.save = none ∧ t.AtStartUp ∧ t.swc.hdok = s.swc.hdok ∧ (∀ n, (t.screen n).jam = (s.screen n).jam)
          ∧ ∀ p, (t.pump p).feedback = (s.pump p).feedback ∧ (t.pump p).trip = (s.pump p).trip)
        ∧ (s.phase ≠ .resetHeld →
            ∃ t, exec .resetNAsserted s = .next t ∧ t.phase = .resetHeld ∧ t.slp.save = none ∧ t.AtStartUp
              ∧ t.OutputsAgree ∧ (∀ n, (t.screen n).drive = false) ∧ (∀ p, (t.pump p).run = false)
              ∧ t.swc.sluv = false ∧ t.swc.hprg = false)
        ∧ (s.phase = .resetHeld →
            exec .resetNAsserted s = .next s
              ∧ ∃ t, exec (.resetNReleased strap) s = .next t ∧ t.phase = .loading ∧ t.cfgsrc = strap
                  ∧ t.slp.fromImage = strap ∧ t.slp.memory = s.slp.memory ∧ t.AtStartUp)
        ∧ (s.phase ≠ .resetHeld → exec (.resetNReleased strap) s = .next s))
    ∧ (∀ (s : State) (f : Frame) (i : Instr), s.phase = .resetHeld →
      exec .frameStart s = .next s ∧ exec (.frameReceived f) s = .next s ∧ exec .framingError s = .next s
        ∧ exec .rxGapTimeout s = .next s ∧ exec .lenAbove120 s = .next s
        ∧ ((encodeRequest i).isSome = true → exec i s = .next s))

/-- LOADING ends with the defaults when CFGSRC was low or the memory does not answer: the first scan starts at once
with the counts given, the scan timer at 0 in an interval of the setting in force, no channel dealt with yet, every
pump is RECOVERING with its class's recovery time, every screen IDLE or, with its SJAM active, JAMMED; a memory that
does not answer makes the CONFIG_IMAGE_BAD notice, code 1, the first of the notice queue. An image that fails a check
is not applied in part: the settings stand at the defaults of LOADING, CONFIG_DEFAULTS is set, and the notice with the
code of the check stands first in the notice queue. The model's choices in it: notes/assumptions/10.md, 11.md, 17.md,
24.md. -/
def Obligations.LoadingEnds : Prop :=
  (∀ (s : State) (answers : Bool) (samples : Vector Nat 12), s.phase = .loading → s.AtStartUp → s.slp.tx = .free →
      s.slp.save = none → s.slp.fromImage = false ∨ answers = false →
      ∃ t, exec (.loadingEnd ⟨answers, samples⟩) s = .next t ∧ t.phase = .running
        ∧ t.lau.timer = 0 ∧ t.lau.period = 500 ∧ t.lau.interval = 500 ∧ t.lau.scan = some ⟨samples, 0, 0⟩
        ∧ t.lau.record.scan = 0
        ∧ (∀ p : PumpId, t.lau.record.margins[p] = 1400)
        ∧ (∀ c : ChannelId, t.lau.channels[c].health = .under ∧ t.lau.channels[c].awaiting = true)
        ∧ (∀ p, (t.pump p).state = .recovering ∧ (t.pump p).recovery = if p.val < 6 then 600000 else 180000)
        ∧ (∀ n, (t.screen n).state = if (s.screen n).jam then .jammed else .idle)
        ∧ t.slp.configDefaults = true ∧ t.slp.rateInForce = 1 ∧ t.slp.supervising = true ∧ t.slp.supervisionMs = 0
        ∧ t.pdc.mode = .auto ∧ t.pdc.demand = 0 ∧ t.pdc.evaluationDue = false ∧ t.OutputsAgree
        ∧ (s.slp.fromImage = true → t.slp.notices.head? = some ⟨.fault, .configImageBad, 0, 0, 1, -1, 0⟩)
        ∧ (∀ x i, t.sectionValues x i = s.sectionValues x i))
    ∧ (∀ (s : State) (answers : Bool) (samples : Vector Nat 12) (e : ImageError), s.phase = .loading → s.AtStartUp →
      s.slp.fromImage = true → s.slp.save = none → readImage s.slp.memory answers = .error e →
      ∃ t, exec (.loadingEnd ⟨answers, samples⟩) s = .next t ∧ t.phase = .running ∧ t.slp.configDefaults = true
        ∧ t.lau.timer = 0 ∧ t.lau.period = t.lau.interval ∧ t.lau.scan = some ⟨samples, 0, 0⟩
        ∧ t.slp.notices.head? = some ⟨.fault, .configImageBad, 0, 0, e.code, e.sec, 0⟩
        ∧ (∀ x i, t.sectionValues x i = s.sectionValues x i)
        ∧ (answers = false → e.code = 1 ∧ e.sec = -1)
        ∧ (answers = true → s.slp.memory.getD 0 0xFF#8 ≠ 0x01#8 → e.code = 2 ∧ e.sec = -1)
        ∧ (answers = true → s.slp.memory.getD 0 0xFF#8 = 0x01#8 →
            2048 < (s.slp.memory.getD 1 0xFF#8).toNat * 256 + (s.slp.memory.getD 2 0xFF#8).toNat → e.code = 3 ∧ e.sec = -1))

/-- A memory that holds the image a save writes gives LOADING back every setting and every pump counter of the part
that saved it, clears CONFIG_DEFAULTS, and starts the first scan, its interval that of the image. The model's choices in
it: notes/assumptions/11.md, 17.md. -/
def Obligations.SavedImageRestoresSettings : Prop :=
  ∀ (s u : State) (rest : List Byte) (samples : Vector Nat 12), u.SettingsSound → s.phase = .loading →
    s.slp.fromImage = true → s.slp.save = none → s.slp.memory = u.image ++ rest →
    ∃ t, exec (.loadingEnd ⟨true, samples⟩) s = .next t ∧ t.phase = .running ∧ t.slp.configDefaults = false
      ∧ t.lau.timer = 0 ∧ t.lau.period = u.lau.interval ∧ t.lau.scan = some ⟨samples, 0, 0⟩
      ∧ ∀ k ∈ imageKeys, t.sectionValues k.1 k.2 = u.sectionValues k.1 k.2

/-! ## Levels (Chapter 1) -/

/-- The level chain of one sample: a count below 9437 is under range and one above 55050 over range, and then F and the
clamped flag keep their values; a valid one gives h, d and L by the stated roundings, and F by the stated filter. -/
def Obligations.LevelChainOfASample : Prop :=
  ∀ (ch : Channel) (density s elapsed : Nat),
    (s < 9437 → (ch.sampled density s elapsed).health = .under)
      ∧ (55050 < s → (ch.sampled density s elapsed).health = .over)
      ∧ (s < 9437 ∨ 55050 < s →
          (ch.sampled density s elapsed).level = ch.level ∧ (ch.sampled density s elapsed).clamped = ch.clamped
            ∧ (ch.sampled density s elapsed).seeded = (ch.seeded && !(decide (ch.health = .ok) || ch.awaiting))
            ∧ (ch.sampled density s elapsed).ageMs = min (ch.ageMs + elapsed) 65535000)
      ∧ (9437 ≤ s → s ≤ 55050 → 0 < density →
          ∃ h d l : Int,
            (2 * (4096 * h - ((s : Int) - ch.zero) * ch.gain)).natAbs ≤ 4096
              ∧ ((2 * (4096 * h - ((s : Int) - ch.zero) * ch.gain)).natAbs = 4096 →
                  (((s : Int) - ch.zero) * ch.gain).natAbs < (4096 * h).natAbs)
              ∧ (2 * (density * d - 10000 * h)).natAbs ≤ density
              ∧ ((2 * (density * d - 10000 * h)).natAbs = density → (10000 * h).natAbs < (density * d).natAbs)
              ∧ l = max (-30000) (min 30000 (d + ch.elevation))
              ∧ (ch.sampled density s elapsed).clamped = decide (d + ch.elevation < -30000 ∨ 30000 < d + ch.elevation)
              ∧ (ch.sampled density s elapsed).health = .ok ∧ (ch.sampled density s elapsed).seeded = true
              ∧ (ch.sampled density s elapsed).ageMs = 0
              ∧ (ch.seeded = false ∨ ch.shift = 0 → (ch.sampled density s elapsed).level = l)
              ∧ (ch.seeded = true → 0 < ch.shift →
                  2 ^ ch.shift * ((ch.sampled density s elapsed).level - ch.level) ≤ l - ch.level + 2 ^ (ch.shift - 1)
                    ∧ l - ch.level + 2 ^ (ch.shift - 1)
                      < 2 ^ ch.shift * ((ch.sampled density s elapsed).level - ch.level + 1)))
      ∧ (ch.sampled density s elapsed).raw = s ∧ (ch.sampled density s elapsed).awaiting = false

/-- The filter: the new F lies between the old F and L, inclusive of both; the dead band leaves F unchanged; and outside
it F moves by at least 1 mm towards L. -/
def Obligations.FilterLiesBetween : Prop :=
  ∀ (seeded : Bool) (k : Nat) (f l : Int),
    min f l ≤ filterLevel seeded k f l ∧ filterLevel seeded k f l ≤ max f l
      ∧ (seeded = true → 1 ≤ k → f - 2 ^ (k - 1) ≤ l → l < f + 2 ^ (k - 1) → filterLevel seeded k f l = f)
      ∧ (seeded = true → 1 ≤ k → f + 2 ^ (k - 1) ≤ l → f + 1 ≤ filterLevel seeded k f l)
      ∧ (seeded = true → 1 ≤ k → l < f - 2 ^ (k - 1) → filterLevel seeded k f l ≤ f - 1)

/-- The sea vote: the median of three, the mean of two rounded half away from zero, the one level, or the level held; and
the sea class by the count and the spread. -/
def Obligations.SeaVoteAndClass : Prop :=
  ∀ (a b c : Int) (heldLevel : Int) (tolerance : Nat),
    (voteSea [a, b, c] heldLevel = a ∨ voteSea [a, b, c] heldLevel = b ∨ voteSea [a, b, c] heldLevel = c)
      ∧ 2 ≤ ([a, b, c].filter fun x => x ≤ voteSea [a, b, c] heldLevel).length
      ∧ 2 ≤ ([a, b, c].filter fun x => voteSea [a, b, c] heldLevel ≤ x).length
      ∧ (2 * voteSea [a, b] heldLevel - (a + b)).natAbs ≤ 1
      ∧ ((a + b) % 2 = 1 → (a + b).natAbs < (2 * voteSea [a, b] heldLevel).natAbs)
      ∧ voteSea [a] heldLevel = a ∧ voteSea [] heldLevel = heldLevel
      ∧ (classifySea [a, b, c] tolerance = .agree ↔
          (a - b).natAbs ≤ tolerance ∧ (b - c).natAbs ≤ tolerance ∧ (a - c).natAbs ≤ tolerance)
      ∧ (classifySea [a, b, c] tolerance = .diverged ↔
          2 * tolerance < (a - b).natAbs ∨ 2 * tolerance < (b - c).natAbs ∨ 2 * tolerance < (a - c).natAbs)
      ∧ (classifySea [a, b, c] tolerance = .agree ∨ classifySea [a, b, c] tolerance = .spread
          ∨ classifySea [a, b, c] tolerance = .diverged)
      ∧ classifySea [a, b] tolerance = .degraded ∧ classifySea [a] tolerance = .single
      ∧ classifySea [] tolerance = .lost

/-- The expiry of the scan timer restarts it with the interval in force and starts a scan; of its channels those
already dealt with have their samples, an enabled one by the level chain, and the others are as they were. With room
in the queue, each of them that is newly faulted queues CHANNEL_FAULT and each that recovers CHANNEL_RECOVERED, in
ascending channel number. The model's choices in it: notes/assumptions/26.md. -/
def Obligations.ScanTimerStartsAScan : Prop :=
  ∀ (s : State) (samples : Vector Nat 12) (dealt : Nat), s.phase = .running → s.lau.period ≤ s.lau.timer →
    s.lau.scan = none → dealt ≤ 12 →
    ∃ t, exec (.scanTimerExpiry samples dealt) s = .next t
      ∧ t.lau.timer = 0 ∧ t.lau.period = s.lau.interval ∧ t.lau.interval = s.lau.interval
      ∧ t.lau.scan = some ⟨samples, dealt, s.lau.timer⟩ ∧ t.lau.record = s.lau.record
      ∧ t.lau.density = s.lau.density ∧ t.lau.tolerance = s.lau.tolerance ∧ t.lau.lostLimit = s.lau.lostLimit
      ∧ t.lau.lostMs = s.lau.lostMs
      ∧ (∀ c : ChannelId, t.lau.channels[c] =
          if c.val < dealt then
            if s.lau.channels[c].enabled then s.lau.channels[c].sampled s.lau.density samples[c] s.lau.timer
            else { s.lau.channels[c] with ageMs := min (s.lau.channels[c].ageMs + s.lau.timer) 65535000 }
          else s.lau.channels[c])
      ∧ (s.slp.notices.length + dealt ≤ 32 →
          t.slp.notices = s.slp.notices
            ++ ((List.finRange 12).filter fun c => c.val < dealt ∧ s.lau.channels[c].enabled = true).flatMap fun c =>
              if t.lau.channels[c].health = .ok then
                if s.lau.channels[c].awaiting = false
                    ∧ (s.lau.channels[c].health = .under ∨ s.lau.channels[c].health = .over) then
                  [⟨.status, .channelRecovered, c.val, 0, t.lau.channels[c].level,
                    (min (min (s.lau.channels[c].ageMs + s.lau.timer) 65535000 / 1000) 32767 : Nat), s.stamp⟩]
                else []
              else if s.lau.channels[c].health = .ok ∨ s.lau.channels[c].awaiting = true then
                [⟨.fault, .channelFault, c.val, 0, t.lau.channels[c].level,
                  if samples[c] < 9437 then 1 else 2, s.stamp⟩]
              else [])
      ∧ t.phase = s.phase ∧ t.cfgsrc = s.cfgsrc ∧ t.twu = s.twu ∧ t.swc = s.swc ∧ t.pdc = s.pdc ∧ t.draws = s.draws
      ∧ s.LinkFrame t

/-- The scan event, every channel having been dealt with: the record is replaced whole by the vote, the class, the
heads, the wells and the margins of the channels as they stand, and the scan number counts on; each screen whose head
is known has its verdict; the TWU has the sea level, or none while the sea is stale or was never voted. A sea class
that differs from the record's before and is LOST or DIVERGED queues its SEA_CLASS_CHANGED notice, of FAULT class, when
there is room; at the first scan event after start-up, before which R17 gives no class, the class before is the LOST of
the start-up record (the model's choice, notes/assumptions/28.md). No setting changes. The model's other choices in it:
notes/assumptions/9.md, 26.md. -/
def Obligations.ScanEventPublishesTheRecord : Prop :=
  ∀ (s : State) (sc : Scan), s.phase = .running → s.lau.scan = some sc → sc.next = 12 →
    ∃ t r, exec .scanEvent s = .next t ∧ t.lau = { s.lau with scan := none, lostMs := t.lau.lostMs, record := r }
      ∧ r.scan = (s.lau.record.scan + 1) % 65536
      ∧ (∀ c : ChannelId, r.channels[c] =
          ⟨s.lau.channels[c].level, s.lau.channels[c].health, s.lau.channels[c].clamped⟩)
      ∧ (∃ fs, fs = (([0, 1, 2] : List ChannelId).filter fun c => s.lau.channels[c].health = .ok).map
            (fun c => s.lau.channels[c].level)
          ∧ r.sea = voteSea fs s.lau.record.sea ∧ r.cls = classifySea fs s.lau.tolerance
          ∧ r.voted = (s.lau.record.voted || decide (fs ≠ [])))
      ∧ t.lau.lostMs = (if r.cls = .lost ∧ s.lau.record.cls = .lost then s.lau.lostMs else 0)
      ∧ r.stale = (decide (r.cls = .lost) && (s.lau.record.stale || decide (s.lau.lostLimit * 1000 < t.lau.lostMs)))
      ∧ (∀ n : ScreenId, ∀ c : ChannelId, c.val = n.val + 3 →
          r.heads[n] =
            if s.lau.channels[c].health = .ok ∧ r.voted = true then ⟨max 0 (r.sea - s.lau.channels[c].level), false⟩
            else ⟨s.lau.record.heads[n].loss, true⟩)
      ∧ (∀ b : BayId, ∀ c : ChannelId, c.val = b.val + 9 →
          r.wells[b] = ⟨s.lau.channels[c].level, decide (s.lau.channels[c].health ≠ .ok)⟩)
      ∧ (∀ p : PumpId, ∀ b : BayId, b.val = p.val / 3 →
          r.margins[p] = r.wells[b].level - ((s.pump p).inlet + (s.pump p).submergence))
      ∧ (∀ n : ScreenId, (t.screen n).verdict =
          if r.heads[n].unknown then (s.screen n).verdict else decide (r.heads[n].loss < (s.screen n).blind))
      ∧ t.twu.handed.level = (if r.voted && !r.stale then some r.sea else none)
      ∧ t.twu.formedScan = r.scan ∧ t.twu.prediction = s.predicted ∧ t.twu.handed.residual = t.twu.residual
      ∧ t.twu.residual =
          (match s.predicted, t.twu.handed.level with
           | some p, some v => some (max (-30000) (min 30000 (v - p)))
           | _, _ => none)
      ∧ (s.lau.record.cls = .lost → r.cls ≠ .lost → t.twu.ring = [] ∧ t.twu.rate = none)
      ∧ (r.cls ≠ s.lau.record.cls → (r.cls = .lost ∨ r.cls = .diverged) → s.slp.notices.length < 32 →
          ⟨.fault, .seaClassChanged, r.cls.code, 0, r.sea, s.lau.record.cls.code, s.stamp⟩ ∈ t.slp.notices)
      ∧ (∀ x i, x ≠ 11 → t.sectionValues x i = s.sectionValues x i)
      ∧ s.LinkFrame t ∧ t.phase = s.phase ∧ t.twu.banks = s.twu.banks ∧ t.twu.loading = s.twu.loading

/-- SET DENSITY, SET SCAN and SET SEA: the values clamped, SET SCAN's rounded to a multiple of 100 ms first; a change
of the density clears the seeded flag of every enabled channel; the interval already running keeps its length. SET
CHANNEL: the channel is disabled or enabled at once by a change of enabled, its numbers are clamped, and a change of
Z, G or E clears its seeded flag; nothing else changes. A channel above 11, an enabled value other than yes or no, and
a request that names no setting are refused. The model's choices in it: notes/assumptions/14.md, 16.md. -/
def Obligations.LauSettingsTaken : Prop :=
  ((∀ (s : State) (v : Nat), s.Takes (.setDensity (.args v)) →
      exec (.setDensity (.args v)) s =
        .next (({ s with
          lau := if heldTo 9900 10400 v = s.lau.density then s.lau
                 else
                  { s.lau with
                    density := heldTo 9900 10400 v
                    channels := s.lau.channels.map fun ch => if ch.enabled then { ch with seeded := false } else ch } } : State).reply
          (if heldTo 9900 10400 v = v then .ok else .okAdjusted)
          (if heldTo 9900 10400 v = v then [] else encodeField .u16 (heldTo 9900 10400 v))))
      ∧ (∀ (s : State) (v : Nat), s.Takes (.setScan (.args v)) →
          exec (.setScan (.args v)) s =
            .next (({ s with lau := { s.lau with interval := heldTo 100 2000 ((v + 50) / 100 * 100) } } : State).reply
              (if heldTo 100 2000 ((v + 50) / 100 * 100) = v then .ok else .okAdjusted)
              (if heldTo 100 2000 ((v + 50) / 100 * 100) = v then []
               else encodeField .u16 (heldTo 100 2000 ((v + 50) / 100 * 100)))))
      ∧ ∀ (s : State) (c : SeaArgs), s.Takes (.setSea (.args c)) → c.tolerance ≠ none ∨ c.lostLimit ≠ none →
          ∃ t : State, exec (.setSea (.args c)) s =
            .next (t.reply (if strays 10 500 c.tolerance || strays 10 300 c.lostLimit then .okAdjusted else .ok)
              (if strays 10 500 c.tolerance || strays 10 300 c.lostLimit then
                carried [(c.tolerance.isSome, .u16, t.lau.tolerance), (c.lostLimit.isSome, .u16, t.lau.lostLimit)] else []))
            ∧ t = { s with lau := { s.lau with
                      tolerance := setTo 10 500 s.lau.tolerance c.tolerance
                      lostLimit := setTo 10 300 s.lau.lostLimit c.lostLimit } })
    ∧ (∀ (s : State) (c : ChannelArgs), s.Takes (.setChannel (.args c)) →
      (11 < c.channel ∨ (∃ v, c.enabled = some v ∧ 1 < v) ∨ c = { channel := c.channel } →
          exec (.setChannel (.args c)) s = .next (s.reply .badArgument []))
        ∧ ∀ n : ChannelId, c.channel = n.val → (∀ v, c.enabled = some v → v ≤ 1) → c ≠ { channel := c.channel } →
            ∃ t : State, exec (.setChannel (.args c)) s =
                .next (t.reply (if strays 0 65535 c.zero || strays 0 65535 c.gain || straysInt (-20000) 20000 c.elevation
                    || strays 0 6 c.shift then .okAdjusted else .ok)
                  (if strays 0 65535 c.zero || strays 0 65535 c.gain || straysInt (-20000) 20000 c.elevation
                    || strays 0 6 c.shift then
                    carried [(c.enabled.isSome, .u8, flag t.lau.channels[n].enabled),
                      (c.zero.isSome, .u16, t.lau.channels[n].zero), (c.gain.isSome, .u16, t.lau.channels[n].gain),
                      (c.elevation.isSome, .s16, t.lau.channels[n].elevation),
                      (c.shift.isSome, .u16, t.lau.channels[n].shift)]
                   else []))
              ∧ t = { s with lau := { s.lau with channels := s.lau.channels.set n t.lau.channels[n] } }
              ∧ t.lau.channels[n].enabled = (match c.enabled with | some v => v == 1 | none => s.lau.channels[n].enabled)
              ∧ t.lau.channels[n].zero = setTo 0 65535 s.lau.channels[n].zero c.zero
              ∧ t.lau.channels[n].gain = setTo 0 65535 s.lau.channels[n].gain c.gain
              ∧ t.lau.channels[n].elevation = setToInt (-20000) 20000 s.lau.channels[n].elevation c.elevation
              ∧ t.lau.channels[n].shift = setTo 0 6 s.lau.channels[n].shift c.shift
              ∧ t.lau.channels[n].raw = s.lau.channels[n].raw ∧ t.lau.channels[n].level = s.lau.channels[n].level
              ∧ t.lau.channels[n].ageMs = s.lau.channels[n].ageMs
              ∧ (t.lau.channels[n].enabled = s.lau.channels[n].enabled →
                  t.lau.channels[n].health = s.lau.channels[n].health
                    ∧ t.lau.channels[n].awaiting = s.lau.channels[n].awaiting
                    ∧ t.lau.channels[n].clamped = s.lau.channels[n].clamped
                    ∧ t.lau.channels[n].seeded =
                        (s.lau.channels[n].seeded && decide (t.lau.channels[n].zero = s.lau.channels[n].zero
                          ∧ t.lau.channels[n].gain = s.lau.channels[n].gain
                          ∧ t.lau.channels[n].elevation = s.lau.channels[n].elevation)))
              ∧ (s.lau.channels[n].enabled = true → t.lau.channels[n].enabled = false →
                  t.lau.channels[n].health = .disabled ∧ t.lau.channels[n].awaiting = false
                    ∧ t.lau.channels[n].clamped = false ∧ t.lau.channels[n].seeded = false)
              ∧ (s.lau.channels[n].enabled = false → t.lau.channels[n].enabled = true →
                  t.lau.channels[n].health = .under ∧ t.lau.channels[n].awaiting = true
                    ∧ t.lau.channels[n].clamped = s.lau.channels[n].clamped ∧ t.lau.channels[n].seeded = false))

/-! ## Trend, prediction and bands (Chapters 2 and 3) -/

/-- The expiry of the trend timer: while the sea class is LOST the timer runs on alone; otherwise one entry of the
intake time and the sea level joins the ring, the oldest leaving a full one, and the rate of the ring is formed and
handed. The rate of a ring: unavailable with fewer than two entries; else the newest level less the oldest, times
3600, over the interval and the steps between them, rounded half away from zero and limited to 9999. SET TREND: a new
interval empties the ring, makes the rate unavailable and restarts the timer; the interval already in force changes
nothing. The model's choices in it: notes/assumptions/14.md, 16.md. -/
def Obligations.TrendRingAndRate : Prop :=
  (∀ s : State, s.phase = .running → s.twu.trendInterval * 1000 ≤ s.twu.trendTimer →
      (s.lau.record.cls = .lost →
          exec .trendTimerExpiry s = .next { s with twu := { s.twu with trendTimer := 0 } })
        ∧ (s.lau.record.cls ≠ .lost → s.RingBounded →
            ∃ t, exec .trendTimerExpiry s = .next t
              ∧ t.twu.trendTimer = 0 ∧ t.twu.trendInterval = s.twu.trendInterval
              ∧ t.twu.ring = s.twu.ring.drop (s.twu.ring.length - 15) ++ [⟨s.stamp, s.lau.record.sea⟩]
              ∧ t.twu.rate = rateOf t.twu.ring s.twu.trendInterval ∧ t.twu.handed = { s.twu.handed with rate := t.twu.rate }
              ∧ t.twu.claims.level = s.twu.claims.level ∧ t.twu.claims.residual = s.twu.claims.residual
              ∧ t.twu.banks = s.twu.banks ∧ t.twu.loading = s.twu.loading ∧ t.twu.prediction = s.twu.prediction
              ∧ t.lau = s.lau ∧ t.phase = s.phase ∧ (∀ x i, x ≠ 11 → t.sectionValues x i = s.sectionValues x i)
              ∧ s.LinkFrame t))
    ∧ (∀ (interval : Nat) (p : TidePoint),
      rateOf [] interval = none ∧ rateOf [p] interval = none
        ∧ ∀ (oldest newest : TidePoint) (between : List TidePoint), 0 < interval →
            ∃ q : Int, rateOf (oldest :: between ++ [newest]) interval = some (max (-9999) (min 9999 q))
              ∧ (2 * ((interval * (between.length + 1) : Nat) * q - (newest.level - oldest.level) * 3600)).natAbs
                  ≤ interval * (between.length + 1)
              ∧ ((2 * ((interval * (between.length + 1) : Nat) * q - (newest.level - oldest.level) * 3600)).natAbs
                    = interval * (between.length + 1) →
                  ((newest.level - oldest.level) * 3600).natAbs < ((interval * (between.length + 1) : Nat) * q).natAbs))
    ∧ (∀ (s : State) (v w : Nat), s.Takes (.setTrend (.args v)) → w = heldTo 5 60 v →
      ∃ t, exec (.setTrend (.args v)) s =
          .next (State.reply t (if w = v then .ok else .okAdjusted) (if w = v then [] else encodeField .u16 w))
        ∧ (w = s.twu.trendInterval → t = s)
        ∧ (w ≠ s.twu.trendInterval →
            t.twu.trendInterval = w ∧ t.twu.trendTimer = 0 ∧ t.twu.ring = [] ∧ t.twu.rate = none
              ∧ t.twu.handed = { s.twu.handed with rate := none } ∧ t.twu.claims.rate = none
              ∧ t.twu.claims.level = s.twu.claims.level ∧ t.twu.claims.residual = s.twu.claims.residual
              ∧ t.twu.banks = s.twu.banks ∧ t.twu.bands = s.twu.bands ∧ t.lau = s.lau ∧ t.phase = s.phase
              ∧ (∀ x i, x ≠ 2 → x ≠ 11 → t.sectionValues x i = s.sectionValues x i) ∧ s.LinkFrame t))

/-- The prediction: between two neighbouring points of the ACTIVE bank it is interpolated, rounded half away from zero,
and lies between their levels; at a point's time it is that point's level; and in every other case it is unavailable. -/
def Obligations.PredictionInterpolates : Prop :=
  ∀ (s : State) (ps : List TidePoint) (time : Nat), s.twu.banks[s.twu.standing].points = ps → s.slp.time = time →
    (s.slp.timeSet = false ∨ s.twu.banks[s.twu.standing].state ≠ .active → s.predicted = none)
      ∧ (s.slp.timeSet = true → s.twu.banks[s.twu.standing].state = .active → gapsHold ps → 2 ≤ ps.length →
          (∀ (before after : List TidePoint) (a b : TidePoint) (n d : Int), ps = before ++ a :: b :: after →
              a.time ≤ time → time ≤ b.time →
              n = (b.level - a.level) * (Int.ofNat time - Int.ofNat a.time) → d = Int.ofNat b.time - Int.ofNat a.time →
              ∃ q : Int, s.predicted = some (a.level + q)
                ∧ min a.level b.level ≤ a.level + q ∧ a.level + q ≤ max a.level b.level
                ∧ (2 * (d * q - n)).natAbs ≤ d.natAbs
                ∧ ((2 * (d * q - n)).natAbs = d.natAbs → n.natAbs < (d * q).natAbs))
            ∧ (∀ p ∈ ps, p.time = time → s.predicted = some p.level)
            ∧ ((∀ p ∈ ps, time < p.time) ∨ (∀ p ∈ ps, p.time < time) → s.predicted = none))

/-- The bank check: nothing while the time is not set; an ACTIVE bank that is passed, or an EMPTY standing bank whose
SEALED partner's first point is reached, is replaced by the SEALED bank, with TIDE_BANK_SWAPPED, cause 0 or 1, and
that bank expires at once when it too is passed, with PREDICTION_ENDED;
an ACTIVE bank that is passed with no SEALED bank expires; and in every other case nothing changes. The intake time: a
second of the count, SET CLOCK absolute and SET CLOCK step each set it and run the bank check; the step is clamped to
an hour and the sum into the clock's range, and is refused while the time is not set. The model's choices in it:
notes/assumptions/14.md. -/
def Obligations.BankCheckFollowsTime : Prop :=
  (∀ (s : State) (ld st : Bank) (pastActive pastSealed reachedFirst : Prop), s.BanksSound →
      ld = s.twu.banks[s.twu.loading] → st = s.twu.banks[s.twu.standing] →
      (pastActive ↔ st.state = .active ∧ ∃ p, st.points.getLast? = some p ∧ p.time < s.slp.time) →
      (pastSealed ↔ ∃ p, ld.points.getLast? = some p ∧ p.time < s.slp.time) →
      (reachedFirst ↔ st.state = .empty ∧ ∃ p, ld.points.head? = some p ∧ p.time ≤ s.slp.time) →
      (s.slp.timeSet = false → s.checkBanks = s)
        ∧ (s.slp.timeSet = true → ld.state = .sealed → pastActive ∨ reachedFirst →
            s.checkBanks.twu.loading = s.twu.standing ∧ s.checkBanks.twu.banks[s.twu.standing] = {}
              ∧ (pastSealed → s.checkBanks.twu.banks[s.twu.loading] = {})
              ∧ (¬ pastSealed → s.checkBanks.twu.banks[s.twu.loading] = { ld with state := .active })
              ∧ (s.slp.notices.length ≤ 30 → ∃ ended : List Notice,
                  s.checkBanks.slp.notices = s.slp.notices
                    ++ ⟨.status, .tideBankSwapped, s.twu.loading.val + 1, 0, if st.state = .active then 0 else 1,
                        ld.points.length, s.slp.time⟩ :: ended
                  ∧ (¬ pastSealed → ended = [])
                  ∧ (pastSealed → ∃ p, ld.points.getLast? = some p ∧
                      ended = [⟨.status, .predictionEnded, s.twu.loading.val + 1, 0, p.level, ld.points.length,
                        s.slp.time⟩])))
        ∧ (s.slp.timeSet = true → ld.state ≠ .sealed → pastActive →
            s.checkBanks.twu.loading = s.twu.loading ∧ s.checkBanks.twu.banks[s.twu.standing] = {}
              ∧ s.checkBanks.twu.banks[s.twu.loading] = ld
              ∧ (s.slp.notices.length < 32 → ∃ p, st.points.getLast? = some p ∧
                  s.checkBanks.slp.notices = s.slp.notices
                    ++ [⟨.status, .predictionEnded, s.twu.standing.val + 1, 0, p.level, st.points.length, s.slp.time⟩]))
        ∧ (¬ pastActive → ¬ (ld.state = .sealed ∧ reachedFirst) → s.checkBanks = s)
        ∧ s.checkBanks.twu = { s.twu with banks := s.checkBanks.twu.banks, loading := s.checkBanks.twu.loading }
        ∧ s.checkBanks.lau = s.lau ∧ s.checkBanks.swc = s.swc ∧ s.checkBanks.pdc = s.pdc ∧ s.checkBanks.phase = s.phase
        ∧ s.checkBanks.slp.time = s.slp.time ∧ s.LinkFrame s.checkBanks)
    ∧ ((∀ s : State, s.slp.timeSet = true → 1000 ≤ s.slp.phaseMs →
        exec .intakeTimeCount s =
          .next ({ s with slp := { s.slp with
            time := (s.slp.time + 1) % 4294967296, phaseMs := s.slp.phaseMs - 1000 } } : State).checkBanks)
      ∧ (∀ (s : State) (v : Nat), s.Takes (.setClockAbsolute (.args v)) → v < 4294967296 →
          ∃ t : State, exec (.setClockAbsolute (.args v)) s = .next (t.checkBanks.reply .ok (encodeField .u32 v))
            ∧ t = { s with slp := { s.slp with time := v, timeSet := true, phaseMs := 0 } })
      ∧ ∀ (s : State) (v sum : Int), s.Takes (.setClockStep (.args v)) →
          (s.slp.timeSet = false → exec (.setClockStep (.args v)) s = .next (s.reply .timeNotSet []))
            ∧ (s.slp.timeSet = true → sum = s.slp.time + max (-3600) (min 3600 v) →
                ∃ t : State, exec (.setClockStep (.args v)) s =
                  .next (t.checkBanks.reply
                    (if -3600 ≤ v ∧ v ≤ 3600 ∧ 0 ≤ sum ∧ sum ≤ 4294967295 then .ok else .okAdjusted)
                    (encodeField .u32 t.slp.time))
                  ∧ t = { s with slp := { s.slp with time := (max 0 (min 4294967295 sum)).toNat } }))

/-- TIDE POINTS: refused whole with no point or more than eight, and with a SEALED loading bank; else its points are
appended in order with their levels clamped, until one finds the bank full (FULL) or its time not 60 s to 3600 s after
the bank's last (ORDER); the bank is then FILLING, and no other state changes. TIDE SEAL, TIDE COMMIT NOW and TIDE
CLEAR on the loading bank: SEALED or ACTIVE with two points or more, and the bank check then runs; refused with STATE
otherwise; a clear empties the loading bank from any state. The model's choices in it: notes/assumptions/14.md. -/
def Obligations.TideRequestsTaken : Prop :=
  (∀ (s : State) (ps : List TidePoint) (n : BankId) (old : List TidePoint), s.Takes (.tidePoints (.args ps)) →
      s.twu.loading = n → s.twu.banks[n].points = old →
      (ps = [] ∨ 8 < ps.length → exec (.tidePoints (.args ps)) s = .next (s.reply .badArgument []))
        ∧ (ps ≠ [] → ps.length ≤ 8 → s.twu.banks[n].state = .sealed →
            exec (.tidePoints (.args ps)) s = .next (s.reply .state []))
        ∧ (ps ≠ [] → ps.length ≤ 8 → s.twu.banks[n].state = .empty ∨ s.twu.banks[n].state = .filling →
            s.twu.banks[n].CountFits →
            ∃ (k : Nat) (taken : List TidePoint) (t : State) (code : Code),
              k ≤ ps.length ∧ taken = (ps.take k).map (fun p => ⟨p.time, max (-30000) (min 30000 p.level)⟩)
                ∧ exec (.tidePoints (.args ps)) s =
                    .next (t.reply code (encodeFields [(.u8, n.val + 1), (.u16, k), (.u16, old.length + k), (.u8, k)]
                      ++ taken.flatMap fun p => encodeField .s16 p.level))
                ∧ t = { s with twu := { s.twu with banks := s.twu.banks.set n ⟨.filling, old ++ taken⟩ } }
                ∧ (∀ j p, j < k → ps[j]? = some p →
                    old.length + j < 128
                      ∧ ∀ l, (old ++ taken.take j).getLast? = some l → l.time + 60 ≤ p.time ∧ p.time ≤ l.time + 3600)
                ∧ (k = ps.length →
                    code = if ∃ p ∈ ps, p.level < -30000 ∨ 30000 < p.level then .okAdjusted else .ok)
                ∧ (∀ p, ps[k]? = some p →
                    (128 ≤ old.length + k ∧ code = .full)
                      ∨ (old.length + k < 128 ∧ code = .order
                          ∧ ∃ l, (old ++ taken).getLast? = some l ∧ ¬ (l.time + 60 ≤ p.time ∧ p.time ≤ l.time + 3600)))))
    ∧ ((∀ (s : State) (n : BankId), s.Takes (.tideSeal (.args ())) → s.twu.loading = n →
        (s.twu.banks[n].state = .filling ∧ 2 ≤ s.twu.banks[n].points.length →
            exec (.tideSeal (.args ())) s =
              .next (({ s with twu := { s.twu with
                banks := s.twu.banks.set n { s.twu.banks[n] with state := .sealed } } } : State).checkBanks.reply .ok
                (encodeField .u8 (n.val + 1 : Nat))))
          ∧ (¬ (s.twu.banks[n].state = .filling ∧ 2 ≤ s.twu.banks[n].points.length) →
              exec (.tideSeal (.args ())) s = .next (s.reply .state [])))
      ∧ (∀ (s : State) (n m : BankId), s.Takes (.tideCommitNow (.args ())) → s.twu.loading = n → m ≠ n →
          ((s.twu.banks[n].state = .filling ∨ s.twu.banks[n].state = .sealed) ∧ 2 ≤ s.twu.banks[n].points.length →
              ∃ t : State, exec (.tideCommitNow (.args ())) s =
                  .next (t.checkBanks.reply .ok (encodeField .u8 (n.val + 1 : Nat)))
                ∧ t.twu = { s.twu with
                    banks := (s.twu.banks.set n { s.twu.banks[n] with state := .active }).set m {}, loading := m }
                ∧ t.lau = s.lau ∧ t.swc = s.swc ∧ t.pdc = s.pdc ∧ t.phase = s.phase ∧ s.LinkFrame t
                ∧ (s.slp.notices.length < 32 →
                    t.slp.notices = s.slp.notices
                      ++ [⟨.status, .tideBankSwapped, n.val + 1, 0, 2, s.twu.banks[n].points.length, s.stamp⟩]))
            ∧ (¬ ((s.twu.banks[n].state = .filling ∨ s.twu.banks[n].state = .sealed)
                  ∧ 2 ≤ s.twu.banks[n].points.length) →
                exec (.tideCommitNow (.args ())) s = .next (s.reply .state [])))
      ∧ ∀ (s : State) (n : BankId), s.Takes (.tideClear (.args ())) → s.twu.loading = n →
          exec (.tideClear (.args ())) s =
            .next (({ s with twu := { s.twu with banks := s.twu.banks.set n {} } } : State).reply .ok
              (encodeField .u8 (n.val + 1 : Nat))))

/-- The claim of a quantity: a ranked current band is kept in its widened range; else the highest rank, and of equal rank
the lowest number, of the bands whose range contains the value; else a subtractive current band is kept in its widened
range; else the lowest-numbered subtractive band in range; else UNCLAIMED, as also for an unavailable value. -/
def Obligations.ClaimIsDecided : Prop :=
  ∀ (t : Twu) (q : Quantity) (v : Int) (cur : Option BandId) (watch inRange inWide ranked : BandId → Prop),
    (∀ b, watch b ↔ t.bands[b].enabled = true ∧ t.bands[b].quantity = q) →
    (∀ b, inRange b ↔ t.bands[b].low ≤ v ∧ v < t.bands[b].high) →
    (∀ b, inWide b ↔ t.bands[b].low - t.bands[b].hysteresis ≤ v ∧ v < t.bands[b].high + t.bands[b].hysteresis) →
    (∀ b, ranked b ↔ t.bands[b].rank ≠ .subtractive) →
    t.claimFor q cur none = none
      ∧ (∀ b, cur = some b → watch b → ranked b → inWide b → t.claimFor q cur (some v) = some b)
      ∧ ((∀ b, cur = some b → ¬ (watch b ∧ ranked b ∧ inWide b)) →
          (∀ b, watch b → ranked b → inRange b →
              (∀ b', watch b' → ranked b' → inRange b' →
                t.bands[b].rank.code < t.bands[b'].rank.code
                  ∨ (t.bands[b].rank = t.bands[b'].rank ∧ b ≤ b')) →
              t.claimFor q cur (some v) = some b)
            ∧ ((∀ b, ¬ (watch b ∧ ranked b ∧ inRange b)) →
                (∀ b, cur = some b → watch b → inWide b → t.claimFor q cur (some v) = some b)
                  ∧ ((∀ b, cur = some b → ¬ (watch b ∧ inWide b)) →
                      (∀ b, watch b → inRange b → (∀ b', watch b' → inRange b' → b ≤ b') →
                          t.claimFor q cur (some v) = some b)
                        ∧ ((∀ b, ¬ (watch b ∧ inRange b)) → t.claimFor q cur (some v) = none))))

/-- A change of claim replaces the claim, queues one BAND_ENTERED notice of the new band's class with the value
evaluated and the band before, and latches a band of class ALARM with its reminder count at 0; a claim that does not
change changes nothing. The device pump cap is the least of the caps that are numbers, NONE when there is none; the
effective wash mode is HOLD if any claiming band's action is HOLD, failing that STORM if any is STORM, failing that
NORMAL. The recompute: a record equal to the published one is not published; any other is published whole with its
number increased by one, wrapping at 65536, and the TWU changes in nothing else. -/
def Obligations.ClaimsReportedAndPublished : Prop :=
  (∀ (s : State) (q : Quantity) (new : Option BandId),
      new = s.twu.claimFor q (s.twu.claims.of q) (s.twu.handed.of q) →
      (new = s.twu.claims.of q → s.evaluateClaim q = s)
        ∧ (new ≠ s.twu.claims.of q →
            (∀ q', (s.evaluateClaim q).twu.claims.of q' = if q' = q then new else s.twu.claims.of q')
              ∧ (∀ b : BandId, (s.evaluateClaim q).twu.bands[b] =
                  if new = some b ∧ s.twu.bands[b].noticeClass = .alarm then
                    { s.twu.bands[b] with latched := true, reminders := 0 }
                  else s.twu.bands[b])
              ∧ (s.slp.notices.length < 32 → ∃ m : Notice,
                  (s.evaluateClaim q).slp.notices = s.slp.notices ++ [m]
                    ∧ m.kind = .bandEntered ∧ m.time = s.stamp ∧ m.value1 = (s.twu.handed.of q).getD (-32768)
                    ∧ m.flags = (match q with | .level => 0 | .residual => 1 | .rate => 2)
                    ∧ m.subject = (match new with | some b => b.val + 1 | none => 0)
                    ∧ m.value2 = (match s.twu.claims.of q with | some b => (b.val : Int) + 1 | none => 0)
                    ∧ m.cls = (match new with
                        | some b => if s.twu.bands[b].noticeClass = .alarm then .alarm else .status
                        | none => .status))
              ∧ (s.evaluateClaim q).twu.condition = s.twu.condition ∧ s.LinkFrame (s.evaluateClaim q)
              ∧ (s.evaluateClaim q).lau = s.lau ∧ (s.evaluateClaim q).swc = s.swc ∧ (s.evaluateClaim q).pdc = s.pdc))
    ∧ (∀ bs : List Band,
      (capOf bs = none ↔ ∀ b ∈ bs, b.cap = none)
        ∧ (∀ c, capOf bs = some c → (∃ b ∈ bs, b.cap = some c) ∧ ∀ b ∈ bs, ∀ c', b.cap = some c' → c ≤ c')
        ∧ (modeOf bs = .hold ↔ ∃ b ∈ bs, b.mode = .hold)
        ∧ (modeOf bs = .storm ↔ (∀ b ∈ bs, b.mode ≠ .hold) ∧ ∃ b ∈ bs, b.mode = .storm)
        ∧ (modeOf bs = .normal ↔ ∀ b ∈ bs, b.mode = .normal))
    ∧ (∀ s : State,
      (s.twu.condition = s.twu.recomputed → s.recompute = s)
        ∧ (s.twu.condition ≠ s.twu.recomputed →
            s.recompute.twu = { s.twu with condition :=
              ⟨s.twu.claims, capOf s.twu.claiming, modeOf s.twu.claiming, (s.twu.condition.number + 1) % 65536⟩ })
        ∧ s.recompute.lau = s.lau ∧ s.recompute.phase = s.phase ∧ s.LinkFrame s.recompute)

/-- The expiry of the reminder timer: each latched band's count goes up by one, to 32767 at most, and queues one
BAND_REMINDER notice of ALARM class, in ascending band number; no other band and no other block changes. SET BAND in
its reminder form and ACK BAND: the interval clamped, with 0 for off, a new one restarting the timer; the bands named
unlatched with their counts at 0, the reply listing the bands latched after it; nothing else changes. The model's
choices in it: notes/assumptions/14.md, 16.md. -/
def Obligations.RemindersAndAcknowledgements : Prop :=
  (∀ s : State, s.phase = .running → s.twu.reminderInterval ≠ 0 →
      s.twu.reminderInterval * 1000 ≤ s.twu.reminderTimer →
      ∃ t, exec .reminderTimerExpiry s = .next t
        ∧ t.twu = { s.twu with reminderTimer := 0, bands := t.twu.bands }
        ∧ (∀ b : BandId, t.twu.bands[b] =
            if s.twu.bands[b].latched then
              { s.twu.bands[b] with reminders := min (s.twu.bands[b].reminders + 1) 32767 }
            else s.twu.bands[b])
        ∧ (s.slp.notices.length ≤ 24 →
            t.slp.notices = s.slp.notices ++ (allBands.filter fun b => s.twu.bands[b].latched).map fun b =>
              ⟨.alarm, .bandReminder, b.val + 1, s.twu.bands[b].quantity.code,
                if s.twu.claims.of s.twu.bands[b].quantity = some b then 1 else 0,
                (min (s.twu.bands[b].reminders + 1) 32767 : Nat), s.stamp⟩)
        ∧ t.phase = s.phase ∧ t.lau = s.lau ∧ t.swc = s.swc ∧ t.pdc = s.pdc ∧ t.draws = s.draws ∧ s.LinkFrame t)
    ∧ ((∀ (s : State) (v w : Nat), s.Takes (.setBandReminder (.args v)) → w = heldToOrOff 60 3600 v →
        exec (.setBandReminder (.args v)) s =
          .next ((if w = s.twu.reminderInterval then s
              else ({ s with twu := { s.twu with reminderInterval := w, reminderTimer := 0 } } : State)).reply
            (if w = v then .ok else .okAdjusted) (if w = v then [] else encodeField .u16 w)))
      ∧ ∀ (s : State) (v : Nat), s.Takes (.ackBand (.args v)) →
          (8 < v → exec (.ackBand (.args v)) s = .next (s.reply .badArgument []))
            ∧ (v ≤ 8 → ∃ (t : State) (left : List BandId),
                exec (.ackBand (.args v)) s =
                    .next (t.reply .ok (encodeField .u8 left.length ++ left.flatMap fun b => encodeField .u8 (b.val + 1 : Nat)))
                  ∧ left = allBands.filter (fun b => s.twu.bands[b].latched && decide (v ≠ 0 ∧ v ≠ b.val + 1))
                  ∧ t = { s with twu := { s.twu with bands := t.twu.bands } }
                  ∧ ∀ b : BandId, t.twu.bands[b] =
                      if v = 0 ∨ v = b.val + 1 then { s.twu.bands[b] with latched := false, reminders := 0 }
                      else s.twu.bands[b]))

/-- SET BAND in its entry form: refused with a band above 8, an enumeration outside its list or bounds out of order
after clamping; else the entry takes the values, the other entries' settings stay, the quantities the band watched or
watches are claimed anew from the values last handed, the others keep their claims, and the Intake Condition is the one
those claims give. A band that newly takes a claim with the notice class ALARM is latched, its reminder count 0; every
other band keeps its latch and its count. The model's choices in it: notes/assumptions/13.md, 14.md. -/
def Obligations.BandEntryTaken : Prop :=
  ∀ (s : State) (b : BandArgs) (lo hi : Int), s.Takes (.setBandEntry (.args b)) → 1 ≤ b.band →
    lo = max (-30000) (min 30000 b.low) → hi = max (-30000) (min 30000 b.high) →
    (8 < b.band ∨ 1 < b.enabled ∨ 2 < b.quantity ∨ 3 < b.rank ∨ 2 < b.mode ∨ 1 < b.noticeClass ∨ hi ≤ lo →
        exec (.setBandEntry (.args b)) s = .next (s.reply .badArgument []))
      ∧ ∀ n : BandId, b.band = n.val + 1 → b.enabled ≤ 1 → b.quantity ≤ 2 → b.rank ≤ 3 → b.mode ≤ 2 →
          b.noticeClass ≤ 1 → lo < hi →
          ∃ (t : State) (code : Code) (data : List Byte), exec (.setBandEntry (.args b)) s = .next (t.reply code data)
            ∧ code = (if lo = b.low ∧ hi = b.high ∧ b.hysteresis ≤ 500 ∧ (b.cap ≤ 8 ∨ b.cap = 255) then .ok
                else .okAdjusted)
            ∧ t.sectionValues 3 (n.val + 1) =
                ([(b.enabled : Int), b.quantity, lo, hi, b.rank, (min b.hysteresis 500 : Nat),
                  (if b.cap = 255 then 255 else min b.cap 8 : Nat), b.mode, b.noticeClass] : List Int)
            ∧ (∀ x i, x ≠ 11 → (x, i) ≠ (3, n.val + 1) → t.sectionValues x i = s.sectionValues x i)
            ∧ (∀ q : Quantity, t.twu.claims.of q =
                if q = s.twu.bands[n].quantity ∨ q.code = b.quantity then
                  t.twu.claimFor q (s.twu.claims.of q) (s.twu.handed.of q)
                else s.twu.claims.of q)
            ∧ (∀ m : BandId,
                ((∃ q : Quantity, t.twu.claims.of q = some m ∧ s.twu.claims.of q ≠ some m) →
                    t.twu.bands[m].noticeClass = .alarm →
                    t.twu.bands[m].latched = true ∧ t.twu.bands[m].reminders = 0)
                  ∧ ((∀ q : Quantity, t.twu.claims.of q = some m → s.twu.claims.of q = some m)
                        ∨ t.twu.bands[m].noticeClass = .status →
                      t.twu.bands[m].latched = s.twu.bands[m].latched
                        ∧ t.twu.bands[m].reminders = s.twu.bands[m].reminders))
            ∧ t.twu.condition = t.twu.recomputed ∧ t.twu.handed = s.twu.handed ∧ t.twu.ring = s.twu.ring
            ∧ t.twu.banks = s.twu.banks ∧ t.lau = s.lau ∧ t.phase = s.phase ∧ s.LinkFrame t
            ∧ ∃ claimed : Nat, data =
                  (if code = .okAdjusted then
                    encodeFields [(.u8, b.enabled), (.u8, b.quantity), (.s16, lo), (.s16, hi), (.u8, b.rank),
                      (.u16, (min b.hysteresis 500 : Nat)), (.u8, if b.cap = 255 then 255 else (min b.cap 8 : Nat)),
                      (.u8, b.mode), (.u8, b.noticeClass)]
                   else [])
                  ++ encodeFields [(.u8, claimed), (.u8, flag t.twu.bands[n].latched), (.u16, t.twu.condition.number)]
                ∧ (claimed = 255 → ∀ q : Quantity, t.twu.claims.of q ≠ some n)
                ∧ (claimed ≠ 255 → ∃ q : Quantity, q.code = claimed ∧ t.twu.claims.of q = some n)

/-! ## Screens, the spray header and the sluice (Chapters 4 and 5) -/

/-- An index pulse: passed over with no wash; refused by the guard, when it sets DOUBLE_INDEX alone; else accepted: a
continuous wash counts it, a counted wash counts its counter down or at 0 moves to FINISHING, and a wash in FINISHING
ends COMPLETE, its screen IDLE or, by succession, WASHING the staged wash. With succession barred, by HOLD or by an
overdue header purge, the staged wash joins the wash queue as its newest entry, and the screen is QUEUED or, when the
arbiter grants that entry at once, WASHING it; under HOLD it is QUEUED. The model's choices in it:
notes/assumptions/7.md, 8.md. -/
def Obligations.IndexPulseActs : Prop :=
  ∀ (s : State) (n : ScreenId), s.phase = .running →
    ((s.screen n).state.isWashing = false → exec (.indexPulse n) s = .next s)
      ∧ ∀ (w a : WashRecord), (s.screen n).state.isWashing = true → (s.screen n).wash = some w →
          a = { w with accepted := min (w.accepted + 1) 65535, passTimer := 0, guard := some 0 } →
          ((∃ g, w.guard = some g ∧ g < s.swc.indexGuard * 1000) →
              exec (.indexPulse n) s =
                .next (s.onScreen n fun sc => { sc with wash := some { w with doubleIndex := true } }))
            ∧ ((∀ g, w.guard = some g → s.swc.indexGuard * 1000 ≤ g) →
                ((s.screen n).state = .washing → w.passes = 0 →
                    exec (.indexPulse n) s = .next (s.onScreen n fun sc => { sc with wash := some a }))
                  ∧ ((s.screen n).state = .washing → w.passes ≠ 0 → w.counter ≠ 0 →
                      exec (.indexPulse n) s =
                        .next (s.onScreen n fun sc => { sc with wash := some { a with counter := w.counter - 1 } }))
                  ∧ ((s.screen n).state = .washing → w.passes ≠ 0 → w.counter = 0 →
                      exec (.indexPulse n) s =
                        .next (s.onScreen n fun sc =>
                          { sc with wash := some a, state := .finishing, drive := true, spray := true }))
                  ∧ ((s.screen n).state = .finishing → s.SwcSound →
                      ∃ t, exec (.indexPulse n) s = .next t ∧ t.SluiceRestarted
                        ∧ s.WorkFrame (fun m => m = n) (fun _ => False) t
                        ∧ ((s.screen n).staged = none → t.screen n = (s.screen n).ended a .complete s.stamp .idle)
                        ∧ (∀ g, (s.screen n).staged = some g → s.twu.condition.mode ≠ .hold → s.swc.overdue = false →
                            t.screen n = { (s.screen n).ended a .complete s.stamp .washing with
                              drive := true, spray := true
                              wash := some { passes := g.passes, cls := g.cls, mark := g.mark
                                             counter := g.passes - 1, guard := some 0 } })
                        ∧ (∀ (g : Staged) (u : Screen) (e : QueueEntry), (s.screen n).staged = some g →
                            s.twu.condition.mode = .hold ∨ s.swc.overdue = true →
                            u = (s.screen n).ended a .complete s.stamp .queued → e = ⟨n, g.cls, g.passes, g.mark, 0⟩ →
                            ((t.screen n = u ∧ t.swc.queue.getLast? = some e) ∨ t.screen n = u.granted e)
                              ∧ (s.twu.condition.mode = .hold →
                                  t.screen n = u ∧ t.swc.queue = s.swc.queue ++ [e]))))

/-- A pass timer that has reached the pass timeout ends the wash STALLED, and the staged wash with it; the other
screens, the settings and the pumps are as the work that follows leaves them. HDOK: read at every change; once LOADING
has ended a change from true begins a false period, a change to true ends it, and the arbiter re-evaluates. A false
period that reaches the header loss delay ends every wash NO_WATER. The model's choices in it: notes/assumptions/6.md,
8.md. -/
def Obligations.StallsAndHeaderLoss : Prop :=
  (∀ (s : State) (n : ScreenId) (w : WashRecord), s.phase = .running → s.SwcSound →
      (s.screen n).wash = some w → s.swc.passTimeout * 1000 ≤ w.passTimer →
      ∃ t, exec (.passTimeout n) s = .next t ∧ t.screen n = (s.screen n).ended w .stalled s.stamp .idle
        ∧ t.SluiceRestarted ∧ s.WorkFrame (fun m => m = n) (fun _ => False) t)
    ∧ ((∀ (s : State) (level : Bool),
        (level = s.swc.hdok → exec (.hdokChange level) s = .next s)
          ∧ (level ≠ s.swc.hdok → s.phase ≠ .running →
              exec (.hdokChange level) s = .next { s with swc := { s.swc with hdok := level } })
          ∧ (level ≠ s.swc.hdok → s.phase = .running →
              ∃ t v, exec (.hdokChange level) s = .next t
                ∧ v = { s with swc := { s.swc with hdok := level, falsePeriod := if level then none else some 0 } }
                ∧ t = v.reevaluate.settle ∧ t.swc.hdok = level
                ∧ t.swc.falsePeriod = (if level then none else some 0) ∧ v.DutyFrame (fun _ => False) t))
      ∧ ∀ (s : State) (ms : Nat), s.phase = .running → s.SwcSound → s.swc.hdok = false →
          s.swc.falsePeriod = some ms → s.swc.lossDelay * 1000 ≤ ms →
          ∃ t, exec .headerLossDelayExpiry s = .next t
            ∧ (∀ n w, (s.screen n).wash = some w → t.screen n = (s.screen n).ended w .noWater s.stamp .idle)
            ∧ (∀ n, (s.screen n).state.isWashing = false → t.screen n = s.screen n)
            ∧ (s.anyWashing = true → t.SluiceRestarted) ∧ t.swc.queue = s.swc.queue
            ∧ s.WorkFrame (fun n => (s.screen n).state.isWashing = true) (fun _ => False) t)

/-- SJAM: its level is read at either edge. A rising edge on a washing screen ends the wash JAMMED, the screen JAMMED
and no longer counting for capacity, with a SCREEN_JAMMED notice of FAULT class at once; on any other screen it
changes no state but what the arbiter does, and a falling edge takes no screen out of JAMMED. The model's choices in
it: notes/assumptions/6.md, 8.md, 18.md. -/
def Obligations.JamEdges : Prop :=
  ∀ (s : State) (n : ScreenId),
    ((s.screen n).jam = true → exec (.sjamRising n) s = .next s)
      ∧ ((s.screen n).jam = false → exec (.sjamFalling n) s = .next s)
      ∧ (s.phase ≠ .running ∨ (s.screen n).state = .idle ∨ (s.screen n).state = .jammed
            ∨ (s.screen n).state = .outOfService →
          exec (.sjamRising n) s = .next (s.onScreen n fun sc => { sc with jam := true })
            ∧ exec (.sjamFalling n) s = .next (s.onScreen n fun sc => { sc with jam := false }))
      ∧ (s.phase = .running → (s.screen n).state = .queued → ∀ level : Bool, (s.screen n).jam ≠ level →
          ∃ t, exec (if level then .sjamRising n else .sjamFalling n) s = .next t
            ∧ (s.onScreen n fun sc => { sc with jam := level }).DutyFrame (fun _ => False) t)
      ∧ ∀ w : WashRecord, s.phase = .running → s.SwcSound → s.PublicationsCurrent → (s.screen n).jam = false →
          (s.screen n).wash = some w →
          (∃ t, exec (.sjamFalling n) (s.onScreen n fun sc => { sc with jam := true }) = .next t ∧ t = s)
            ∧ ∃ t, exec (.sjamRising n) s = .next t
              ∧ t.screen n = { (s.screen n).ended w .jammed s.stamp .jammed with jam := true, counts := false }
              ∧ t.SluiceRestarted
              ∧ (s.slp.notices.length ≤ 30 →
                  ⟨.fault, .screenJammed, n.val + 1, 0, (w.accepted - 1 : Nat), 1, s.stamp⟩ ∈ t.slp.notices)
              ∧ (s.onScreen n fun sc => { sc with jam := true, counts := false }).WorkFrame (fun m => m = n)
                  (fun _ => False) t

/-- The end of the sluice run: SLUV closes and every pending result is made final, each queueing its WASH_COMPLETE
notice, screens in ascending number and PREVIOUS before CURRENT, and each with a set deferred mark handing its outcome
and passes done to the slot that follows the wash, which is DONE with them, or freed in fallback; a slot that follows no
such wash is left; header held is then published, with the duty evaluations that calls for. The header purge: its timer's expiry makes it
PENDING, and ACTIVE at once with HPRG open when no screen is washing and the cap is not 0; its full active time makes
it IDLE with HPRG closed and its timer restarted; at the deferral limit a PENDING purge is overdue, and every
continuous wash in WASHING moves to FINISHING. The model's choices in it: notes/assumptions/8.md, 19.md. -/
def Obligations.SluiceAndHeaderPurge : Prop :=
  ((∀ (s : State) (news : List Notice), s.phase = .running → s.swc.sluicing = true →
        s.swc.sluiceTime * 1000 ≤ s.swc.sluiceMs →
        (news = allScreens.flatMap fun n =>
          (((s.screen n).previous.toList ++ (s.screen n).current.toList).filter (·.pending)).map fun r =>
            ⟨.completion, .washComplete, n.val + 1, r.origin.code + 8 * (if r.doubleIndex then 1 else 0),
              r.outcome.code, (min r.done 32767 : Nat), s.stamp⟩) →
        ∃ t v, exec .sluiceRunEnd s = .next t ∧ t = v.publishHeld.settle ∧ v.DutyFrame (fun _ => False) t
          ∧ v = ({ s with swc := { s.swc with sluicing := false, sluiceMs := 0, sluv := false } } : State).releaseResults
          ∧ (s.slp.notices.length ≤ 20 →
              v.slp.notices = s.slp.notices ++ news
                ∧ (s.pdc.mode = .manual → s.NoDueStop → t.slp.notices = s.slp.notices ++ news))
          ∧ (∀ (n : ScreenId) (r : WashResult) (m : Nat) (i : SlotId),
              r ∈ (s.screen n).previous.toList ++ (s.screen n).current.toList → r.pending = true → r.mark = some m →
              s.Follows m i →
              (∀ (n' : ScreenId) (r' : WashResult),
                r' ∈ (s.screen n').previous.toList ++ (s.screen n').current.toList → r'.pending = true →
                r'.mark = some m → r'.outcome = r.outcome ∧ r'.done = r.done) →
              (s.slp.fallback = true → t.slp.slots[i] = none)
                ∧ (s.slp.fallback = false → s.DoneWith t i r.outcome.code r.done))
          ∧ (∀ i : SlotId,
              (∀ (n : ScreenId) (r : WashResult) (m : Nat),
                r ∈ (s.screen n).previous.toList ++ (s.screen n).current.toList → r.pending = true →
                r.mark = some m → followedBy m s.slp.slots[i] = false) →
              v.slp.slots[i] = s.slp.slots[i])
          ∧ t.swc.sluicing = false ∧ t.swc.sluv = false ∧ t.swc.sluiceMs = 0
          ∧ (∀ n, (t.screen n).current = released (s.screen n).current
              ∧ (t.screen n).previous = released (s.screen n).previous)
          ∧ (∀ n, t.screen n = { s.screen n with
                current := released (s.screen n).current, previous := released (s.screen n).previous }
              ∨ ∃ e ∈ s.swc.queue, e.screen = n ∧ (t.screen n).wash = ((s.screen n).granted e).wash
                  ∧ (t.screen n).state = .washing)
          ∧ s.WorkFrame (fun _ => True) (fun _ => False) t)
      ∧ ∀ s : State, s.slp.notices.length ≤ 20 →
          s.releaseResults.slp.notices = s.slp.notices
            ++ allScreens.flatMap fun n =>
                (((s.screen n).previous.toList ++ (s.screen n).current.toList).filter (·.pending)).map fun r =>
                  ⟨.completion, .washComplete, n.val + 1, r.origin.code + 8 * (if r.doubleIndex then 1 else 0),
                    r.outcome.code, (min r.done 32767 : Nat), s.stamp⟩)
    ∧ ((∀ s : State, s.phase = .running → s.swc.purge = .idle → s.swc.purgeInterval ≠ 0 →
        s.swc.purgeInterval * 60000 ≤ s.swc.purgeTimer →
        ∃ t v, exec .headerPurgeTimerExpiry s = .next t ∧ v.DutyFrame (fun _ => False) t
          ∧ v = { s with swc := if s.anyWashing = false ∧ s.twu.condition.cap ≠ some 0 then
                    { s.swc with purge := .active, pendingMs := 0, activeMs := 0, hprg := true, overdue := false }
                  else { s.swc with purge := .pending, pendingMs := 0 } })
      ∧ (∀ s : State, s.phase = .running → s.swc.purge = .active → s.swc.purgeTime * 1000 ≤ s.swc.activeMs →
          ∃ t, exec .headerPurgeComplete s = .next t
            ∧ ({ s with swc := { s.swc with
                  purge := .idle, hprg := false, overdue := false, purgeTimer := 0, pendingMs := 0, activeMs := 0 } }
                : State).DutyFrame (fun _ => False) t)
      ∧ ∀ s : State, s.phase = .running → s.swc.purge = .pending → s.swc.overdue = false →
          s.swc.deferral * 60000 ≤ s.swc.pendingMs →
          ∃ t, exec .purgeOverdue s = .next t
            ∧ t = { s with swc := { s.swc with overdue := true, screens := t.swc.screens } }
            ∧ ∀ n, t.screen n =
                if (s.screen n).state = .washing ∧ ∃ w, (s.screen n).wash = some w ∧ w.passes = 0 then
                  { s.screen n with state := .finishing, drive := true, spray := true }
                else s.screen n)

/-- The triggers of a screen at a scan event: none with SJAM active or in OUT_OF_SERVICE, WASHING or JAMMED; in
FINISHING the high head loss alone; in IDLE and QUEUED each of the four by its condition. Their one request has the
highest class and the largest passes among them; it joins the queue for an IDLE screen, is merged into the entry of a
QUEUED one (the higher class, the larger passes with 0 the largest, the mark and the joining moment kept), and fills
the empty staged slot of a FINISHING one; the six screens are taken in ascending number, and the arbiter re-evaluates
once when the queue has changed. One test of the header arbiter: with fewer than two screens washing, the header purge
IDLE, HDOK true, a pump running, the mode not HOLD and the cap not 0, the earliest entry of the highest class among
those whose SJAM is inactive leaves the queue and its screen starts its wash; with a condition failing or no such
entry nothing changes. -/
def Obligations.TriggersAndGrants : Prop :=
  (∀ (s : State) (n : ScreenId) (open_ high : Prop),
      (open_ ↔ (s.screen n).jam = false ∧ ((s.screen n).state = .idle ∨ (s.screen n).state = .queued)) →
      (high ↔ s.lau.record.heads[n].unknown = false ∧ ((s.screen n).high : Int) ≤ s.lau.record.heads[n].loss) →
      ((∃ p, (.headlossHigh, p) ∈ s.triggers n) ↔
          (open_ ∨ ((s.screen n).jam = false ∧ (s.screen n).state = .finishing)) ∧ high)
        ∧ ((∃ p, (.headloss, p) ∈ s.triggers n) ↔
            open_ ∧ s.lau.record.heads[n].unknown = false
              ∧ ((s.screen n).washStart : Int) ≤ s.lau.record.heads[n].loss)
        ∧ ((∃ p, (.storm, p) ∈ s.triggers n) ↔ open_ ∧ s.twu.condition.mode = .storm)
        ∧ ((∃ p, (.interval, p) ∈ s.triggers n) ↔
            open_ ∧ (if s.slp.fallback then s.swc.fallbackInterval else s.swc.washInterval) ≠ 0
              ∧ (if s.slp.fallback then s.swc.fallbackInterval else s.swc.washInterval) * 60000 ≤ (s.screen n).sinceEnd)
        ∧ (∀ x ∈ s.triggers n, x.2 = if x.1 = .storm then s.swc.stormPasses else (s.screen n).defaultPasses)
        ∧ (triggerRequest (s.triggers n) = none ↔ s.triggers n = [])
        ∧ ∀ cls p, triggerRequest (s.triggers n) = some (cls, p) →
            (∃ x ∈ s.triggers n, x.1 = cls) ∧ (∀ x ∈ s.triggers n, cls.code ≤ x.1.code)
              ∧ (∃ x ∈ s.triggers n, x.2 = p) ∧ ∀ x ∈ s.triggers n, x.2 ≤ p)
    ∧ (∀ (s : State) (n : ScreenId),
      (triggerRequest (s.triggers n) = none → s.triggerScreen n = s)
        ∧ (∀ cls p, triggerRequest (s.triggers n) = some (cls, p) →
          ((s.screen n).state = .idle →
              s.triggerScreen n = { s with swc := { s.swc with
                queue := s.swc.queue ++ [⟨n, cls, p, none, 0⟩]
                screens := s.swc.screens.set n { s.screen n with state := .queued, drive := false, spray := false } } })
            ∧ ((s.screen n).state = .queued →
                s.triggerScreen n = { s with swc := { s.swc with
                  queue := s.swc.queue.map fun e => if e.screen = n then
                      { e with
                        cls := if cls.code < e.cls.code then cls else e.cls
                        passes := if e.passes = 0 ∨ p = 0 then 0 else if e.passes < p then p else e.passes }
                    else e } })
            ∧ ((s.screen n).state = .finishing →
                ((s.screen n).staged = none →
                    s.triggerScreen n = s.onScreen n fun sc => { sc with staged := some ⟨p, cls, none⟩ })
                  ∧ ((s.screen n).staged ≠ none → s.triggerScreen n = s)))
        ∧ ∀ v, v = allScreens.foldl State.triggerScreen s →
            (v.swc.queue = s.swc.queue → s.evaluateTriggers = v)
              ∧ (v.swc.queue ≠ s.swc.queue → s.evaluateTriggers = v.reevaluate))
    ∧ (∀ (s : State) (may : Prop),
      (may ↔ s.washingCount < 2 ∧ s.swc.purge = .idle ∧ s.swc.hdok = true ∧ 1 ≤ s.swc.runningCount
        ∧ s.twu.condition.mode ≠ .hold ∧ s.twu.condition.cap ≠ some 0) →
      (¬ may → s.tryGrant = s)
        ∧ ((∀ e ∈ s.swc.queue, (s.screen e.screen).jam = true) → s.tryGrant = s)
        ∧ ∀ (before after : List QueueEntry) (e : QueueEntry), may → s.swc.queue = before ++ e :: after →
            (s.screen e.screen).jam = false →
            (∀ x ∈ before, (s.screen x.screen).jam = false → e.cls.code < x.cls.code) →
            (∀ x ∈ after, (s.screen x.screen).jam = false → e.cls.code ≤ x.cls.code) →
            (s.swc.queue.map QueueEntry.screen).Nodup →
            s.tryGrant.swc.queue = before ++ after
              ∧ s.tryGrant.screen e.screen =
                  { s.screen e.screen with
                    state := .washing, drive := true, spray := true
                    wash := some { passes := e.passes, cls := e.cls, mark := e.mark, counter := e.passes - 1 } }
              ∧ (∀ n, n ≠ e.screen → s.tryGrant.screen n = s.screen n)
              ∧ s.tryGrant = { s with swc := { s.swc with
                  queue := s.tryGrant.swc.queue, screens := s.tryGrant.swc.screens } })

/-- The header clear: every wash ends with the result named, its results final; the sluice run and the header purge end,
header held falls, no grant is made, and the other screens, the wash queue and the pumps are as they were. A
publication of the Intake Condition: one that changes neither the wash mode nor the cap acts on nothing; one that
changes the cap makes a duty evaluation; a change of the mode to HOLD moves every continuous wash in WASHING to
FINISHING, one to STORM evaluates the triggers; a cap raised from 0 lets a PENDING header purge become ACTIVE; and the
arbiter then re-evaluates. One whose cap becomes 0 begins the cap-0 sequence: the header clear, ABORTED_BY_CONDITION,
and the duty evaluation. The model's choices in it: notes/assumptions/9.md, 29.md, 30.md. -/
def Obligations.HeaderClearEndsEverything : Prop :=
  (∀ (s : State) (o : WashOutcome), s.SwcSound → s.OutputsAgree → o ≠ .complete → o ≠ .jammed →
    (s.clearHeader o).swc.sluicing = false ∧ (s.clearHeader o).swc.sluv = false
      ∧ (s.clearHeader o).swc.purge = .idle ∧ (s.clearHeader o).swc.hprg = false
      ∧ (s.clearHeader o).pdc.headerHeld = false ∧ (s.clearHeader o).swc.queue = s.swc.queue
      ∧ (∀ n w, (s.screen n).wash = some w →
          (s.clearHeader o).screen n =
            { (s.screen n).ended w o s.stamp .idle with
              current := released ((s.screen n).ended w o s.stamp .idle).current
              previous := released (s.screen n).current })
      ∧ (∀ n, (s.screen n).wash = none →
          (s.clearHeader o).screen n = s.screen n
            ∨ (s.clearHeader o).screen n = { s.screen n with
                current := released (s.screen n).current, previous := released (s.screen n).previous })
      ∧ (∀ p, (s.clearHeader o).pump p = s.pump p) ∧ (s.clearHeader o).twu = s.twu ∧ (s.clearHeader o).lau = s.lau
      ∧ s.LinkFrame (s.clearHeader o))
    ∧ ∀ (s v : State) (old new : Condition), old = s.twu.condition → s.twu.recomputed ≠ old →
      new = { s.twu.recomputed with number := (old.number + 1) % 65536 } →
      v = { s with twu := { s.twu with condition := new } } →
      (new.mode = old.mode → new.cap = old.cap → s.recompute = v)
        ∧ (new.mode ≠ old.mode ∨ new.cap ≠ old.cap → new.cap ≠ some 0 ∨ old.cap = some 0 →
            ∃ a b c : State, s.recompute = c.reevaluate
              ∧ a = (if new.cap = old.cap then v else { v with pdc := { v.pdc with evaluationDue := true } })
              ∧ (new.mode = old.mode ∨ new.mode = .normal → b = a)
              ∧ (new.mode ≠ old.mode → new.mode = .storm → b = a.evaluateTriggers)
              ∧ (new.mode ≠ old.mode → new.mode = .hold →
                  b = { a with swc := { a.swc with screens := b.swc.screens } }
                    ∧ ∀ n, b.screen n =
                        if (s.screen n).state = .washing ∧ ∃ w, (s.screen n).wash = some w ∧ w.passes = 0 then
                          { s.screen n with state := .finishing, drive := true, spray := true }
                        else s.screen n)
              ∧ c = (if old.cap = some 0 ∧ new.cap ≠ some 0 then b.activatePurge.publishHeld else b))
        ∧ (new.mode = old.mode → new.cap = some 0 → old.cap ≠ some 0 → s.SwcSound → s.PublicationsCurrent →
            ∃ w, w = ({ v with draws := s.draws + 1 } : State).clearHeader .abortedByCondition
              ∧ s.recompute = { w with pdc := { w.pdc with evaluationDue := true } })

/-- STOP WASH, by the screen's state: a wash ends ABORTED_BY_REQUEST, a queue entry is removed with its mark handed
WITHDRAWN, and any other screen is left as it is; refused in fallback and for a screen outside 1 to 6. CLEAR SCREEN: a
JAMMED screen whose SJAM is inactive enters IDLE and counts for capacity by its verdict, with an active SJAM the
request is refused with JAM_ACTIVE, and in any other state with STATE. SET SERVICE: out ends a wash or removes a queue
entry and takes the screen out of service, in brings an OUT_OF_SERVICE screen to IDLE or, with SJAM active, to JAMMED
with its notice; either sets the in-service setting; refused for a screen or a value outside its list, and in
fallback. The model's choices in it: notes/assumptions/8.md. -/
def Obligations.ScreenRequestsActAtOnce : Prop :=
  (∀ (s : State) (v : Nat), s.Takes (.stopWash (.args v)) →
      (v = 0 ∨ 6 < v → exec (.stopWash (.args v)) s = .next (s.reply .badArgument []))
        ∧ ∀ n : ScreenId, v = n.val + 1 →
            (s.slp.fallback = true → exec (.stopWash (.args v)) s = .next (s.reply .inFallback []))
              ∧ (s.slp.fallback = false →
                  ((s.screen n).state = .idle ∨ (s.screen n).state = .outOfService ∨ (s.screen n).state = .jammed →
                      exec (.stopWash (.args v)) s = .next (s.reply .ok []))
                    ∧ (∀ w, s.SwcSound → (s.screen n).wash = some w →
                        ∃ t : State, exec (.stopWash (.args v)) s = .next (t.reply .ok [])
                          ∧ t.screen n = (s.screen n).ended w .abortedByRequest s.stamp .idle ∧ t.SluiceRestarted
                          ∧ s.WorkFrame (fun m => m = n) (fun _ => False) t)
                    ∧ (s.SwcSound → (s.screen n).state = .queued →
                        ∃ t : State, exec (.stopWash (.args v)) s = .next (t.reply .ok [])
                          ∧ t.screen n = { s.screen n with state := .idle, drive := false, spray := false }
                          ∧ s.WorkFrame (fun m => m = n) (fun _ => False) t
                          ∧ ∀ e m i, e ∈ s.swc.queue → e.screen = n → e.mark = some m → s.Follows m i →
                              s.DoneWith t i 6 0)))
    ∧ (∀ (s : State) (v : Nat), s.Takes (.clearScreen (.args v)) →
      (v = 0 ∨ 6 < v → exec (.clearScreen (.args v)) s = .next (s.reply .badArgument []))
        ∧ ∀ n : ScreenId, v = n.val + 1 →
            ((s.screen n).state ≠ .jammed → exec (.clearScreen (.args v)) s = .next (s.reply .state []))
              ∧ ((s.screen n).state = .jammed → (s.screen n).jam = true →
                  exec (.clearScreen (.args v)) s = .next (s.reply .jamActive []))
              ∧ ((s.screen n).state = .jammed → (s.screen n).jam = false → s.SwcSound → s.PublicationsCurrent →
                  ∃ t : State, exec (.clearScreen (.args v)) s = .next (t.reply .ok [])
                    ∧ t.screen n =
                        { s.screen n with state := .idle, drive := false, spray := false, counts := (s.screen n).verdict }
                    ∧ (s.onScreen n fun sc => { sc with
                        state := .idle, drive := false, spray := false, counts := sc.verdict }).DutyFrame
                          (fun _ => False) t))
    ∧ (∀ (s : State) (n v : Nat), s.Takes (.setService (.args (n, v))) →
      (n = 0 ∨ 6 < n ∨ 1 < v → exec (.setService (.args (n, v))) s = .next (s.reply .badArgument []))
        ∧ ∀ k : ScreenId, n = k.val + 1 → v ≤ 1 →
            (s.slp.fallback = true → exec (.setService (.args (n, v))) s = .next (s.reply .inFallback []))
              ∧ (s.slp.fallback = false → s.SwcSound → s.PublicationsCurrent →
                  ∃ t : State, exec (.setService (.args (n, v))) s = .next (t.reply .ok [])
                    ∧ (s.onScreen k fun sc => { sc with
                        inService := decide (v = 1), counts := (t.screen k).counts }).WorkFrame (fun m => m = k)
                          (fun _ => False) t
                    ∧ (v = 0 → (t.screen k).state = .outOfService ∧ (t.screen k).counts = false
                        ∧ (t.screen k).wash = none ∧ (t.screen k).staged = none)
                    ∧ (∀ w, v = 0 → (s.screen k).wash = some w →
                        t.screen k = { (s.screen k).ended w .abortedByRequest s.stamp .outOfService with
                          inService := false, counts := false } ∧ t.SluiceRestarted)
                    ∧ (v = 1 → (s.screen k).state = .outOfService →
                        (t.screen k).state = (if (s.screen k).jam then .jammed else .idle)
                          ∧ ((s.screen k).jam = true → s.slp.notices.length < 32 →
                              ⟨.fault, .screenJammed, k.val + 1, 0, 0, 0, s.stamp⟩ ∈ t.slp.notices))
                    ∧ (v = 1 → (s.screen k).state ≠ .outOfService → s.pdc.evaluationDue = false →
                        t = s.onScreen k fun sc => { sc with inService := true })))

/-- SET SCREEN: the screen's wash thresholds and default passes clamped, nothing else changed. SET WASH TIMING: the
ten settings clamped, with 0 for off where the table has it; a new header purge interval restarts the timer of an IDLE
purge; a request that names no setting is refused. What the new values then do is work of the SWC. The model's choices
in it: notes/assumptions/12.md, 14.md, 16.md. -/
def Obligations.WashSettingsTaken : Prop :=
  (∀ (s : State) (c : ScreenArgs) (bad : Bool), s.Takes (.setScreen (.args c)) →
      bad = (strays 0 3000 c.washStart || strays 0 3000 c.high || strays 0 3000 c.blind || strays 1 64 c.defaultPasses) →
      (c.screen = 0 ∨ 6 < c.screen ∨ c = { screen := c.screen } →
          exec (.setScreen (.args c)) s = .next (s.reply .badArgument []))
        ∧ ∀ n : ScreenId, c.screen = n.val + 1 → c ≠ { screen := c.screen } →
            ∃ t : State, exec (.setScreen (.args c)) s =
                .next (t.reply (if bad then .okAdjusted else .ok)
                  (if bad then
                    carried [(c.washStart.isSome, .u16, (t.screen n).washStart), (c.high.isSome, .u16, (t.screen n).high),
                      (c.blind.isSome, .u16, (t.screen n).blind),
                      (c.defaultPasses.isSome, .u16, (t.screen n).defaultPasses)]
                   else []))
              ∧ t = s.onScreen n fun sc => { sc with
                  washStart := setTo 0 3000 sc.washStart c.washStart, high := setTo 0 3000 sc.high c.high
                  blind := setTo 0 3000 sc.blind c.blind, defaultPasses := setTo 1 64 sc.defaultPasses c.defaultPasses })
    ∧ (∀ (s v : State) (c : WashTimingArgs) (bad : Bool), s.Takes (.setWashTiming (.args c)) →
      v = { s with swc := { s.swc with
        passTimeout := setTo 30 1800 s.swc.passTimeout c.passTimeout
        indexGuard := setTo 1 30 s.swc.indexGuard c.indexGuard
        washInterval := setToOrOff 10 1440 s.swc.washInterval c.washInterval
        fallbackInterval := setTo 10 1440 s.swc.fallbackInterval c.fallbackInterval
        stormPasses := setTo 1 64 s.swc.stormPasses c.stormPasses
        sluiceTime := setTo 10 600 s.swc.sluiceTime c.sluiceTime
        purgeInterval := setToOrOff 5 240 s.swc.purgeInterval c.purgeInterval
        purgeTime := setTo 10 300 s.swc.purgeTime c.purgeTime
        deferral := setTo 1 60 s.swc.deferral c.deferral
        lossDelay := setTo 2 60 s.swc.lossDelay c.lossDelay } } →
      bad = (strays 30 1800 c.passTimeout || strays 1 30 c.indexGuard || straysOrOff 10 1440 c.washInterval
        || strays 10 1440 c.fallbackInterval || strays 1 64 c.stormPasses || strays 10 600 c.sluiceTime
        || straysOrOff 5 240 c.purgeInterval || strays 10 300 c.purgeTime || strays 1 60 c.deferral
        || strays 2 60 c.lossDelay) →
      (c = {} → exec (.setWashTiming (.args c)) s = .next (s.reply .badArgument []))
        ∧ (c ≠ {} →
            ∃ (t : State) (data : List Byte), exec (.setWashTiming (.args c)) s =
                .next (t.reply (if bad then .okAdjusted else .ok) data)
              ∧ (bad = false → data = [])
              ∧ t.sectionValues 6 0 = v.sectionValues 6 0
              ∧ v.WorkFrame (fun _ => True) (fun _ => False) t
              ∧ (v.swc.purgeInterval ≠ s.swc.purgeInterval → s.swc.purge = .idle → t.swc.purgeTimer = 0)
              ∧ (∀ n w, s.SwcSound → (s.screen n).wash = some w → v.swc.passTimeout ≠ s.swc.passTimeout →
                  v.swc.passTimeout * 1000 ≤ w.passTimer →
                  ∃ r, (t.screen n).current = some r ∧ r.outcome = .stalled ∧ r.done = w.accepted - 1)))

/-! ## Pumps, starts and stops (Chapter 6) -/

/-- PFB rising: read in every phase; a pump in STARTING enters RUNNING, its timer stopped and its start ended, and is
then RUNNING or, by a stop that was waiting for it, STOPPING. With no stop due and no changeover or low margin waiting
for it, it stays RUNNING, PUMP_STARTED is queued, and the outcome STARTED reaches the slot that follows the start. The
model's choices in it: notes/assumptions/6.md, 8.md. -/
def Obligations.FeedbackCompletesAStart : Prop :=
  ∀ (s : State) (p : PumpId),
    ((s.pump p).feedback = true → exec (.pfbRising p) s = .next s)
      ∧ ((s.pump p).feedback = false → s.phase ≠ .running ∨ (s.pump p).state ≠ .starting →
          exec (.pfbRising p) s = .next (s.onPump p fun q => { q with feedback := true }))
      ∧ ((s.pump p).feedback = false → s.phase = .running → (s.pump p).state = .starting →
          ∃ t, exec (.pfbRising p) s = .next t
            ∧ ((t.pump p).state = .running ∨ (t.pump p).state = .stopping) ∧ (t.pump p).starts = (s.pump p).starts
            ∧ (s.onPump p fun q => { q with feedback := true }).DutyFrame (fun x => x = p) t
            ∧ (s.NoDueStop → (s.pump p).lowMargin = none → (∀ pr, s.pdc.pair = some pr → pr.b ≠ p) →
                0 < s.pdc.startSpacing →
                t.pump p = { s.pump p with
                    feedback := true, state := .running, run := true, startTimer := 0, startMark := none, runTime := 0 }
                  ∧ t.pdc.sinceStart = some 0 ∧ t.swc.runningCount = t.runningNow
                  ∧ (∀ x, x ≠ p → t.pump x = s.pump x)
                  ∧ (s.slp.notices.length < 32 →
                      t.slp.notices = s.slp.notices ++ [⟨.status, .pumpStarted, p.val + 1, 0,
                        (s.pump p).startOrigin.code, (min (s.pump p).starts 32767 : Nat), s.stamp⟩])
                  ∧ ∀ m i, (s.pump p).startMark = some m → s.Follows m i → s.slp.fallback = false →
                      s.DoneWith t i 0 0))

/-- A pump fails: its feedback lost in RUNNING with PTRP inactive, PTRP active in STARTING or RUNNING, the start
timeout or the stop timeout. It enters FAILED with the cause, PRUN off and the recovery timer loaded, PUMP_FAILED of
FAULT class is queued, a failed start ends the start in flight, and the outcome FAILED reaches the slot that follows.
The model's choices in it: notes/assumptions/8.md, 18.md. -/
def Obligations.PumpFails : Prop :=
  ∀ (s : State) (p : PumpId) (c : Instr) (cause : FailCause) (q : Pump), s.phase = .running →
    ((c = .pfbFalling p ∧ (s.pump p).state = .running ∧ (s.pump p).feedback = true ∧ (s.pump p).trip = false
        ∧ cause = .feedbackLost ∧ q = { s.pump p with feedback := false })
      ∨ (c = .ptrpActive p true ∧ ((s.pump p).state = .starting ∨ (s.pump p).state = .running)
        ∧ cause = .tripped ∧ q = { s.pump p with trip := true })
      ∨ (c = .startTimeout p ∧ (s.pump p).state = .starting ∧ s.pdc.startTimeout * 1000 ≤ (s.pump p).startTimer
        ∧ cause = .startTimeout ∧ q = s.pump p)
      ∨ (c = .stopTimeout p ∧ (s.pump p).state = .stopping ∧ s.pdc.stopTimeout * 1000 ≤ (s.pump p).stopTimer
        ∧ cause = .stopTimeout ∧ q = s.pump p)) →
    ∃ t, exec c s = .next t ∧ t.pump p = q.failedWith cause (s.recoverySeconds p)
      ∧ (s.slp.notices.length < 32 →
          ⟨.fault, .pumpFailed, p.val + 1, 0, cause.code, s.recoverySeconds p, s.stamp⟩ ∈ t.slp.notices)
      ∧ ((s.pump p).state = .starting → t.pdc.sinceStart = some 0)
      ∧ (∀ m i, ((s.pump p).state = .starting ∧ (s.pump p).startMark = some m)
            ∨ ((s.pump p).state = .stopping ∧ (s.pump p).stopMark = some m) →
          s.Follows m i → s.slp.fallback = false → s.DoneWith t i 1 cause.code)
      ∧ (s.onPump p fun _ => q).DutyFrame (fun x => x = p) t

/-- PFB falling and PTRP, where no pump fails: the levels are read in every phase; a pump in STOPPING whose feedback
goes false enters RECOVERING with the recovery time of its class, or with a recovery time of 0 STOPPED at once,
PUMP_STOPPED is queued with the stop's origin and the minutes of the run, the outcome STOPPED reaches the slot that
follows, and a duty evaluation is made. A recovery timer that has run to 0 brings a RECOVERING pump to STOPPED; in
MANUAL it stays there, since the duty controller starts nothing. The model's choices in it: notes/assumptions/6.md,
8.md. -/
def Obligations.StopsAndRecoveriesEnd : Prop :=
  (∀ (s : State) (p : PumpId),
      ((s.pump p).feedback = false → exec (.pfbFalling p) s = .next s)
        ∧ ((s.pump p).feedback = true → s.phase ≠ .running ∨ ((s.pump p).state ≠ .running ∧ (s.pump p).state ≠ .stopping)
              ∨ ((s.pump p).state = .running ∧ (s.pump p).trip = true) →
            exec (.pfbFalling p) s = .next (s.onPump p fun q => { q with feedback := false }))
        ∧ (∀ level, s.phase ≠ .running ∨ level = false
              ∨ ((s.pump p).state ≠ .starting ∧ (s.pump p).state ≠ .running) →
            exec (.ptrpActive p level) s = .next (s.onPump p fun q => { q with trip := level }))
        ∧ ((s.pump p).feedback = true → s.phase = .running → (s.pump p).state = .stopping →
            ∃ t v, exec (.pfbFalling p) s = .next t
              ∧ v = (s.onPump p fun q => { q with feedback := false }).stopEnded p ∧ t = v.settle
              ∧ v.pump p = { s.pump p with
                  feedback := false, state := if s.recoverySeconds p = 0 then .stopped else .recovering, run := false
                  lowMargin := none, stopTimer := 0, stopMark := none, recovery := s.recoverySeconds p * 1000 }
              ∧ (s.recoverySeconds p ≠ 0 ∨ s.pdc.mode = .manual → t.pump p = v.pump p)
              ∧ v.pdc.evaluationDue = true
              ∧ (s.slp.notices.length < 32 →
                  v.slp.notices = s.slp.notices ++ [⟨.status, .pumpStopped, p.val + 1, 0,
                    (((s.pump p).stopOrigin.map StopOrigin.code).getD 0 : Nat),
                    (min ((s.pump p).runTime / 60000) 32767 : Nat), s.stamp⟩])
              ∧ (s.NoDueStop → s.pdc.mode = .manual → t.slp.notices = v.slp.notices)
              ∧ (∀ m i, (s.pump p).stopMark = some m → s.Follows m i → s.slp.fallback = false →
                  s.DoneWith t i 0 (((s.pump p).stopOrigin.map StopOrigin.code).getD 0))
              ∧ (s.onPump p fun q => { q with feedback := false }).DutyFrame (fun x => x = p) t))
    ∧ (∀ (s : State) (p : PumpId), s.phase = .running → (s.pump p).state = .recovering → (s.pump p).recovery = 0 →
      ∃ t v, exec (.recoveryTimerExpiry p) s = .next t
        ∧ v = (s.onPump p fun q => { q with state := .stopped, run := false, lowMargin := none }).evaluationFollows
        ∧ t = v.settle ∧ v.DutyFrame (fun x => x = p) t
        ∧ (s.pdc.mode = .manual → t.pump p = { s.pump p with state := .stopped, run := false, lowMargin := none }))

/-- The end of the start spacing: with no pump in STARTING the oldest entry of the start queue is taken; when its pump
passes the grant checks, and its PTRP is inactive and its PFB false, the pump enters STARTING with PRUN on, its start
counted and the entry's origin and mark. The grant checks, in order: not STOPPED 1, PTRP active 2, the margin below
the start margin 3, the well unknown 4, the bay's load at its ceiling 5, the device load at the cap 6; the first that
fails gives the code. The model's choices in it: notes/assumptions/8.md, 20.md. -/
def Obligations.StartQueueIsServed : Prop :=
  (∀ (s : State) (ms : Nat) (e : StartEntry) (rest : List StartEntry), s.phase = .running →
      s.pdc.sinceStart = some ms → s.pdc.startSpacing * 1000 ≤ ms → s.pdc.spacingTaken = false →
      (∀ p, (s.pump p).state ≠ .starting) → s.pdc.queue = e :: rest →
      (s.pump e.pump).state = .stopped → (s.pump e.pump).trip = false → (s.pump e.pump).feedback = false →
      (s.pdc.startMargin : Int) ≤ s.lau.record.margins[e.pump] →
      s.lau.record.wells[bayOfPump e.pump].unknown = false →
      s.bayLoad (bayOfPump e.pump) < s.ceiling (bayOfPump e.pump) →
      (∀ c, s.twu.condition.cap = some c → s.deviceLoad < c) →
      ∃ t, exec .startSpacingExpiry s = .next t
        ∧ t.pump e.pump = { s.pump e.pump with
            state := .starting, run := true, startTimer := 0, starts := min ((s.pump e.pump).starts + 1) 65535
            startOrigin := e.origin, startMark := e.mark }
        ∧ rest <+: t.pdc.queue ∧ t.pdc.spacingTaken = true ∧ s.DutyFrame (fun x => x = e.pump) t)
    ∧ (∀ (s : State) (p : PumpId) (fails : Nat → Prop),
      (∀ k, fails k ↔
        (k = 1 ∧ (s.pump p).state ≠ .stopped) ∨ (k = 2 ∧ (s.pump p).trip = true)
          ∨ (k = 3 ∧ s.lau.record.margins[p] < s.pdc.startMargin)
          ∨ (k = 4 ∧ ∃ b : BayId, b.val = p.val / 3 ∧ s.lau.record.wells[b].unknown = true)
          ∨ (k = 5 ∧ ∃ b : BayId, b.val = p.val / 3 ∧ s.ceiling b ≤ s.bayLoad b)
          ∨ (k = 6 ∧ ∃ c, s.twu.condition.cap = some c ∧ c ≤ s.deviceLoad)) →
      (∀ k, s.grantCheck p = some k ↔ fails k ∧ ∀ j, j < k → ¬ fails j)
        ∧ (s.grantCheck p = none ↔ ∀ k, ¬ fails k)
        ∧ ∀ (e : StartEntry) (k m : Nat) (i : SlotId), e.origin = .host → e.mark = some m → s.Follows m i →
            s.slp.fallback = false → s.DoneWith (s.refuseStart e k) i 2 k ∧ (s.refuseStart e k).pdc = s.pdc)

/-- The rotation timer's expiry moves the first pump of the duty order list to the end, restarts the timer, marks a
changeover, queues ROTATED with the new first pump and the pump moved, and makes a duty evaluation; in MANUAL no pump
is started. A scan event begins, keeps or ends each pump's low-margin period. The low-level stop: the low-margin period
of a RUNNING pump that reaches the trip delay queues LOW_LEVEL_STOP of ALARM class and orders the pump's stop, under
any header hold; that of a STARTING pump falls due and waits, and is made at its entry into RUNNING whatever the trip
delay then is. The shed timer of a scope in excess that reaches the shed delay: the pump latest in the duty order among
the scope's loaded ones is stopped when it is RUNNING and the header does not hold it; in STARTING the stop waits, and
a pump that alone runs while the header is held has its stop held. At a duty evaluation a scope not in excess stops its
timer and gives up its stop, one newly in excess starts its timer, and a due stop is chosen anew. The model's choices in
it: notes/assumptions/8.md, 18.md. -/
def Obligations.DutyTimersAct : Prop :=
  (∀ (s : State), s.phase = .running → s.pdc.rotationInterval ≠ 0 →
      s.pdc.rotationInterval * 3600000 ≤ s.pdc.rotationTimer →
      ∃ t v, exec .rotationTimerExpiry s = .next t ∧ t = v.settle
        ∧ t.pdc.order.toList = s.pdc.order.toList.tail ++ s.pdc.order.toList.take 1 ∧ t.pdc.rotationTimer = 0
        ∧ v = { s with
            pdc := { s.pdc with order := t.pdc.order, rotationTimer := 0, changeover := true, evaluationDue := true }
            slp := v.slp }
        ∧ (s.slp.notices.length < 32 →
            v.slp = { s.slp with
              notices := s.slp.notices ++ [⟨.status, .rotated, s.pdc.order[1].val + 1, 0,
                (s.pdc.order[0].val + 1 : Nat), 0, s.stamp⟩]
              quietMs := 0, quietOut := false })
        ∧ (s.NoDueStop → s.pdc.mode = .manual ∨ (∀ p, (s.pump p).state ≠ .stopped) → t.slp.notices = v.slp.notices)
        ∧ s.LinkFrame v ∧ v.DutyFrame (fun _ => False) t
        ∧ (s.pdc.mode = .manual → t.pdc.changeover = true ∧ t.pdc.queue = s.pdc.queue
            ∧ ∀ p, (t.pump p).state = .starting ↔ (s.pump p).state = .starting))
    ∧ (∀ (s : State) (sc : Scan), s.phase = .running → s.lau.scan = some sc → sc.next = 12 →
      ∃ t, exec .scanEvent s = .next t
        ∧ (∀ p, (t.pump p).state ≠ .starting → (t.pump p).state ≠ .running → (t.pump p).lowMargin = none)
        ∧ (∀ p, (s.pump p).state = .starting ∨ ((s.pump p).state = .running ∧ s.recoverySeconds p ≠ 0) →
            (t.pump p).state = (s.pump p).state →
            (t.pump p).lowMargin =
              if t.lau.record.margins[p] < 0 ∧ t.lau.record.wells[bayOfPump p].unknown = false then
                some ((s.pump p).lowMargin.getD ⟨0, false⟩)
              else none))
    ∧ (∀ (s : State) (p : PumpId) (m : LowPeriod) (stop : Notice), s.phase = .running → (s.pump p).lowMargin = some m →
      s.pdc.tripDelay * 1000 ≤ m.ms ∨ m.due = true →
      stop = ⟨.alarm, .lowLevelStop, p.val + 1, 0, max (-32767) (min 32767 s.lau.record.margins[p]),
        (p.val / 3 + 1 : Nat), s.stamp⟩ →
      ((s.pump p).state = .running →
          ∃ t, exec (.lowLevelStop p) s = .next t
            ∧ ((s.pump p).feedback = true → t.pump p = (s.pump p).stopOrdered .lowLevel none)
            ∧ (s.slp.notices.length < 32 → stop ∈ t.slp.notices)
            ∧ s.DutyFrame (fun x => x = p) t)
        ∧ ((s.pump p).state = .starting → s.pdc.evaluationDue = false →
            exec (.lowLevelStop p) s = .next (s.onPump p fun q => { q with lowMargin := some ⟨m.ms, true⟩ }))
        ∧ ((s.pump p).state = .starting → (s.pump p).feedback = false → (∀ pr, s.pdc.pair = some pr → pr.b ≠ p) →
            ∃ t, exec (.pfbRising p) s = .next t
              ∧ t.pump p = { (s.pump p).stopOrdered .lowLevel none with
                  feedback := true, startTimer := 0, startMark := none, runTime := 0 }
              ∧ (s.slp.notices.length < 31 → stop ∈ t.slp.notices)))
    ∧ (∀ (s : State) (k : ScopeId),
      (∀ b : BayId, k.val = b.val → s.scopeLoad k = s.bayLoad b ∧ s.scopeLimit k = some (s.ceiling b))
        ∧ (k.val = 3 → s.scopeLimit k = s.deviceLimit
            ∧ (∀ pr, s.pdc.pair = some pr → (s.pump pr.b).state = .starting → s.scopeLoad k + 1 = s.deviceLoad)
            ∧ ((∀ pr, s.pdc.pair = some pr → (s.pump pr.b).state ≠ .starting) → s.scopeLoad k = s.deviceLoad))
        ∧ (s.inExcess k = true ↔ ∃ l, s.scopeLimit k = some l ∧ l < s.scopeLoad k)
        ∧ (s.inExcess k = false → s.updateScope k = s.onScope k fun _ => ⟨none, .none⟩)
        ∧ (s.inExcess k = true → s.pdc.scopes[k] = ⟨none, .none⟩ →
            s.updateScope k = s.onScope k fun _ => ⟨some 0, .none⟩)
        ∧ (∀ ms, s.inExcess k = true → s.pdc.scopes[k] = ⟨some ms, .none⟩ → s.updateScope k = s)
        ∧ (s.inExcess k = true → s.pdc.scopes[k].due ≠ .none → s.updateScope k = s.makeDue k)
        ∧ ∀ ms, s.phase = .running → s.inExcess k = false → s.pdc.evaluationDue = false →
            s.pdc.scopes[k].timer = some ms → s.pdc.shedDelay * 1000 ≤ ms →
            exec (.shedTimerExpiry k) s = .next (s.onScope k fun _ => ⟨none, .none⟩))
    ∧ (∀ (s : State) (k : ScopeId) (ms : Nat) (p : PumpId) (before after : List PumpId), s.phase = .running →
      s.pdc.scopes[k].timer = some ms → s.pdc.shedDelay * 1000 ≤ ms → s.inExcess k = true →
      s.pdc.order.toList = before ++ p :: after → inScope k p = true →
      ((s.pump p).state = .running ∨ (s.pump p).state = .starting) →
      (∀ x ∈ after, inScope k x = true → (s.pump x).state ≠ .running ∧ (s.pump x).state ≠ .starting) →
      ∃ t, exec (.shedTimerExpiry k) s = .next t ∧ s.DutyFrame (fun x => x = p) t
        ∧ ((s.pump p).state = .running → ¬ (s.pdc.headerHeld = true ∧ s.runningNow = 1) → (s.pump p).feedback = true →
            t.pump p = (s.pump p).stopOrdered
              (if k.val = 3 then
                match s.twu.condition.cap with
                | some c => if c < s.scopeLoad k then .cap else .demand
                | none => .demand
               else .ceiling) none)
        ∧ (s.pdc.evaluationDue = false → (s.pump p).state = .starting →
            t = s.onScope k fun _ => { timer := none, due := .waiting })
        ∧ (s.pdc.evaluationDue = false → (s.pump p).state = .running → s.pdc.headerHeld = true → s.runningNow = 1 →
            t = s.onScope k fun _ => { timer := none, due := .held p }))

/-! ## Duty (Chapter 7) -/

/-- The ceiling, the target and the device limit. The add decision: with the device load below the target and no duty
start queued or in flight, the first pump of the duty order list that is STOPPED, PTRP inactive, without an entry, its
margin at the start margin or more, its well known and its bay below its ceiling; otherwise none. -/
def Obligations.TargetAndAddDecision : Prop :=
  (∀ (s : State) (b : BayId) (pumps screens : Nat),
      pumps = ((List.finRange 8).filter fun p => p.val / 3 = b.val ∧ (s.pump p).enabled = true
        ∧ (s.pump p).state ≠ .failed).length →
      screens = ((List.finRange 6).filter fun n => n.val / 2 = b.val ∧ (s.screen n).counts = true).length →
      s.ceiling b = min pumps (screens * s.pdc.pumpsPerScreen)
        ∧ (∀ n, s.target = n ↔
            n ≤ s.pdc.demand ∧ n ≤ s.ceiling 0 + s.ceiling 1 + s.ceiling 2
              ∧ (∀ c, s.twu.condition.cap = some c → n ≤ c)
              ∧ (n = s.pdc.demand ∨ n = s.ceiling 0 + s.ceiling 1 + s.ceiling 2 ∨ s.twu.condition.cap = some n))
        ∧ (s.pdc.mode = .manual → s.deviceLimit = s.twu.condition.cap)
        ∧ (s.pdc.mode = .auto → ∃ l, s.deviceLimit = some l ∧ l ≤ s.pdc.demand
            ∧ (∀ c, s.twu.condition.cap = some c → l ≤ c) ∧ (l = s.pdc.demand ∨ s.twu.condition.cap = some l)))
    ∧ (∀ (s : State) (open_ : Prop) (fit : PumpId → Prop),
      (open_ ↔ s.deviceLoad < s.target ∧ (∀ e ∈ s.pdc.queue, e.origin ≠ .duty)
        ∧ ∀ p, ¬ ((s.pump p).state = .starting ∧ (s.pump p).startOrigin = .duty)) →
      (∀ p, fit p ↔ (s.pump p).state = .stopped ∧ (s.pump p).trip = false ∧ (∀ e ∈ s.pdc.queue, e.pump ≠ p)
        ∧ (s.pdc.startMargin : Int) ≤ s.lau.record.margins[p]
        ∧ ∀ b : BayId, b.val = p.val / 3 → s.lau.record.wells[b].unknown = false ∧ s.bayLoad b < s.ceiling b) →
      (¬ open_ → s.addChoice = none)
        ∧ ((∀ p ∈ s.pdc.order.toList, ¬ fit p) → s.addChoice = none)
        ∧ ∀ before p after, open_ → s.pdc.order.toList = before ++ p :: after → fit p → (∀ x ∈ before, ¬ fit x) →
            s.addChoice = some p)

/-- SET DEMAND, SET DUTY MODE and SET DUTY ORDER: the demand clamped to 8, refused in fallback, and the one in force
changing nothing; MANUAL ends a changeover pair, drops every held stop and takes the duty starts from the start queue;
a list that is no permutation is refused, and one that is taken restarts the rotation timer and marks a changeover;
each change is followed by its duty evaluation. The model's choices in it: notes/assumptions/8.md, 14.md, 16.md. -/
def Obligations.DutyRequestsTaken : Prop :=
  (∀ (s : State) (v : Nat), s.Takes (.setDemand (.args v)) →
      (s.slp.fallback = true → exec (.setDemand (.args v)) s = .next (s.reply .inFallback []))
        ∧ (s.slp.fallback = false →
            ∃ t w, exec (.setDemand (.args v)) s =
                .next (State.reply t (if v ≤ 8 then .ok else .okAdjusted) (if v ≤ 8 then [] else encodeField .u16 (8 : Nat)))
              ∧ w = { s with pdc := { s.pdc with demand := min v 8, evaluationDue := true } }
              ∧ (min v 8 = s.pdc.demand → t = s) ∧ (min v 8 ≠ s.pdc.demand → t = w.settle)
              ∧ t.pdc.demand = min v 8 ∧ w.DutyFrame (fun _ => False) t))
    ∧ (∀ (s : State) (v : Nat), s.Takes (.setDutyMode (.args v)) →
        (1 < v → exec (.setDutyMode (.args v)) s = .next (s.reply .badArgument []))
          ∧ (v ≤ 1 → s.slp.fallback = true → exec (.setDutyMode (.args v)) s = .next (s.reply .inFallback []))
          ∧ (v ≤ 1 → s.slp.fallback = false →
              ∃ t w, exec (.setDutyMode (.args v)) s = .next (State.reply t .ok []) ∧ t = w.settle
                ∧ t.pdc.mode = (if v = 0 then .auto else .manual)
                ∧ ({ s with pdc := { s.pdc with mode := t.pdc.mode } } : State).DutyFrame (fun _ => False) t
                ∧ (t.pdc.mode = s.pdc.mode → w = s)
                ∧ (v = 0 → s.pdc.mode = .manual →
                    w = { s with pdc := { s.pdc with mode := .auto, evaluationDue := true } })
                ∧ (v = 1 → s.pdc.mode = .auto →
                    w = { s with pdc := { s.pdc with
                        mode := .manual, pair := none, queue := s.pdc.queue.filter (fun e => e.origin = .host)
                        scopes := w.pdc.scopes, evaluationDue := true } }
                      ∧ (∀ k : ScopeId, w.pdc.scopes[k] =
                          match s.pdc.scopes[k].due with
                          | .held _ => ⟨none, .none⟩
                          | .none | .waiting => s.pdc.scopes[k])
                      ∧ t.pdc.pair = none ∧ t.pdc.queue = s.pdc.queue.filter (fun e => e.origin = .host))))
    ∧ ∀ (s : State) (l : List Nat), s.Takes (.setDutyOrder (.args l)) →
        (¬ (l.length = 8 ∧ l.Nodup ∧ ∀ x ∈ l, 1 ≤ x ∧ x ≤ 8) →
            exec (.setDutyOrder (.args l)) s = .next (s.reply .badArgument []))
          ∧ (l.length = 8 ∧ l.Nodup ∧ (∀ x ∈ l, 1 ≤ x ∧ x ≤ 8) →
              ∃ t w, exec (.setDutyOrder (.args l)) s = .next (State.reply t .ok [])
                ∧ w = { s with pdc := { s.pdc with order := t.pdc.order, rotationTimer := 0, changeover := true } }
                ∧ (w.pdc = s.pdc → t = s) ∧ (w.pdc ≠ s.pdc → t = w.evaluationFollows.settle)
                ∧ t.pdc.order.toList.map (fun p => p.val + 1) = l ∧ t.pdc.rotationTimer = 0
                ∧ (s.pdc.mode = .manual → t.pdc.changeover = true) ∧ w.DutyFrame (fun _ => False) t)

/-- SET PUMP: the class listed, the elevation and the submergence clamped; a pump outside 1 to 8, a class outside its
list and a request that names no setting are refused; a changed class cuts a longer recovery timer to the new class's
time. SET PUMP TIMING: the eleven settings clamped; a new rotation interval restarts the rotation timer; in fallback a
new fallback demand replaces the demand; a request that names no setting is refused. What the new values then do is
work of the PDC. The model's choices in it: notes/assumptions/8.md, 12.md, 14.md, 16.md. -/
def Obligations.PumpSettingsTaken : Prop :=
  (∀ (s : State) (c : PumpArgs) (bad : Bool), s.Takes (.setPump (.args c)) →
      bad = (straysInt (-30000) 30000 c.inlet || strays 0 5000 c.submergence) →
      (c.pump = 0 ∨ 8 < c.pump ∨ (∃ k, c.cls = some k ∧ 1 < k) ∨ c = { pump := c.pump } →
          exec (.setPump (.args c)) s = .next (s.reply .badArgument []))
        ∧ ∀ (p : PumpId) (cls : PumpClass), c.pump = p.val + 1 → c ≠ { pump := c.pump } →
            (match c.cls with
              | none => cls = (s.pump p).cls
              | some k => (k = 0 ∧ cls = .large) ∨ (k = 1 ∧ cls = .small)) →
            ∃ (t v : State), exec (.setPump (.args c)) s =
                .next (t.reply (if bad then .okAdjusted else .ok)
                  (if bad then
                    carried [(c.cls.isSome, .u8, cls.code),
                      (c.inlet.isSome, .s16, setToInt (-30000) 30000 (s.pump p).inlet c.inlet),
                      (c.submergence.isSome, .u16, setTo 0 5000 (s.pump p).submergence c.submergence)]
                   else []))
              ∧ v = s.onPump p (fun q => { q with
                  cls := cls, inlet := setToInt (-30000) 30000 q.inlet c.inlet
                  submergence := setTo 0 5000 q.submergence c.submergence })
              ∧ v.DutyFrame (fun x => x = p) t
              ∧ (cls = (s.pump p).cls → t = v)
              ∧ (cls ≠ (s.pump p).cls → v.recoverySeconds p * 1000 < (s.pump p).recovery →
                  (s.pump p).state = .failed ∨ (s.pump p).state = .disabled
                    ∨ ((s.pump p).state = .recovering ∧ v.recoverySeconds p ≠ 0) →
                  t.pump p = { v.pump p with recovery := v.recoverySeconds p * 1000 }))
    ∧ (∀ (s v : State) (c : PumpTimingArgs) (bad : Bool), s.Takes (.setPumpTiming (.args c)) →
      v = { s with pdc := { s.pdc with
        recoveryLarge := setTo 0 3600 s.pdc.recoveryLarge c.recoveryLarge
        recoverySmall := setTo 0 3600 s.pdc.recoverySmall c.recoverySmall
        startTimeout := setTo 5 120 s.pdc.startTimeout c.startTimeout
        stopTimeout := setTo 5 300 s.pdc.stopTimeout c.stopTimeout
        startSpacing := setTo 2 60 s.pdc.startSpacing c.startSpacing
        startMargin := setTo 0 3000 s.pdc.startMargin c.startMargin
        tripDelay := setTo 5 120 s.pdc.tripDelay c.tripDelay
        shedDelay := setTo 5 300 s.pdc.shedDelay c.shedDelay
        pumpsPerScreen := setTo 1 4 s.pdc.pumpsPerScreen c.pumpsPerScreen
        rotationInterval := setTo 0 720 s.pdc.rotationInterval c.rotationInterval
        fallbackDemand := setTo 0 8 s.pdc.fallbackDemand c.fallbackDemand } } →
      bad = (strays 0 3600 c.recoveryLarge || strays 0 3600 c.recoverySmall || strays 5 120 c.startTimeout
        || strays 5 300 c.stopTimeout || strays 2 60 c.startSpacing || strays 0 3000 c.startMargin
        || strays 5 120 c.tripDelay || strays 5 300 c.shedDelay || strays 1 4 c.pumpsPerScreen
        || strays 0 720 c.rotationInterval || strays 0 8 c.fallbackDemand) →
      (c = {} → exec (.setPumpTiming (.args c)) s = .next (s.reply .badArgument []))
        ∧ (c ≠ {} →
            ∃ (t : State) (data : List Byte), exec (.setPumpTiming (.args c)) s =
                .next (t.reply (if bad then .okAdjusted else .ok) data)
              ∧ (bad = false → data = [])
              ∧ t.sectionValues 8 0 = v.sectionValues 8 0
              ∧ (∀ x i, x ≠ 11 → t.sectionValues x i = v.sectionValues x i)
              ∧ t.pdc.rotationTimer =
                  (if v.pdc.rotationInterval = s.pdc.rotationInterval then s.pdc.rotationTimer else 0)
              ∧ t.pdc.demand =
                  (if s.slp.fallback = true ∧ v.pdc.fallbackDemand ≠ s.pdc.fallbackDemand then v.pdc.fallbackDemand
                   else s.pdc.demand)
              ∧ t.pdc.mode = s.pdc.mode ∧ t.pdc.order = s.pdc.order ∧ t.twu = s.twu ∧ t.lau = s.lau ∧ t.phase = s.phase
              ∧ s.GrantFrame t ∧ s.LinkFrame t))

/-- ENABLE PUMP, DISABLE PUMP, CLEAR PUMP and RESET HOURS, by the pump's state; a pump outside 1 to 8 is refused. The
model's choices in it: notes/assumptions/8.md. -/
def Obligations.PumpCommandsActAtOnce : Prop :=
  ∀ (s : State) (v : Nat) (p : PumpId),
    (∀ i, i ∈ [Instr.enablePump (.args v), .disablePump (.args v), .clearPump (.args v), .resetHours (.args v)] →
        s.Takes i → v = 0 ∨ 8 < v → exec i s = .next (s.reply .badArgument []))
      ∧ (v = p.val + 1 → s.Takes (.resetHours (.args v)) →
          exec (.resetHours (.args v)) s = .next ((s.onPump p fun q => { q with runMs := 0, starts := 0 }).reply .ok []))
      ∧ (v = p.val + 1 → s.Takes (.enablePump (.args v)) →
          ((s.pump p).state ≠ .disabled → exec (.enablePump (.args v)) s = .next (s.reply .ok []))
            ∧ ((s.pump p).state = .disabled →
                ∃ t : State, exec (.enablePump (.args v)) s = .next (t.reply .ok [])
                  ∧ (t.pump p).enabled = true
                  ∧ ((s.pump p).recovery ≠ 0 → t.pump p = { s.pump p with
                      enabled := true, state := .recovering, run := false, lowMargin := none })
                  ∧ (s.onPump p fun q => { q with enabled := true }).DutyFrame (fun x => x = p) t))
      ∧ (v = p.val + 1 → s.Takes (.disablePump (.args v)) →
          ((s.pump p).state = .disabled → exec (.disablePump (.args v)) s = .next (s.reply .ok []))
            ∧ ((s.pump p).state = .starting ∨ (s.pump p).state = .running ∨ (s.pump p).state = .stopping →
                exec (.disablePump (.args v)) s = .next (s.reply .state []))
            ∧ ((s.pump p).state = .recovering ∨ (s.pump p).state = .stopped ∨ (s.pump p).state = .failed →
                ∃ t : State, exec (.disablePump (.args v)) s = .next (t.reply .ok [])
                  ∧ t.pump p = { s.pump p with enabled := false, state := .disabled, run := false, lowMargin := none }
                  ∧ (∀ e ∈ t.pdc.queue, e.pump ≠ p)
                  ∧ (∀ e m i, s.StartsDiffer → e ∈ s.pdc.queue → e.pump = p → e.mark = some m → s.Follows m i →
                      s.slp.fallback = false → s.DoneWith t i 2 1)
                  ∧ (s.onPump p fun q => { q with enabled := false }).DutyFrame (fun x => x = p) t))
      ∧ (v = p.val + 1 → s.Takes (.clearPump (.args v)) →
          ((s.pump p).state ≠ .failed ∨ (s.pump p).trip = true →
              exec (.clearPump (.args v)) s = .next (s.reply .state []))
            ∧ ((s.pump p).state = .failed → (s.pump p).trip = false →
                ∃ t : State, exec (.clearPump (.args v)) s = .next (t.reply .ok [])
                  ∧ ((s.pump p).recovery ≠ 0 →
                      t.pump p = { s.pump p with state := .recovering, run := false, lowMargin := none })
                  ∧ ((s.pump p).recovery = 0 → s.pdc.mode = .manual →
                      t.pump p = { s.pump p with state := .stopped, run := false, lowMargin := none })
                  ∧ s.DutyFrame (fun x => x = p) t))

/-! ## The supervisory link (Chapters 8 to 10) -/

/-- The reply to the oldest held request: its KIND plus 0x80 and its TAG, the status byte of the part as it stands, the
code and the data; it is sent, or waits for the transmitter; LINK_ERROR is cleared; nothing else changes. Its frame on
the line: the start byte, LEN, KIND, TAG, the status byte, the code byte, the data, and the CRC, high byte first. -/
def Obligations.ReplyIsFormedAndSent : Prop :=
  (∀ (s : State) (r : Request) (rest : List Request) (code : Code) (data : List Byte),
    s.slp.requests = r :: rest →
    ∃ status : Byte,
      s.SameBlocks (s.reply code data) ∧ s.Sends (s.reply code data) ⟨r.kind + 0x80#8, r.tag, status, code, data⟩
        ∧ status.getLsbD 0 = decide (s.slp.notices ≠ []) ∧ status.getLsbD 1 = s.slp.fallback
        ∧ status.getLsbD 2 = s.slp.linkError ∧ status.getLsbD 3 = s.slp.configDefaults
        ∧ status.getLsbD 4 = !s.slp.timeSet ∧ status.getLsbD 5 = decide (s.phase = .loading)
        ∧ status.getLsbD 6 = false ∧ status.getLsbD 7 = false)
    ∧ ∀ (r : Reply) (code : Byte) (covered : List Byte), code = BitVec.ofNat 8 r.code.code →
        covered = BitVec.ofNat 8 (r.data.length + 2) :: r.kind :: r.tag :: r.status :: code :: r.data →
        (Transmitter.reply r).line = 0xA5#8 :: covered
          ++ [(crc16 covered).extractLsb' 8 8, (crc16 covered).extractLsb' 0 8]

/-- The model's choice (notes/assumptions/2.md): a request row whose request is not the oldest held is the arrival of a
good frame of tag 0; with none held and no reply outstanding it is then taken at once. An arrival restarts the supervision
timer, and holds the request, or with two held drops it and sets LINK_ERROR (R162, R189). -/
def Obligations.RequestArrives : Prop :=
  ∀ (s : State) (i : Instr) (k : Byte) (bs : List Byte) (v : Slp), encodeRequest i = some (k, bs) → s.phase = .running →
    v = (if s.slp.supervision = 0 then s.slp else { s.slp with supervisionMs := 0, supervising := true }) →
    (s.arrive i).slp =
        (if s.slp.requests.length < 2 then { v with requests := s.slp.requests ++ [⟨k, 0x00#8, i⟩] }
         else { v with linkError := true })
      ∧ s.SameBlocks (s.arrive i)
      ∧ (s.slp.replyOutstanding = true → exec i s = .next (s.arrive i))
      ∧ (∀ r rest, s.slp.requests = r :: rest → r.command ≠ i → exec i s = .next (s.arrive i))
      ∧ (s.slp.requests = [] → s.slp.replyOutstanding = false →
          (s.arrive i).Takes i ∧ exec i s = exec i (s.arrive i))

/-- While the part is in LOADING every request but GET STATUS is answered RETRY_LATER, and GET STATUS gives the link
figures; no state changes. A KIND that names no request is answered UNKNOWN_KIND, and a payload whose length or form
does not match its kind BAD_ARGUMENT, whatever else would refuse the request; no state changes. In fallback SET
DEMAND, SET DUTY MODE, START PUMP, STOP PUMP, WASH SCREEN, SET SERVICE and STOP WASH, past their structural refusals,
are refused with IN_FALLBACK; no state changes. The model's choices in it: notes/assumptions/14.md. -/
def Obligations.RefusalsInOrder : Prop :=
  (∀ (s : State) (r : Request) (rest : List Request), s.phase = .loading → s.slp.replyOutstanding = false →
      s.slp.requests = r :: rest → (encodeRequest r.command).isSome = true →
      ((∀ a, r.command ≠ .getStatus a) → exec r.command s = .next (s.reply .retryLater []))
        ∧ (r.command = .getStatus (.args ()) →
            exec r.command s = .next (s.reply .ok (encodeFields [(.u8, s.slp.rateInForce),
              (.u16, s.slp.requests.length), (.u16, s.slp.notices.length),
              (.u16, ((List.finRange 4).filter fun i => s.slp.slots[i].isSome).length)]))))
    ∧ (∀ (s : State) (i : Instr), s.Takes i →
      (∀ k, i = .unknownKind k → exec i s = .next (s.reply .unknownKind []))
        ∧ (i ∈ [Instr.getStatus .mismatch, .getLevels .mismatch, .getTideSummary .mismatch, .getTidePoints .mismatch,
              .getCondition .mismatch, .getScreen .mismatch, .getPump .mismatch, .getNotices .mismatch,
              .getConfig .mismatch, .setChannel .mismatch, .setDensity .mismatch, .setScan .mismatch, .setSea .mismatch,
              .setTrend .mismatch, .setBandEntry .mismatch, .setBandReminder .mismatch, .setScreen .mismatch,
              .setWashTiming .mismatch, .setPump .mismatch, .setPumpTiming .mismatch, .setDutyOrder .mismatch,
              .setDutyMode .mismatch, .setDemand .mismatch, .setLink .mismatch, .setClockAbsolute .mismatch,
              .setClockStep .mismatch, .tidePoints .mismatch, .tideCommitNow .mismatch, .tideSeal .mismatch,
              .tideClear .mismatch, .stopWash .mismatch, .clearScreen .mismatch, .setService .mismatch,
              .enablePump .mismatch, .disablePump .mismatch, .clearPump .mismatch, .resetHours .mismatch,
              .ackBand .mismatch, .resume .mismatch, .softResetLink .mismatch, .softResetFull .mismatch,
              .washScreen .mismatch, .startPump .mismatch, .stopPump .mismatch, .saveConfig .mismatch] →
            exec i s = .next (s.reply .badArgument [])))
    ∧ (∀ (s : State) (i : Instr) (p : PumpId) (n : ScreenId) (v : Nat), s.Takes i → s.slp.fallback = true →
      (i = .setDemand (.args v) ∨ (v ≤ 1 ∧ i = .setDutyMode (.args v)) ∨ i = .startPump (.args (p.val + 1))
        ∨ (v ≤ 1 ∧ i = .stopPump (.args (p.val + 1, v))) ∨ i = .washScreen (.args (n.val + 1, v))
        ∨ (v ≤ 1 ∧ i = .setService (.args (n.val + 1, v))) ∨ i = .stopWash (.args (n.val + 1))) →
      exec i s = .next (s.reply .inFallback []))

/-- The GET requests are answered OK with the state they report, field by field, and change nothing; a part, bank,
index, screen, pump or section outside its range is refused with BAD_ARGUMENT. The model's choices in it:
notes/assumptions/14.md, 15.md, 27.md. -/
def Obligations.GetRequestsReport : Prop :=
  ∀ s : State,
    (s.Takes (.getStatus (.args ())) → ∀ (held : List PumpId) (limit : Nat) (purgeMs : Option Nat),
        held = (List.finRange 8).filter s.heldByHeader → limit = s.deviceLimit.getD 255 →
        purgeMs = (match s.swc.purge with
          | .idle => none
          | .pending => some s.swc.pendingMs
          | .active => some s.swc.activeMs) →
        (∀ p, s.heldByHeader p = true ↔ ∃ k : ScopeId, s.pdc.scopes[k].due = .held p)
          ∧ exec (.getStatus (.args ())) s = .next (s.reply .ok
            (encodeFields [(.u32, s.slp.time), (.u16, s.pdc.demand), (.u8, s.pdc.mode.code), (.u16, s.ceiling 0),
                (.u16, s.ceiling 1), (.u16, s.ceiling 2), (.u16, s.target), (.u8, limit)]
              ++ (List.finRange 4).flatMap (fun k : ScopeId =>
                  group (fun ms => encodeField .u16 (secs ms)) s.pdc.scopes[k].timer
                    ++ encodeField .u8 (match s.pdc.scopes[k].due with | .none => 0 | .waiting => 1 | .held _ => 2))
              ++ encodeField .u8 (flag s.pdc.changeover)
              ++ group (fun pr => encodeFields [(.u8, pr.b.val + 1), (.u8, pr.w.val + 1)]) s.pdc.pair
              ++ encodeField .u8 held.length ++ held.flatMap (fun p => encodeField .u8 (p.val + 1 : Nat))
              ++ encodeField .u8 s.swc.queue.length
              ++ s.swc.queue.flatMap (fun e => encodeFields [(.u8, e.screen.val + 1), (.u8, e.cls.code), (.u16, e.passes),
                  (.u8, flag e.mark.isSome), (.u16, secs e.ageMs)])
              ++ encodeField .u8 s.swc.purge.code ++ group (fun ms => encodeField .u16 (secs ms)) purgeMs
              ++ encodeFields [(.u8, flag s.swc.overdue), (.u8, flag s.swc.sluicing)]
              ++ (if s.swc.sluicing then 0x01#8 :: encodeField .u16 (secs s.swc.sluiceMs) else [0x00#8])
              ++ encodeField .u8 s.pdc.queue.length
              ++ s.pdc.queue.flatMap (fun e => encodeFields [(.u8, e.pump.val + 1), (.u8, e.origin.code),
                  (.u8, flag e.mark.isSome), (.u16, secs e.ageMs)])
              ++ encodeFields [(.u16, s.runningNow), (.u8, s.slp.rateInForce), (.u16, s.slp.requests.length),
                  (.u16, s.slp.notices.length)]
              ++ (List.finRange 4).flatMap (fun i : SlotId =>
                  group (fun sl => encodeFields [(.u8, sl.kind.code), (.u8, sl.target.number),
                    (.u8, if sl.state = .inProgress then 0 else 1)]) s.slp.slots[i]))))
      ∧ (∀ part, s.Takes (.getLevels (.args part)) →
          (2 < part → exec (.getLevels (.args part)) s = .next (s.reply .badArgument []))
            ∧ (part ≤ 1 → exec (.getLevels (.args part)) s = .next (s.reply .ok
                (((List.finRange 12).filter fun c => 6 * part ≤ c.val ∧ c.val < 6 * part + 6).flatMap
                    (fun c : ChannelId => encodeFields [(.s16, s.lau.record.channels[c].level),
                      (.u8, s.lau.record.channels[c].health.code), (.u8, flag s.lau.record.channels[c].clamped),
                      (.u16, s.lau.channels[c].raw), (.u8, flag s.lau.channels[c].awaiting),
                      (.u8, flag s.lau.channels[c].seeded), (.u16, min (s.lau.channels[c].ageMs / 1000) 65535)])
                  ++ encodeField .u16 s.lau.record.scan)))
            ∧ (part = 2 → exec (.getLevels (.args part)) s = .next (s.reply .ok
                (encodeFields [(.s16, s.lau.record.sea), (.u8, s.lau.record.cls.code), (.u8, flag s.lau.record.stale),
                    (.u8, flag s.lau.record.voted)]
                  ++ (List.finRange 6).flatMap (fun n : ScreenId => encodeFields
                      [(.s16, max (-32767) (min 32767 s.lau.record.heads[n].loss)),
                        (.u8, flag s.lau.record.heads[n].unknown)])
                  ++ (List.finRange 3).flatMap (fun b : BayId => encodeFields
                      [(.s16, s.lau.record.wells[b].level), (.u8, flag s.lau.record.wells[b].unknown)])
                  ++ (List.finRange 8).flatMap (fun p : PumpId =>
                      encodeField .s16 (max (-32767) (min 32767 s.lau.record.margins[p])))
                  ++ (if s.lau.record.cls = .lost then 0x01#8 :: encodeField .u16 (secs s.lau.lostMs) else [0x00#8])
                  ++ encodeField .u16 s.lau.record.scan))))
      ∧ (s.Takes (.getTideSummary (.args ())) → ∀ point : TidePoint → List Byte,
          (∀ p, point p = encodeField .u32 p.time ++ encodeField .s16 p.level) →
          exec (.getTideSummary (.args ())) s = .next (s.reply .ok
            (encodeFields [(.u16, s.twu.trendInterval), (.u16, s.twu.ring.length)]
              ++ group point s.twu.ring.head? ++ group point s.twu.ring.getLast?
              ++ encodeFields [(.s16, s.twu.rate.getD (-32768)), (.s16, s.twu.prediction.getD (-32768)),
                  (.s16, s.twu.residual.getD (-32768)), (.u16, s.twu.formedScan), (.u32, s.twu.formedTime)]
              ++ (List.finRange 2).flatMap fun b : BankId =>
                  encodeFields [(.u8, b.val + 1), (.u8, if b = s.twu.loading then 0 else 1),
                      (.u8, s.twu.banks[b].state.code), (.u16, s.twu.banks[b].points.length)]
                    ++ group point s.twu.banks[b].points.head? ++ group point s.twu.banks[b].points.getLast?)))
      ∧ (∀ b x, s.Takes (.getTidePoints (.args (b, x))) →
          (b = 0 ∨ 2 < b → exec (.getTidePoints (.args (b, x))) s = .next (s.reply .badArgument []))
            ∧ ∀ n : BankId, b = n.val + 1 →
                (s.twu.banks[n].points.length ≤ x →
                    exec (.getTidePoints (.args (b, x))) s = .next (s.reply .badArgument []))
                  ∧ (x < s.twu.banks[n].points.length →
                      exec (.getTidePoints (.args (b, x))) s = .next (s.reply .ok
                        (encodeField .u8 (min 8 (s.twu.banks[n].points.length - x) : Nat)
                          ++ ((s.twu.banks[n].points.drop x).take 8).flatMap (fun p =>
                              encodeField .u32 p.time ++ encodeField .s16 p.level)
                          ++ encodeFields [(.u8, s.twu.banks[n].state.code),
                              (.u16, s.twu.banks[n].points.length)]))))
      ∧ (s.Takes (.getCondition (.args ())) → exec (.getCondition (.args ())) s = .next (s.reply .ok
          (encodeFields [(.u8, (match s.twu.condition.claims.level with | some b => b.val + 1 | none => 0)),
              (.u8, (match s.twu.condition.claims.residual with | some b => b.val + 1 | none => 0)),
              (.u8, (match s.twu.condition.claims.rate with | some b => b.val + 1 | none => 0)),
              (.u8, (match s.twu.condition.cap with | some c => c | none => 255)),
              (.u8, s.twu.condition.mode.code), (.u16, s.twu.condition.number), (.s16, s.twu.handed.level.getD (-32768)),
              (.s16, s.twu.handed.residual.getD (-32768)), (.s16, s.twu.handed.rate.getD (-32768))]
            ++ (List.finRange 8).flatMap (fun b : BandId => encodeFields
                [(.u8, flag s.twu.bands[b].latched), (.u16, s.twu.bands[b].reminders),
                  (.u8, if s.twu.claims.level = some b then 0 else if s.twu.claims.residual = some b then 1
                    else if s.twu.claims.rate = some b then 2 else 255)])
            ++ encodeField .u16 s.twu.reminderInterval)))
      ∧ (∀ v, s.Takes (.getScreen (.args v)) →
          (v = 0 ∨ 6 < v → exec (.getScreen (.args v)) s = .next (s.reply .badArgument []))
            ∧ ∀ (n : ScreenId) (wash : Option WashRecord) (result : WashResult → List Byte) (entry : Option QueueEntry),
                v = n.val + 1 →
                wash = (if (s.screen n).state = .washing ∨ (s.screen n).state = .finishing then (s.screen n).wash else none) →
                (∀ r, result r = encodeFields [(.u8, r.outcome.code), (.u16, r.passes), (.u16, r.done),
                  (.u8, flag r.doubleIndex), (.u8, r.origin.code), (.u8, flag r.mark.isSome), (.u32, r.endedAt),
                  (.u8, flag r.pending)]) →
                entry = (s.swc.queue.filter fun e => e.screen = n).head? →
                ∃ ready settled : Bool, exec (.getScreen (.args v)) s = .next (s.reply .ok
                    (encodeFields [(.u8, (s.screen n).state.code), (.u8, flag (s.screen n).inService), (.u8, flag ready),
                        (.u8, flag settled), (.u8, flag (s.screen n).jam), (.u8, flag s.swc.hdok)]
                      ++ group (fun w => encodeFields [(.u16, w.passes), (.u8, w.cls.code), (.u8, flag w.mark.isSome),
                          (.u16, w.counter), (.u16, (w.accepted - 1 : Nat)), (.u8, flag w.doubleIndex),
                          (.u16, secs w.passTimer)]) wash
                      ++ group (fun g => encodeFields [(.u16, g.passes), (.u8, g.cls.code), (.u8, flag g.mark.isSome)])
                          (s.screen n).staged
                      ++ group result (s.screen n).current ++ group result (s.screen n).previous
                      ++ encodeFields [(.u16, secs (s.screen n).sinceEnd),
                          (.s16, max (-32767) (min 32767 s.lau.record.heads[n].loss)),
                          (.u8, flag s.lau.record.heads[n].unknown), (.u8, flag (s.screen n).counts)]
                      ++ group (fun e => encodeFields [(.u8, n.val + 1), (.u8, e.cls.code), (.u16, e.passes),
                          (.u8, flag e.mark.isSome), (.u16, secs e.ageMs)]) entry))
                  ∧ (ready = true ↔ (s.screen n).state = .idle ∨ (s.screen n).state = .queued
                      ∨ (((s.screen n).state = .washing ∨ (s.screen n).state = .finishing)
                        ∧ (s.screen n).staged = none))
                  ∧ (settled = true ↔ (∀ r, (s.screen n).current = some r → r.pending = false)
                      ∧ ∀ r, (s.screen n).previous = some r → r.pending = false))
      ∧ (∀ v, s.Takes (.getPump (.args v)) →
          (v = 0 ∨ 8 < v → exec (.getPump (.args v)) s = .next (s.reply .badArgument []))
            ∧ ∀ p : PumpId, v = p.val + 1 → ∃ place waits : Nat, exec (.getPump (.args v)) s = .next (s.reply .ok
                (encodeFields [(.u8, (s.pump p).state.code), (.u8, flag (s.pump p).enabled), (.u8, (s.pump p).cls.code),
                    (.s16, (s.pump p).inlet), (.u16, (s.pump p).submergence), (.u8, flag (s.pump p).run),
                    (.u8, flag (s.pump p).feedback), (.u8, flag (s.pump p).trip),
                    (.u16, ((s.pump p).recovery + 999) / 1000)]
                  ++ (if (s.pump p).state = .starting then 0x01#8 :: encodeField .u16 (secs (s.pump p).startTimer)
                      else [0x00#8])
                  ++ (if (s.pump p).state = .stopping then 0x01#8 :: encodeField .u16 (secs (s.pump p).stopTimer)
                      else [0x00#8])
                  ++ encodeFields [(.u8, (s.pump p).cause.code),
                      (.u8, (match (s.pump p).stopOrigin with | some o => o.code | none => 255)),
                      (.u32, ((s.pump p).runMs / 1000 : Nat)), (.u16, (s.pump p).starts), (.u8, place), (.u8, waits),
                      (.u8, flag (s.heldByHeader p)), (.s16, max (-32767) (min 32767 s.lau.record.margins[p])),
                      (.u8, flag s.lau.record.wells[bayOfPump p].unknown)]))
              ∧ (∀ before after, s.pdc.order.toList = before ++ p :: after → p ∉ before → place = before.length + 1)
              ∧ (∀ before e after, s.pdc.queue = before ++ e :: after → e.pump = p → (∀ x ∈ before, x.pump ≠ p) →
                  waits = before.length + 1)
              ∧ ((∀ e ∈ s.pdc.queue, e.pump ≠ p) → waits = 0))
      ∧ ∀ x i, s.Takes (.getConfig (.args (x, i))) →
          (10 < x ∨ i ∉ sectionIndices x → exec (.getConfig (.args (x, i))) s = .next (s.reply .badArgument []))
            ∧ (x ≤ 10 → i ∈ sectionIndices x → exec (.getConfig (.args (x, i))) s =
                .next (s.reply .ok (encodeFields ((sectionWidths x).zip (s.sectionValues x i)))))

/-- Notices: a queue with room takes one at its end, restarting the quiet time; a full one drops a STATUS or
COMPLETION notice, and for an ALARM or FAULT displaces its newest STATUS notice, or with none its newest COMPLETION
notice, or drops the new one; each loss sets OVERRUN. Delivery takes up to six by class, the oldest of a class first.
A notice batch is due while the queue is not empty and it holds an ALARM or FAULT notice, or as many notices as the
threshold in force (1 in fallback), or its quiet time has run out. With the transmitter free and no reply waiting it
is formed of up to six notices, OVERRUN carried and cleared and the quiet time restarted. Its frame on the line has
KIND 0xF0, TAG 0, the status byte, the batch header byte and 12 bytes for each notice. The model's choices in it:
notes/assumptions/7.md. -/
def Obligations.NoticesAndBatches : Prop :=
  (∀ (status header : Byte) (ns : List Notice) (records covered : List Byte),
      records = ns.flatMap (fun n => encodeFields [(.u8, n.cls.code), (.u8, n.kind.code), (.u8, n.subject), (.u8, n.flags),
        (.u32, n.time), (.s16, n.value1), (.s16, n.value2)]) →
      covered = BitVec.ofNat 8 (12 * ns.length + 2) :: 0xF0#8 :: 0x00#8 :: status :: header :: records →
      (Transmitter.batch status header ns).line = 0xA5#8 :: covered
        ++ [(crc16 covered).extractLsb' 8 8, (crc16 covered).extractLsb' 0 8])
    ∧ ((∀ (l : Slp) (n : Notice),
        (l.notices.length < 32 →
            l.enqueue n = { l with notices := l.notices ++ [n], quietMs := 0, quietOut := false })
          ∧ (32 ≤ l.notices.length → n.cls = .status ∨ n.cls = .completion →
              l.enqueue n = { l with overrun := true })
          ∧ (32 ≤ l.notices.length → n.cls = .alarm ∨ n.cls = .fault →
              (∀ before x after, l.notices = before ++ x :: after → x.cls = .status →
                  (∀ y ∈ after, y.cls ≠ .status) →
                  l.enqueue n = { l with
                    notices := before ++ after ++ [n], quietMs := 0, quietOut := false, overrun := true })
                ∧ (∀ before x after, l.notices = before ++ x :: after → x.cls = .completion →
                    (∀ y ∈ l.notices, y.cls ≠ .status) → (∀ y ∈ after, y.cls ≠ .completion) →
                    l.enqueue n = { l with
                      notices := before ++ after ++ [n], quietMs := 0, quietOut := false, overrun := true })
                ∧ ((∀ y ∈ l.notices, y.cls = .alarm ∨ y.cls = .fault) → l.enqueue n = { l with overrun := true })))
      ∧ (∀ q : List Notice,
          (deliver 6 q).1 =
              ((q.filter fun n => n.cls = .alarm) ++ (q.filter fun n => n.cls = .fault)
                ++ (q.filter fun n => n.cls = .completion) ++ (q.filter fun n => n.cls = .status)).take 6
            ∧ (deliver 6 q).2.Sublist q ∧ ((deliver 6 q).1 ++ (deliver 6 q).2).Perm q)
      ∧ (∀ s : State, s.Takes (.getNotices (.args ())) →
          ∃ t : State, exec (.getNotices (.args ())) s = .next (t.reply .ok
              (BitVec.ofNat 8 ((deliver 6 s.slp.notices).1.length + if s.slp.overrun then 128 else 0)
                :: (deliver 6 s.slp.notices).1.flatMap fun n => encodeFields [(.u8, n.cls.code), (.u8, n.kind.code),
                    (.u8, n.subject), (.u8, n.flags), (.u32, n.time), (.s16, n.value1), (.s16, n.value2)]))
            ∧ s.SameBlocks t ∧ t.slp.notices = (deliver 6 s.slp.notices).2 ∧ t.slp.overrun = false
            ∧ t.slp = { s.slp with
                notices := t.slp.notices, overrun := false, quietMs := t.slp.quietMs, quietOut := t.slp.quietOut }
            ∧ (s.slp.notices ≠ [] → t.slp.quietMs = 0 ∧ t.slp.quietOut = false)
            ∧ (s.slp.notices = [] → t.slp.quietMs = s.slp.quietMs ∧ t.slp.quietOut = s.slp.quietOut)))
    ∧ ((∀ (s : State) (due : Prop), s.phase = .running →
        (due ↔ s.slp.notices ≠ [] ∧ ((∃ n ∈ s.slp.notices, n.cls = .alarm ∨ n.cls = .fault)
          ∨ (if s.slp.fallback then 1 else s.slp.threshold) ≤ s.slp.notices.length ∨ s.slp.quietOut = true)) →
        (¬ due ∨ s.slp.tx ≠ .free ∨ s.slp.waiting ≠ none → exec .noticeBatch s = .next s)
          ∧ (due → s.slp.tx = .free → s.slp.waiting = none →
              ∃ t status, exec .noticeBatch s = .next t ∧ s.SameBlocks t
                ∧ t.slp = { s.slp with
                    notices := (deliver 6 s.slp.notices).2, overrun := false, quietMs := 0, quietOut := false
                    tx := .batch status (BitVec.ofNat 8 ((deliver 6 s.slp.notices).1.length
                      + if s.slp.overrun then 128 else 0)) (deliver 6 s.slp.notices).1 }
                ∧ status.getLsbD 0 = decide (t.slp.notices ≠ [])))
      ∧ ∀ s : State, s.phase = .running → s.slp.notices ≠ [] → s.slp.quietOut = false →
          (s.slp.batchTimeout * 100 ≤ s.slp.quietMs → fourFrames s.slp.rateInForce ≤ 4 * s.slp.quietMs →
              exec .quietTimeExpiry s = .next { s with slp := { s.slp with quietOut := true } })
            ∧ (s.slp.quietMs < s.slp.batchTimeout * 100 → exec .quietTimeExpiry s = .next s))

/-- The receiver: a start byte starts a frame; the last byte of a frame with a matching CRC hands it on and one with a
mismatch sets LINK_ERROR, as do a framing error, a gap and a LEN above 120; in each case the receiver hunts again. A
good frame of KIND 0x80 or above is dropped with LINK_ERROR; any other is a request, held when fewer than two are held
and dropped with LINK_ERROR otherwise; either restarts the supervision timer. The model's choices in it:
notes/assumptions/7.md, 23.md. -/
def Obligations.FramesReceived : Prop :=
  ∀ (s : State) (f : Frame) (v bad : Slp), s.phase = .running →
    v = { (if s.slp.supervision = 0 then s.slp else { s.slp with supervisionMs := 0, supervising := true }) with
      receiver := .hunting } →
    bad = { s.slp with receiver := .hunting, linkError := true } →
    exec .frameStart s = .next { s with slp := { s.slp with receiver := .collecting } }
      ∧ exec .framingError s = .next { s with slp := bad }
      ∧ (s.slp.receiver = .collecting →
          exec .rxGapTimeout s = .next { s with slp := bad } ∧ exec .lenAbove120 s = .next { s with slp := bad }
            ∧ (crc16 (BitVec.ofNat 8 f.payload.length :: f.kind :: f.tag :: f.payload) ≠ f.crc →
                exec (.frameReceived f) s = .next { s with slp := bad })
            ∧ (crc16 (BitVec.ofNat 8 f.payload.length :: f.kind :: f.tag :: f.payload) = f.crc →
                (0x80 ≤ f.kind.toNat → exec (.frameReceived f) s = .next { s with slp := { v with linkError := true } })
                  ∧ (f.kind.toNat < 0x80 → s.slp.requests.length < 2 →
                      exec (.frameReceived f) s = .next { s with slp := { v with
                        requests := s.slp.requests ++ [⟨f.kind, f.tag, decodeRequest f.kind f.payload⟩] } })
                  ∧ (f.kind.toNat < 0x80 → 2 ≤ s.slp.requests.length →
                      exec (.frameReceived f) s = .next { s with slp := { v with linkError := true } })))

/-- The transmitter: when the last byte of a reply or a batch has been sent, the reply that waits is begun, else, when
one is due, a batch, of up to six notices; a batch is due while an ALARM or FAULT notice is queued, or as many notices
as the threshold in force, or notices whose quiet time has run out. After a reply its request has left the buffer, no
batch is begun while another request is held, a rate that waited is in force, and after the reply to SOFT RESET FULL
start-up begins. The model's choices in it: notes/assumptions/7.md, 22.md. -/
def Obligations.TransmitterGoesOn : Prop :=
  ∀ (s : State) (due : Prop),
    (due ↔ s.phase = .running ∧ s.slp.notices ≠ [] ∧ ((∃ n ∈ s.slp.notices, n.cls = .alarm ∨ n.cls = .fault)
      ∨ (if s.slp.fallback then 1 else s.slp.threshold) ≤ s.slp.notices.length ∨ s.slp.quietOut = true)) →
    (∀ (strap : Bool) (r : Reply), s.slp.tx = .reply r →
        (s.slp.fullReset = true →
            ∃ t, exec (.replySent strap) s = .next t ∧ t.phase = .loading ∧ t.AtStartUp ∧ t.slp.fromImage = strap
              ∧ t.slp.requests = [] ∧ t.slp.save = s.slp.save ∧ t.slp.memory = s.slp.memory)
          ∧ (s.slp.fullReset = false → s.slp.nextRate = none →
              (∀ w, s.slp.waiting = some w →
                  exec (.replySent strap) s = .next { s with slp := { s.slp with
                    requests := s.slp.requests.drop 1, tx := .reply w, waiting := none } })
                ∧ (s.slp.waiting = none → ¬ due ∨ 2 ≤ s.slp.requests.length →
                    exec (.replySent strap) s = .next { s with slp := { s.slp with
                      requests := s.slp.requests.drop 1, tx := .free } })
                ∧ (s.slp.waiting = none → due → s.slp.requests.length ≤ 1 →
                    ∃ t, exec (.replySent strap) s = .next t
                      ∧ s.BeginsBatch { s.slp with requests := s.slp.requests.drop 1 } t))
          ∧ (∀ k, s.slp.fullReset = false → s.slp.nextRate = some k →
              ∃ t, exec (.replySent strap) s = .next t ∧ t.slp.rateInForce = k ∧ t.slp.nextRate = none
                ∧ t.slp.requests = s.slp.requests.drop 1 ∧ s.SameBlocks t
                ∧ (∀ w, s.slp.waiting = some w → t.slp.tx = .reply w)
                ∧ (s.slp.waiting = none → s.slp.notices = [] → t.slp.tx = .free)))
      ∧ (∀ strap : Bool, (∀ r, s.slp.tx ≠ .reply r) → exec (.replySent strap) s = .next s)
      ∧ (∀ (a b : Byte) (ns : List Notice), s.slp.tx = .batch a b ns →
          (∀ w, s.slp.waiting = some w →
              exec .batchSent s = .next { s with slp := { s.slp with tx := .reply w, waiting := none } })
            ∧ (s.slp.waiting = none → ¬ due → exec .batchSent s = .next { s with slp := { s.slp with tx := .free } })
            ∧ (s.slp.waiting = none → due → ∃ t, exec .batchSent s = .next t ∧ s.BeginsBatch s.slp t))
      ∧ ((∀ a b ns, s.slp.tx ≠ .batch a b ns) → exec .batchSent s = .next s)

/-- SET LINK: a rate code above 4 and a threshold outside its list are refused, the times clamped; a rate other than
the one in force waits for the last byte of the reply; a new supervision time restarts the timer, or stops it when 0;
a request that names no setting is refused. SOFT RESET LINK empties the notice queue and the slots, clears LINK_ERROR
and OVERRUN and discards the other request held, and leaves the blocks, the settings, the rate, the intake time, the
supervision timer and fallback; SOFT RESET FULL leaves start-up to the last byte of its reply; RESUME ends fallback
and leaves the duty mode and the demand. The model's choices in it: notes/assumptions/12.md, 14.md, 16.md, 23.md. -/
def Obligations.LinkSettingsAndResets : Prop :=
  (∀ (s : State) (c : LinkArgs) (bad : Bool), s.Takes (.setLink (.args c)) →
      bad = (strays 5 300 c.batchTimeout || straysOrOff 5 600 c.supervision || strays 5 600 c.discard) →
      (c = {} ∨ (∃ r, c.rate = some r ∧ 4 < r) ∨ (∃ h, c.threshold = some h ∧ h ∉ [1, 3, 6, 12]) →
          exec (.setLink (.args c)) s = .next (s.reply .badArgument []))
        ∧ (c ≠ {} → (∀ r, c.rate = some r → r ≤ 4) → (∀ h, c.threshold = some h → h ∈ [1, 3, 6, 12]) →
            ∃ t : State, exec (.setLink (.args c)) s =
                .next (t.reply (if bad then .okAdjusted else .ok)
                  (if bad then
                    carried [(c.rate.isSome, .u8, t.slp.rate), (c.threshold.isSome, .u8, t.slp.threshold),
                      (c.batchTimeout.isSome, .u16, t.slp.batchTimeout), (c.supervision.isSome, .u16, t.slp.supervision),
                      (c.discard.isSome, .u16, t.slp.discard)]
                   else []))
              ∧ s.SameBlocks t ∧ t.slp.rate = c.rate.getD s.slp.rate ∧ t.slp.threshold = c.threshold.getD s.slp.threshold
              ∧ t.slp.batchTimeout = setTo 5 300 s.slp.batchTimeout c.batchTimeout
              ∧ t.slp.supervision = setToOrOff 5 600 s.slp.supervision c.supervision
              ∧ t.slp.discard = setTo 5 600 s.slp.discard c.discard
              ∧ t.slp.rateInForce = s.slp.rateInForce
              ∧ (∀ r, c.rate = some r → r ≠ s.slp.rateInForce → t.slp.nextRate = some r)
              ∧ (t.slp.supervision = s.slp.supervision →
                  t.slp.supervisionMs = s.slp.supervisionMs ∧ t.slp.supervising = s.slp.supervising)
              ∧ (t.slp.supervision ≠ s.slp.supervision →
                  t.slp.supervisionMs = 0 ∧ t.slp.supervising = decide (t.slp.supervision ≠ 0))
              ∧ t.slp.requests = s.slp.requests ∧ t.slp.tx = s.slp.tx ∧ t.slp.waiting = s.slp.waiting
              ∧ t.slp.time = s.slp.time ∧ t.slp.fallback = s.slp.fallback
              ∧ (∀ (i : SlotId) (sl : Slot) (r d at_ ms : Nat), s.slp.slots[i] = some sl → sl.state = .done r d at_ ms →
                  t.slp.discard ≠ s.slp.discard → t.slp.discard * 1000 ≤ ms → t.slp.slots[i] = none)
              ∧ (t.slp.discard = s.slp.discard → t.slp.slots = s.slp.slots ∧ t.slp.notices = s.slp.notices)))
    ∧ ((∀ s : State, s.Takes (.softResetLink (.args ())) →
        exec (.softResetLink (.args ())) s =
          .next (({ s with slp := { s.slp with
            requests := s.slp.requests.take 1, notices := [], quietOut := false, slots := Vector.replicate 4 none
            linkError := false, overrun := false } } : State).reply .ok []))
      ∧ (∀ s : State, s.Takes (.softResetFull (.args ())) →
          exec (.softResetFull (.args ())) s =
            .next (({ s with slp := { s.slp with fullReset := true } } : State).reply .ok []))
      ∧ ∀ s : State, s.Takes (.resume (.args ())) →
          exec (.resume (.args ())) s =
            .next (({ s with slp := { s.slp with fallback := false } } : State).reply .ok []))

/-- The supervision timer's expiry: in fallback nothing but the end of its run; otherwise the part enters fallback:
the duty mode is AUTO, the demand the fallback demand, every DONE slot is freed, SUPERVISION_LOST is queued, and the
washes, the wash queue but for grants, and the settings are left. The model's choices in it: notes/assumptions/8.md,
18.md. -/
def Obligations.SupervisionLossEntersFallback : Prop :=
  ∀ s : State, s.phase = .running → s.slp.supervising = true → s.slp.supervision ≠ 0 →
    s.slp.supervision * 1000 ≤ s.slp.supervisionMs →
    (s.slp.fallback = true →
        exec .supervisionTimerExpiry s = .next { s with slp := { s.slp with supervising := false } })
      ∧ (s.slp.fallback = false →
          ∃ (t u v : State), exec .supervisionTimerExpiry s = .next t ∧ t.slp.fallback = true ∧ t.slp.supervising = false
            ∧ t.pdc.mode = .auto ∧ t.pdc.demand = s.pdc.fallbackDemand
            ∧ (∀ i : SlotId, ∀ sl, t.slp.slots[i] = some sl → s.slp.slots[i] = some sl ∧ sl.state = .inProgress)
            ∧ v = { s with
                pdc := { s.pdc with mode := .auto, demand := s.pdc.fallbackDemand }
                slp := { s.slp with fallback := true, supervising := false, slots := v.slp.slots } }
            ∧ (∀ i : SlotId, v.slp.slots[i] = s.slp.slots[i].filter fun sl => decide (sl.state = .inProgress))
            ∧ v.DutyFrame (fun _ => False) u
            ∧ t = u.notify .fault .supervisionLost 0 0 s.slp.supervision s.pdc.fallbackDemand)

/-! ## Deferred requests (Chapter 9) -/

/-- A deferred request whose target has a slot: identical and IN_PROGRESS, DEFERRED again with the slot's number;
identical and DONE, the result is collected and the slot freed; otherwise RETRY_LATER. Nothing else changes. The
model's choices in it: notes/assumptions/13.md, 14.md. -/
def Obligations.DeferredRequestsFindTheirSlot : Prop :=
  ∀ (s : State) (i : Instr) (bs : List Byte) (kind : DeferredKind) (target : Target) (slot : SlotId) (sl : Slot),
    s.Takes i →
    ((∃ (n : ScreenId) (p : Nat), s.slp.fallback = false ∧ i = .washScreen (.args (n.val + 1, p))
        ∧ kind = .washScreen ∧ target = .screen n ∧ bs = encodeFields [(.u8, n.val + 1), (.u16, p)])
      ∨ (∃ p : PumpId, s.slp.fallback = false ∧ i = .startPump (.args (p.val + 1)) ∧ kind = .startPump
        ∧ target = .pump p ∧ bs = encodeFields [(.u8, p.val + 1)])
      ∨ (∃ (p : PumpId) (f : Nat), s.slp.fallback = false ∧ f ≤ 1 ∧ i = .stopPump (.args (p.val + 1, f))
        ∧ kind = .stopPump ∧ target = .pump p ∧ bs = encodeFields [(.u8, p.val + 1), (.u8, f)])
      ∨ (i = .saveConfig (.args ()) ∧ kind = .saveConfig ∧ target = .memory ∧ bs = [])) →
    s.slp.slots[slot] = some sl → sl.target = target →
    (∀ (j : SlotId) (x : Slot), s.slp.slots[j] = some x → x.target = target → j = slot) →
    (¬ (sl.kind = kind ∧ sl.arguments = bs) → exec i s = .next (s.reply .retryLater []))
      ∧ (sl.kind = kind → sl.arguments = bs → sl.state = .inProgress →
          exec i s = .next (s.reply .deferred (encodeField .u8 (slot.val + 1 : Nat))))
      ∧ (∀ r d at_ ms, sl.kind = kind → sl.arguments = bs → sl.state = .done r d at_ ms →
          exec i s = .next (({ s with slp := { s.slp with slots := s.slp.slots.set slot none } } : State).reply .ok
            (encodeFields [(.u8, r), (.u16, d), (.u32, at_)])))

/-- WASH SCREEN with no slot for its screen: STATE out of service or jammed, FULL with a full staged slot, RETRY_LATER
with four slots in use; else the lowest free slot opens and the wash joins the queue, merges into the screen's entry,
or is staged, following the slot, and the header arbiter re-evaluates at a change of the queue; a merge leaves the
higher class, the larger passes with 0 the largest, the mark of the request and the joining moment of the entry; the
reply gives the slot and the passes taken. START PUMP and STOP PUMP with no slot for the pump: refused with STATE in
AUTO; by the pump's state answered OK at once, refused with STATE or HEADER_IN_USE, or followed by the lowest free
slot that opens: a start joins the start queue, where with none in STARTING, the spacing run out and the grant checks
passed it is granted at once, or is merged into the pump's entry, which keeps its origin and place and takes the mark;
a stop is ordered. The model's choices in it: notes/assumptions/8.md, 13.md, 14.md. -/
def Obligations.DeferredRequestsOpenASlot : Prop :=
  (∀ (s : State) (n : ScreenId) (p passes : Nat), s.Takes (.washScreen (.args (n.val + 1, p))) →
      s.slp.fallback = false → passes = min p 64 → (∀ (j : SlotId) (x : Slot), s.slp.slots[j] = some x → x.target ≠ .screen n) →
      ((s.screen n).state = .outOfService ∨ (s.screen n).state = .jammed →
          exec (.washScreen (.args (n.val + 1, p))) s = .next (s.reply .state []))
        ∧ ((s.screen n).state.isWashing = true → (s.screen n).staged ≠ none →
            exec (.washScreen (.args (n.val + 1, p))) s = .next (s.reply .full []))
        ∧ ((s.screen n).state = .idle ∨ (s.screen n).state = .queued
              ∨ ((s.screen n).state.isWashing = true ∧ (s.screen n).staged = none) →
            ((∀ j : SlotId, s.slp.slots[j] ≠ none) →
                exec (.washScreen (.args (n.val + 1, p))) s = .next (s.reply .retryLater []))
              ∧ ∀ slot : SlotId, s.slp.slots[slot] = none → (∀ j : SlotId, j < slot → s.slp.slots[j] ≠ none) →
                  ∃ (t v : State) (m : Nat), exec (.washScreen (.args (n.val + 1, p))) s =
                      .next (t.reply .deferred (encodeFields [(.u8, slot.val + 1), (.u16, passes)]))
                    ∧ m = s.slp.opening % 65535 + 1
                    ∧ v = { s with slp := { s.slp with
                        opening := m
                        slots := s.slp.slots.set slot (some ⟨.washScreen, .screen n,
                          encodeFields [(.u8, n.val + 1), (.u16, p)], m, .inProgress⟩) } }
                    ∧ v.WorkFrame (fun x => x = n) (fun _ => False) t
                    ∧ ((s.screen n).state.isWashing = true →
                        t = v.onScreen n fun sc => { sc with staged := some ⟨passes, .host, some m⟩ })
                    ∧ ((s.screen n).state = .idle →
                        t = ({ v with swc := { v.swc with
                          queue := v.swc.queue ++ [⟨n, .host, passes, some m, 0⟩]
                          screens := v.swc.screens.set n
                            { s.screen n with state := .queued, drive := false, spray := false } } }
                          : State).reevaluate.settle)
                    ∧ (∀ merge : QueueEntry → QueueEntry, (s.screen n).state = .queued →
                        (∀ e, merge e = { e with
                          cls := if e.cls = .headlossHigh then .headlossHigh else .host
                          passes := if e.passes = 0 ∨ passes = 0 then 0 else max e.passes passes
                          mark := some m }) →
                        t = ({ v with swc := { v.swc with
                            queue := v.swc.queue.map fun e => if e.screen = n then merge e else e } }
                            : State).reevaluate.settle
                          ∧ ∀ e, s.SwcSound → e ∈ s.swc.queue → e.screen = n →
                              ((t.screen n).state = .queued ∧ merge e ∈ t.swc.queue)
                                ∨ t.screen n = (s.screen n).granted (merge e))
                    ∧ (s.SwcSound → (s.screen n).state = .idle →
                        ((t.screen n).state = .queued ∧ ⟨n, .host, passes, some m, 0⟩ ∈ t.swc.queue)
                          ∨ ((t.screen n).state = .washing ∧ ∃ w, (t.screen n).wash = some w ∧ w.passes = passes
                              ∧ w.cls = .host ∧ w.mark = some m ∧ w.counter = passes - 1 ∧ w.accepted = 0))))
    ∧ (∀ (s : State) (p : PumpId) (f : Nat), s.slp.fallback = false →
      (∀ (j : SlotId) (x : Slot), s.slp.slots[j] = some x → x.target ≠ .pump p) → f ≤ 1 →
      (s.Takes (.startPump (.args (p.val + 1))) →
          (s.pdc.mode = .auto → exec (.startPump (.args (p.val + 1))) s = .next (s.reply .state []))
            ∧ (s.pdc.mode = .manual →
                ((s.pump p).state = .running → exec (.startPump (.args (p.val + 1))) s = .next (s.reply .ok []))
                  ∧ ((s.pump p).state = .disabled ∨ (s.pump p).state = .recovering ∨ (s.pump p).state = .stopping
                        ∨ (s.pump p).state = .failed →
                      exec (.startPump (.args (p.val + 1))) s = .next (s.reply .state []))
                  ∧ ((s.pump p).state = .starting ∨ (s.pump p).state = .stopped →
                      ((∀ j : SlotId, s.slp.slots[j] ≠ none) →
                          exec (.startPump (.args (p.val + 1))) s = .next (s.reply .retryLater []))
                        ∧ ∀ slot : SlotId, s.slp.slots[slot] = none → (∀ j : SlotId, j < slot → s.slp.slots[j] ≠ none) →
                            ∃ (t v : State) (m : Nat), exec (.startPump (.args (p.val + 1))) s =
                                .next (t.reply .deferred (encodeField .u8 (slot.val + 1 : Nat)))
                              ∧ m = s.slp.opening % 65535 + 1
                              ∧ v = { s with slp := { s.slp with
                                  opening := m
                                  slots := s.slp.slots.set slot (some ⟨.startPump, .pump p,
                                    encodeField .u8 (p.val + 1 : Nat), m, .inProgress⟩) } }
                              ∧ v.DutyFrame (fun _ => True) t
                              ∧ ((s.pump p).state = .starting → t = v.onPump p fun q => { q with startMark := some m })
                              ∧ ((s.pump p).state = .stopped → (∃ x, (s.pump x).state = .starting) →
                                  (∀ e ∈ s.pdc.queue, e.pump ≠ p) → s.pdc.evaluationDue = false →
                                  t = { v with pdc := { v.pdc with queue := v.pdc.queue ++ [⟨p, .host, some m, 0⟩] } })
                              ∧ ((s.pump p).state = .stopped → (∃ e ∈ s.pdc.queue, e.pump = p) →
                                  s.pdc.evaluationDue = false →
                                  t = { v with pdc := { v.pdc with
                                    queue := v.pdc.queue.map fun e => if e.pump = p then { e with mark := some m } else e } })
                              ∧ ((s.pump p).state = .stopped → s.pdc.queue = [] → (∀ x, (s.pump x).state ≠ .starting) →
                                  (∀ ms, s.pdc.sinceStart = some ms → s.pdc.startSpacing * 1000 ≤ ms) →
                                  s.grantCheck p = none → (s.pump p).feedback = false →
                                  t.pump p = { s.pump p with
                                      state := .starting, run := true, startTimer := 0, startOrigin := .host
                                      startMark := some m, starts := min ((s.pump p).starts + 1) 65535 }
                                    ∧ t.pdc.queue = []))))
        ∧ (s.Takes (.stopPump (.args (p.val + 1, f))) →
            (s.pdc.mode = .auto → exec (.stopPump (.args (p.val + 1, f))) s = .next (s.reply .state []))
              ∧ (s.pdc.mode = .manual →
                  ((s.pump p).state = .stopped →
                      exec (.stopPump (.args (p.val + 1, f))) s =
                        .next (({ s with pdc := { s.pdc with
                          queue := s.pdc.queue.filter fun e => e.pump ≠ p } } : State).reply .ok []))
                    ∧ ((s.pump p).state = .recovering ∨ (s.pump p).state = .disabled ∨ (s.pump p).state = .failed →
                        exec (.stopPump (.args (p.val + 1, f))) s = .next (s.reply .ok []))
                    ∧ ((s.pump p).state = .starting →
                        exec (.stopPump (.args (p.val + 1, f))) s = .next (s.reply .state []))
                    ∧ ((s.pump p).state = .running → s.runningNow = 1 → s.pdc.headerHeld = true → f = 0 →
                        exec (.stopPump (.args (p.val + 1, f))) s = .next (s.reply .headerInUse []))
                    ∧ ((s.pump p).state = .stopping
                          ∨ ((s.pump p).state = .running ∧ (f = 1 ∨ s.runningNow ≠ 1 ∨ s.pdc.headerHeld = false)) →
                        ((∀ j : SlotId, s.slp.slots[j] ≠ none) →
                            exec (.stopPump (.args (p.val + 1, f))) s = .next (s.reply .retryLater []))
                          ∧ ∀ slot : SlotId, s.slp.slots[slot] = none →
                              (∀ j : SlotId, j < slot → s.slp.slots[j] ≠ none) →
                              ∃ (t v : State) (m : Nat), exec (.stopPump (.args (p.val + 1, f))) s =
                                  .next (t.reply .deferred (encodeField .u8 (slot.val + 1 : Nat)))
                                ∧ m = s.slp.opening % 65535 + 1
                                ∧ v = { s with slp := { s.slp with
                                    opening := m
                                    slots := s.slp.slots.set slot (some ⟨.stopPump, .pump p,
                                      encodeFields [(.u8, p.val + 1), (.u8, f)], m, .inProgress⟩) } }
                                ∧ v.WorkFrame (fun _ => True) (fun x => x = p) t
                                ∧ ((s.pump p).state = .stopping →
                                    t = v.onPump p fun q => { q with stopMark := some m })
                                ∧ ((s.pump p).state = .running → (s.pump p).feedback = true →
                                    t.pump p = (s.pump p).stopOrdered (if f = 1 then .forced else .host) (some m))
                                ∧ ((s.pump p).state = .running → f = 1 → s.runningNow = 1 → s.pdc.headerHeld = true →
                                    s.SwcSound → ∀ n, (t.screen n).state.isWashing = false)))))

/-- SAVE CONFIG with no slot for the memory: RETRY_LATER while a save still runs or with four slots in use; else the
lowest free slot opens and the save begins with the image of the settings in force and the pump counters. The end of a
save: CONFIG_SAVED of STATUS class when the bytes read back are the image, of FAULT class with code 8 when they differ
and code 1 when the memory failed to answer; the save is over, and its outcome reaches the slot that follows it. The
model's choices in it: notes/assumptions/11.md, 18.md. -/
def Obligations.SaveConfigRuns : Prop :=
  (∀ s : State, s.Takes (.saveConfig (.args ())) →
      (∀ (j : SlotId) (x : Slot), s.slp.slots[j] = some x → x.target ≠ .memory) →
      (s.slp.save ≠ none ∨ (∀ j : SlotId, s.slp.slots[j] ≠ none) →
          exec (.saveConfig (.args ())) s = .next (s.reply .retryLater []))
        ∧ (s.slp.save = none → ∀ slot : SlotId, s.slp.slots[slot] = none →
            (∀ j : SlotId, j < slot → s.slp.slots[j] ≠ none) →
            ∃ (t : State) (m : Nat), exec (.saveConfig (.args ())) s =
                .next (t.reply .deferred (encodeField .u8 (slot.val + 1 : Nat)))
              ∧ m = s.slp.opening % 65535 + 1
              ∧ t = { s with slp := { s.slp with
                  opening := m, save := some ⟨s.image, m⟩
                  slots := s.slp.slots.set slot (some ⟨.saveConfig, .memory, [], m, .inProgress⟩) } }))
    ∧ (∀ (s : State) (sv : Save) (e : SaveEnd) (reason : Nat), s.phase = .running → s.slp.save = some sv →
      (match e with | .readBack bs => reason = if bs = sv.image then 0 else 8 | .noAnswer _ => reason = 1) →
      ∃ t, exec (.saveConfigEnd e) s = .next t ∧ s.SameBlocks t ∧ t.slp.save = none
        ∧ (e = .readBack sv.image → t.slp.memory = sv.image ++ s.slp.memory.drop sv.image.length)
        ∧ (s.slp.notices.length < 32 → ∃ records : Nat, records ≤ 49 ∧ (reason ≠ 1 → records = 49)
            ∧ t.slp.notices = s.slp.notices
              ++ [⟨if reason = 0 then .status else .fault, .configSaved, 0, 0, reason, records, s.stamp⟩])
        ∧ (∀ i, s.Follows sv.mark i → s.slp.fallback = false →
            s.DoneWith t i (if reason = 0 then 0 else 1) reason)
        ∧ ((∀ j : SlotId, followedBy sv.mark s.slp.slots[j] = false) → t.slp.slots = s.slp.slots))

/-- An outcome handed to the table: the one IN_PROGRESS slot of the mark's opening number becomes DONE with the
result, the detail and the intake time, its discard timer at 0; in fallback it is freed; with no such slot, or a clear
mark, nothing changes. The discard timer of a DONE slot that reaches the discard time: the slot is freed and
DEFERRED_DISCARDED is queued, with the target, the kind, the result code and the detail. The model's choices in it:
notes/assumptions/7.md. -/
def Obligations.OutcomesReachTheTable : Prop :=
  (∀ (s : State) (m result detail : Nat),
      s.complete none result detail = s
        ∧ ((∀ j : SlotId, followedBy m s.slp.slots[j] = false) → s.complete (some m) result detail = s)
        ∧ ∀ (i : SlotId) (sl : Slot), s.Follows m i → s.slp.slots[i] = some sl →
            s.complete (some m) result detail = { s with slp := { s.slp with
              slots := s.slp.slots.set i
                (if s.slp.fallback then none else some { sl with state := .done result detail s.stamp 0 }) } })
    ∧ (∀ (s : State) (i : SlotId) (sl : Slot) (r d at_ ms : Nat), s.phase = .running → s.slp.slots[i] = some sl →
      sl.state = .done r d at_ ms →
      (ms < s.slp.discard * 1000 → exec (.discardTimerExpiry i) s = .next s)
        ∧ (s.slp.discard * 1000 ≤ ms →
            ∃ t, exec (.discardTimerExpiry i) s = .next t ∧ s.SameBlocks t
              ∧ t.slp.slots = s.slp.slots.set i none
              ∧ (s.slp.notices.length < 32 → t.slp.notices = s.slp.notices
                  ++ [⟨.status, .deferredDiscarded,
                    (match sl.target with | .screen n => n.val + 1 | .pump p => p.val + 1 | .memory => 0),
                    (match sl.kind with | .washScreen => 0 | .startPump => 1 | .stopPump => 2 | .saveConfig => 3),
                    r, (min d 32767 : Nat), s.stamp⟩])))

/-! ## Encodings -/

/-- The payload a well-formed request is sent with is decoded to that request, with every operand, and a payload that
does not match its kind to one that does not match. The model's choices in it: notes/assumptions/13.md. -/
def Obligations.RequestsDecodeBack : Prop :=
  ∀ (i : Instr) (k : Byte) (bs : List Byte), i.wellFormed = true → encodeRequest i = some (k, bs) →
    decodeRequest k bs = i

end
end

