-- ==== Sys2Proof/Laws/State.lean ====
section
/-! SUPPORT. Sys2Proof/Laws/State.lean: what each update of the state writes and what it leaves, field by field, so that
no later proof unfolds a record update. -/

namespace Sys2Proof.Machine

/-! ## A change within one block -/

@[simp] theorem State.onLau_phase (f : Lau → Lau) (s : State) : (s.onLau f).phase = s.phase := rfl
@[simp] theorem State.onLau_cfgsrc (f : Lau → Lau) (s : State) : (s.onLau f).cfgsrc = s.cfgsrc := rfl
@[simp] theorem State.onLau_lau (f : Lau → Lau) (s : State) : (s.onLau f).lau = f s.lau := rfl
@[simp] theorem State.onLau_twu (f : Lau → Lau) (s : State) : (s.onLau f).twu = s.twu := rfl
@[simp] theorem State.onLau_swc (f : Lau → Lau) (s : State) : (s.onLau f).swc = s.swc := rfl
@[simp] theorem State.onLau_pdc (f : Lau → Lau) (s : State) : (s.onLau f).pdc = s.pdc := rfl
@[simp] theorem State.onLau_slp (f : Lau → Lau) (s : State) : (s.onLau f).slp = s.slp := rfl
@[simp] theorem State.onLau_draws (f : Lau → Lau) (s : State) : (s.onLau f).draws = s.draws := rfl
@[simp] theorem State.onLau_pending (f : Lau → Lau) (s : State) : (s.onLau f).pending = s.pending := rfl

@[simp] theorem State.onTwu_phase (f : Twu → Twu) (s : State) : (s.onTwu f).phase = s.phase := rfl
@[simp] theorem State.onTwu_cfgsrc (f : Twu → Twu) (s : State) : (s.onTwu f).cfgsrc = s.cfgsrc := rfl
@[simp] theorem State.onTwu_lau (f : Twu → Twu) (s : State) : (s.onTwu f).lau = s.lau := rfl
@[simp] theorem State.onTwu_twu (f : Twu → Twu) (s : State) : (s.onTwu f).twu = f s.twu := rfl
@[simp] theorem State.onTwu_swc (f : Twu → Twu) (s : State) : (s.onTwu f).swc = s.swc := rfl
@[simp] theorem State.onTwu_pdc (f : Twu → Twu) (s : State) : (s.onTwu f).pdc = s.pdc := rfl
@[simp] theorem State.onTwu_slp (f : Twu → Twu) (s : State) : (s.onTwu f).slp = s.slp := rfl
@[simp] theorem State.onTwu_draws (f : Twu → Twu) (s : State) : (s.onTwu f).draws = s.draws := rfl
@[simp] theorem State.onTwu_pending (f : Twu → Twu) (s : State) : (s.onTwu f).pending = s.pending := rfl

@[simp] theorem State.onSwc_phase (f : Swc → Swc) (s : State) : (s.onSwc f).phase = s.phase := rfl
@[simp] theorem State.onSwc_cfgsrc (f : Swc → Swc) (s : State) : (s.onSwc f).cfgsrc = s.cfgsrc := rfl
@[simp] theorem State.onSwc_lau (f : Swc → Swc) (s : State) : (s.onSwc f).lau = s.lau := rfl
@[simp] theorem State.onSwc_twu (f : Swc → Swc) (s : State) : (s.onSwc f).twu = s.twu := rfl
@[simp] theorem State.onSwc_swc (f : Swc → Swc) (s : State) : (s.onSwc f).swc = f s.swc := rfl
@[simp] theorem State.onSwc_pdc (f : Swc → Swc) (s : State) : (s.onSwc f).pdc = s.pdc := rfl
@[simp] theorem State.onSwc_slp (f : Swc → Swc) (s : State) : (s.onSwc f).slp = s.slp := rfl
@[simp] theorem State.onSwc_draws (f : Swc → Swc) (s : State) : (s.onSwc f).draws = s.draws := rfl
@[simp] theorem State.onSwc_pending (f : Swc → Swc) (s : State) : (s.onSwc f).pending = s.pending := rfl

@[simp] theorem State.onPdc_phase (f : Pdc → Pdc) (s : State) : (s.onPdc f).phase = s.phase := rfl
@[simp] theorem State.onPdc_cfgsrc (f : Pdc → Pdc) (s : State) : (s.onPdc f).cfgsrc = s.cfgsrc := rfl
@[simp] theorem State.onPdc_lau (f : Pdc → Pdc) (s : State) : (s.onPdc f).lau = s.lau := rfl
@[simp] theorem State.onPdc_twu (f : Pdc → Pdc) (s : State) : (s.onPdc f).twu = s.twu := rfl
@[simp] theorem State.onPdc_swc (f : Pdc → Pdc) (s : State) : (s.onPdc f).swc = s.swc := rfl
@[simp] theorem State.onPdc_pdc (f : Pdc → Pdc) (s : State) : (s.onPdc f).pdc = f s.pdc := rfl
@[simp] theorem State.onPdc_slp (f : Pdc → Pdc) (s : State) : (s.onPdc f).slp = s.slp := rfl
@[simp] theorem State.onPdc_draws (f : Pdc → Pdc) (s : State) : (s.onPdc f).draws = s.draws := rfl
@[simp] theorem State.onPdc_pending (f : Pdc → Pdc) (s : State) : (s.onPdc f).pending = s.pending := rfl

@[simp] theorem State.onSlp_phase (f : Slp → Slp) (s : State) : (s.onSlp f).phase = s.phase := rfl
@[simp] theorem State.onSlp_cfgsrc (f : Slp → Slp) (s : State) : (s.onSlp f).cfgsrc = s.cfgsrc := rfl
@[simp] theorem State.onSlp_lau (f : Slp → Slp) (s : State) : (s.onSlp f).lau = s.lau := rfl
@[simp] theorem State.onSlp_twu (f : Slp → Slp) (s : State) : (s.onSlp f).twu = s.twu := rfl
@[simp] theorem State.onSlp_swc (f : Slp → Slp) (s : State) : (s.onSlp f).swc = s.swc := rfl
@[simp] theorem State.onSlp_pdc (f : Slp → Slp) (s : State) : (s.onSlp f).pdc = s.pdc := rfl
@[simp] theorem State.onSlp_slp (f : Slp → Slp) (s : State) : (s.onSlp f).slp = f s.slp := rfl
@[simp] theorem State.onSlp_draws (f : Slp → Slp) (s : State) : (s.onSlp f).draws = s.draws := rfl
@[simp] theorem State.onSlp_pending (f : Slp → Slp) (s : State) : (s.onSlp f).pending = s.pending := rfl

/-! ## A change within one item of a table -/

@[simp] theorem State.onChannel_phase (i : ChannelId) (f : Channel → Channel) (s : State) : (s.onChannel i f).phase = s.phase := rfl
@[simp] theorem State.onChannel_cfgsrc (i : ChannelId) (f : Channel → Channel) (s : State) : (s.onChannel i f).cfgsrc = s.cfgsrc := rfl
@[simp] theorem State.onChannel_twu (i : ChannelId) (f : Channel → Channel) (s : State) : (s.onChannel i f).twu = s.twu := rfl
@[simp] theorem State.onChannel_swc (i : ChannelId) (f : Channel → Channel) (s : State) : (s.onChannel i f).swc = s.swc := rfl
@[simp] theorem State.onChannel_pdc (i : ChannelId) (f : Channel → Channel) (s : State) : (s.onChannel i f).pdc = s.pdc := rfl
@[simp] theorem State.onChannel_slp (i : ChannelId) (f : Channel → Channel) (s : State) : (s.onChannel i f).slp = s.slp := rfl
@[simp] theorem State.onChannel_draws (i : ChannelId) (f : Channel → Channel) (s : State) : (s.onChannel i f).draws = s.draws := rfl
@[simp] theorem State.onChannel_pending (i : ChannelId) (f : Channel → Channel) (s : State) : (s.onChannel i f).pending = s.pending := rfl

@[simp] theorem State.onBand_phase (i : BandId) (f : Band → Band) (s : State) : (s.onBand i f).phase = s.phase := rfl
@[simp] theorem State.onBand_cfgsrc (i : BandId) (f : Band → Band) (s : State) : (s.onBand i f).cfgsrc = s.cfgsrc := rfl
@[simp] theorem State.onBand_lau (i : BandId) (f : Band → Band) (s : State) : (s.onBand i f).lau = s.lau := rfl
@[simp] theorem State.onBand_swc (i : BandId) (f : Band → Band) (s : State) : (s.onBand i f).swc = s.swc := rfl
@[simp] theorem State.onBand_pdc (i : BandId) (f : Band → Band) (s : State) : (s.onBand i f).pdc = s.pdc := rfl
@[simp] theorem State.onBand_slp (i : BandId) (f : Band → Band) (s : State) : (s.onBand i f).slp = s.slp := rfl
@[simp] theorem State.onBand_draws (i : BandId) (f : Band → Band) (s : State) : (s.onBand i f).draws = s.draws := rfl
@[simp] theorem State.onBand_pending (i : BandId) (f : Band → Band) (s : State) : (s.onBand i f).pending = s.pending := rfl

@[simp] theorem State.onScreen_phase (i : ScreenId) (f : Screen → Screen) (s : State) : (s.onScreen i f).phase = s.phase := rfl
@[simp] theorem State.onScreen_cfgsrc (i : ScreenId) (f : Screen → Screen) (s : State) : (s.onScreen i f).cfgsrc = s.cfgsrc := rfl
@[simp] theorem State.onScreen_lau (i : ScreenId) (f : Screen → Screen) (s : State) : (s.onScreen i f).lau = s.lau := rfl
@[simp] theorem State.onScreen_twu (i : ScreenId) (f : Screen → Screen) (s : State) : (s.onScreen i f).twu = s.twu := rfl
@[simp] theorem State.onScreen_pdc (i : ScreenId) (f : Screen → Screen) (s : State) : (s.onScreen i f).pdc = s.pdc := rfl
@[simp] theorem State.onScreen_slp (i : ScreenId) (f : Screen → Screen) (s : State) : (s.onScreen i f).slp = s.slp := rfl
@[simp] theorem State.onScreen_draws (i : ScreenId) (f : Screen → Screen) (s : State) : (s.onScreen i f).draws = s.draws := rfl
@[simp] theorem State.onScreen_pending (i : ScreenId) (f : Screen → Screen) (s : State) : (s.onScreen i f).pending = s.pending := rfl

@[simp] theorem State.onPump_phase (i : PumpId) (f : Pump → Pump) (s : State) : (s.onPump i f).phase = s.phase := rfl
@[simp] theorem State.onPump_cfgsrc (i : PumpId) (f : Pump → Pump) (s : State) : (s.onPump i f).cfgsrc = s.cfgsrc := rfl
@[simp] theorem State.onPump_lau (i : PumpId) (f : Pump → Pump) (s : State) : (s.onPump i f).lau = s.lau := rfl
@[simp] theorem State.onPump_twu (i : PumpId) (f : Pump → Pump) (s : State) : (s.onPump i f).twu = s.twu := rfl
@[simp] theorem State.onPump_swc (i : PumpId) (f : Pump → Pump) (s : State) : (s.onPump i f).swc = s.swc := rfl
@[simp] theorem State.onPump_slp (i : PumpId) (f : Pump → Pump) (s : State) : (s.onPump i f).slp = s.slp := rfl
@[simp] theorem State.onPump_draws (i : PumpId) (f : Pump → Pump) (s : State) : (s.onPump i f).draws = s.draws := rfl
@[simp] theorem State.onPump_pending (i : PumpId) (f : Pump → Pump) (s : State) : (s.onPump i f).pending = s.pending := rfl

@[simp] theorem State.onScope_phase (i : ScopeId) (f : Scope → Scope) (s : State) : (s.onScope i f).phase = s.phase := rfl
@[simp] theorem State.onScope_cfgsrc (i : ScopeId) (f : Scope → Scope) (s : State) : (s.onScope i f).cfgsrc = s.cfgsrc := rfl
@[simp] theorem State.onScope_lau (i : ScopeId) (f : Scope → Scope) (s : State) : (s.onScope i f).lau = s.lau := rfl
@[simp] theorem State.onScope_twu (i : ScopeId) (f : Scope → Scope) (s : State) : (s.onScope i f).twu = s.twu := rfl
@[simp] theorem State.onScope_swc (i : ScopeId) (f : Scope → Scope) (s : State) : (s.onScope i f).swc = s.swc := rfl
@[simp] theorem State.onScope_slp (i : ScopeId) (f : Scope → Scope) (s : State) : (s.onScope i f).slp = s.slp := rfl
@[simp] theorem State.onScope_draws (i : ScopeId) (f : Scope → Scope) (s : State) : (s.onScope i f).draws = s.draws := rfl
@[simp] theorem State.onScope_pending (i : ScopeId) (f : Scope → Scope) (s : State) : (s.onScope i f).pending = s.pending := rfl

/-! ## Screens and pumps -/

@[simp] theorem State.screen_onLau (f : Lau → Lau) (s : State) (n : ScreenId) : (s.onLau f).screen n = s.screen n := rfl
@[simp] theorem State.screen_onTwu (f : Twu → Twu) (s : State) (n : ScreenId) : (s.onTwu f).screen n = s.screen n := rfl
@[simp] theorem State.screen_onPdc (f : Pdc → Pdc) (s : State) (n : ScreenId) : (s.onPdc f).screen n = s.screen n := rfl
@[simp] theorem State.screen_onSlp (f : Slp → Slp) (s : State) (n : ScreenId) : (s.onSlp f).screen n = s.screen n := rfl
@[simp] theorem State.screen_onPump (p : PumpId) (f : Pump → Pump) (s : State) (n : ScreenId) :
    (s.onPump p f).screen n = s.screen n := rfl
@[simp] theorem State.screen_onScope (k : ScopeId) (f : Scope → Scope) (s : State) (n : ScreenId) :
    (s.onScope k f).screen n = s.screen n := rfl
@[simp] theorem State.pump_onLau (f : Lau → Lau) (s : State) (p : PumpId) : (s.onLau f).pump p = s.pump p := rfl
@[simp] theorem State.pump_onTwu (f : Twu → Twu) (s : State) (p : PumpId) : (s.onTwu f).pump p = s.pump p := rfl
@[simp] theorem State.pump_onSwc (f : Swc → Swc) (s : State) (p : PumpId) : (s.onSwc f).pump p = s.pump p := rfl
@[simp] theorem State.pump_onSlp (f : Slp → Slp) (s : State) (p : PumpId) : (s.onSlp f).pump p = s.pump p := rfl
@[simp] theorem State.pump_onScreen (n : ScreenId) (f : Screen → Screen) (s : State) (p : PumpId) :
    (s.onScreen n f).pump p = s.pump p := rfl
@[simp] theorem State.pump_onScope (k : ScopeId) (f : Scope → Scope) (s : State) (p : PumpId) :
    (s.onScope k f).pump p = s.pump p := rfl

theorem State.screen_onScreen (n m : ScreenId) (f : Screen → Screen) (s : State) :
    (s.onScreen n f).screen m = if n = m then f (s.screen m) else s.screen m := by
  by_cases h : n = m
  · subst h; simp [State.onScreen, State.screen, State.onSwc]
  · have h' : n.val ≠ m.val := fun e => h (Fin.ext e)
    simp [State.onScreen, State.screen, State.onSwc, h, h']

theorem State.pump_onPump (p q : PumpId) (f : Pump → Pump) (s : State) :
    (s.onPump p f).pump q = if p = q then f (s.pump q) else s.pump q := by
  by_cases h : p = q
  · subst h; simp [State.onPump, State.pump, State.onPdc]
  · have h' : p.val ≠ q.val := fun e => h (Fin.ext e)
    simp [State.onPump, State.pump, State.onPdc, h, h']

theorem State.scope_onScope (k j : ScopeId) (f : Scope → Scope) (s : State) :
    (s.onScope k f).pdc.scopes[j] = if k = j then f s.pdc.scopes[j] else s.pdc.scopes[j] := by
  by_cases h : k = j
  · subst h; simp [State.onScope, State.onPdc]
  · have h' : k.val ≠ j.val := fun e => h (Fin.ext e)
    simp [State.onScope, State.onPdc, h, h']

theorem State.band_onBand (b c : BandId) (f : Band → Band) (s : State) :
    (s.onBand b f).twu.bands[c] = if b = c then f s.twu.bands[c] else s.twu.bands[c] := by
  by_cases h : b = c
  · subst h; simp [State.onBand, State.onTwu]
  · have h' : b.val ≠ c.val := fun e => h (Fin.ext e)
    simp [State.onBand, State.onTwu, h, h']

theorem State.channel_onChannel (b c : ChannelId) (f : Channel → Channel) (s : State) :
    (s.onChannel b f).lau.channels[c] = if b = c then f s.lau.channels[c] else s.lau.channels[c] := by
  by_cases h : b = c
  · subst h; simp [State.onChannel, State.onLau]
  · have h' : b.val ≠ c.val := fun e => h (Fin.ext e)
    simp [State.onChannel, State.onLau, h, h']

@[simp] theorem State.screen_onScreen_self (n : ScreenId) (f : Screen → Screen) (s : State) :
    (s.onScreen n f).screen n = f (s.screen n) := by simp [State.screen_onScreen]

@[simp] theorem State.pump_onPump_self (p : PumpId) (f : Pump → Pump) (s : State) :
    (s.onPump p f).pump p = f (s.pump p) := by simp [State.pump_onPump]

/-- Two states with the same screens read the same at each screen, and so at all. -/
theorem screens_ext {v w : Vector Screen 6} (h : ∀ n : ScreenId, v[n] = w[n]) : v = w :=
  Vector.ext fun i hi => h ⟨i, hi⟩

/-! ## The start of a scan -/

section StartScan
variable (l : Lau) (samples : Vector Nat 12) (elapsed : Nat)
@[simp] theorem Lau.startScan_timer : (l.startScan samples elapsed).timer = 0 := rfl
@[simp] theorem Lau.startScan_period : (l.startScan samples elapsed).period = l.interval := rfl
@[simp] theorem Lau.startScan_scan : (l.startScan samples elapsed).scan = some ⟨samples, 0, elapsed⟩ := rfl
@[simp] theorem Lau.startScan_interval : (l.startScan samples elapsed).interval = l.interval := rfl
@[simp] theorem Lau.startScan_channels : (l.startScan samples elapsed).channels = l.channels := rfl
@[simp] theorem Lau.startScan_record : (l.startScan samples elapsed).record = l.record := rfl
@[simp] theorem Lau.startScan_density : (l.startScan samples elapsed).density = l.density := rfl
@[simp] theorem Lau.startScan_tolerance : (l.startScan samples elapsed).tolerance = l.tolerance := rfl
@[simp] theorem Lau.startScan_lostLimit : (l.startScan samples elapsed).lostLimit = l.lostLimit := rfl
@[simp] theorem Lau.startScan_lostMs : (l.startScan samples elapsed).lostMs = l.lostMs := rfl
end StartScan

/-! ## Queue of waiting commands and free value -/

@[simp] theorem State.drawn_draws (s : State) : s.drawn.draws = s.draws + 1 := rfl

@[simp] theorem State.drawn_phase (s : State) : s.drawn.phase = s.phase := rfl
@[simp] theorem State.drawn_cfgsrc (s : State) : s.drawn.cfgsrc = s.cfgsrc := rfl
@[simp] theorem State.drawn_lau (s : State) : s.drawn.lau = s.lau := rfl
@[simp] theorem State.drawn_twu (s : State) : s.drawn.twu = s.twu := rfl
@[simp] theorem State.drawn_swc (s : State) : s.drawn.swc = s.swc := rfl
@[simp] theorem State.drawn_pdc (s : State) : s.drawn.pdc = s.pdc := rfl
@[simp] theorem State.drawn_slp (s : State) : s.drawn.slp = s.slp := rfl
@[simp] theorem State.drawn_pending (s : State) : s.drawn.pending = s.pending := rfl
@[simp] theorem State.screen_drawn (s : State) (n : ScreenId) : s.drawn.screen n = s.screen n := rfl
@[simp] theorem State.pump_drawn (s : State) (p : PumpId) : s.drawn.pump p = s.pump p := rfl

/-! ## Notices and evaluations -/

@[simp] theorem State.evaluationFollows_phase (s : State) : s.evaluationFollows.phase = s.phase := rfl
@[simp] theorem State.evaluationFollows_cfgsrc (s : State) : s.evaluationFollows.cfgsrc = s.cfgsrc := rfl
@[simp] theorem State.evaluationFollows_lau (s : State) : s.evaluationFollows.lau = s.lau := rfl
@[simp] theorem State.evaluationFollows_twu (s : State) : s.evaluationFollows.twu = s.twu := rfl
@[simp] theorem State.evaluationFollows_swc (s : State) : s.evaluationFollows.swc = s.swc := rfl
@[simp] theorem State.evaluationFollows_slp (s : State) : s.evaluationFollows.slp = s.slp := rfl
@[simp] theorem State.evaluationFollows_draws (s : State) : s.evaluationFollows.draws = s.draws := rfl
@[simp] theorem State.evaluationFollows_pending (s : State) : s.evaluationFollows.pending = s.pending := rfl
@[simp] theorem State.screen_evaluationFollows (s : State) (n : ScreenId) : s.evaluationFollows.screen n = s.screen n := rfl
@[simp] theorem State.pump_evaluationFollows (s : State) (p : PumpId) : s.evaluationFollows.pump p = s.pump p := rfl

@[simp] theorem State.notify_phase (s : State) (c : NoticeClass) (k : NoticeKind) (u g : Nat) (v w : Int) :
    (s.notify c k u g v w).phase = s.phase := rfl
@[simp] theorem State.notify_cfgsrc (s : State) (c : NoticeClass) (k : NoticeKind) (u g : Nat) (v w : Int) :
    (s.notify c k u g v w).cfgsrc = s.cfgsrc := rfl
@[simp] theorem State.notify_lau (s : State) (c : NoticeClass) (k : NoticeKind) (u g : Nat) (v w : Int) :
    (s.notify c k u g v w).lau = s.lau := rfl
@[simp] theorem State.notify_twu (s : State) (c : NoticeClass) (k : NoticeKind) (u g : Nat) (v w : Int) :
    (s.notify c k u g v w).twu = s.twu := rfl
@[simp] theorem State.notify_swc (s : State) (c : NoticeClass) (k : NoticeKind) (u g : Nat) (v w : Int) :
    (s.notify c k u g v w).swc = s.swc := rfl
@[simp] theorem State.notify_pdc (s : State) (c : NoticeClass) (k : NoticeKind) (u g : Nat) (v w : Int) :
    (s.notify c k u g v w).pdc = s.pdc := rfl
@[simp] theorem State.notify_draws (s : State) (c : NoticeClass) (k : NoticeKind) (u g : Nat) (v w : Int) :
    (s.notify c k u g v w).draws = s.draws := rfl
@[simp] theorem State.notify_pending (s : State) (c : NoticeClass) (k : NoticeKind) (u g : Nat) (v w : Int) :
    (s.notify c k u g v w).pending = s.pending := rfl
@[simp] theorem State.screen_notify (s : State) (c : NoticeClass) (k : NoticeKind) (u g : Nat) (v w : Int) (n : ScreenId) :
    (s.notify c k u g v w).screen n = s.screen n := rfl
@[simp] theorem State.pump_notify (s : State) (c : NoticeClass) (k : NoticeKind) (u g : Nat) (v w : Int) (p : PumpId) :
    (s.notify c k u g v w).pump p = s.pump p := rfl

end Sys2Proof.Machine
end

