-- ==== Sys2Proof/Laws/Frames.lean ====
section
/-! SUPPORT. Sys2Proof/Laws/Frames.lean: the frames of Safety.lean compose, and a frame gives the fields it keeps. -/

namespace Sys2Proof.Machine

variable {s t u : State} {W : ScreenId → Prop} {P : PumpId → Prop}

/-! ## Reflexivity and composition -/

theorem slotFollows_refl (f : Bool) (n : Nat) (a : Option Slot) : slotFollows f n a a := .inl rfl

theorem slotFollows_trans {f : Bool} {n : Nat} {a b c : Option Slot} (h : slotFollows f n a b)
    (k : slotFollows f n b c) : slotFollows f n a c := by
  rcases h with rfl | ⟨sl, ha, hs, hb⟩
  · exact k
  · rcases k with rfl | ⟨sl', hb', hs', _⟩
    · exact .inr ⟨sl, ha, hs, hb⟩
    · rcases hb with ⟨_, rfl⟩ | ⟨_, r, d, rfl⟩
      · simp at hb'
      · obtain rfl : _ = sl' := Option.some.inj hb'
        simp at hs'

theorem State.SameCore.refl (s : State) : s.SameCore s := ⟨rfl, rfl, rfl, rfl⟩

theorem State.SameCore.trans (h : s.SameCore t) (k : t.SameCore u) : s.SameCore u :=
  ⟨k.phase.trans h.phase, k.cfgsrc.trans h.cfgsrc, k.lau.trans h.lau, k.pending.trans h.pending⟩

theorem State.SameSea.refl (s : State) : s.SameSea s := ⟨rfl, rfl⟩

theorem State.SameSea.trans (h : s.SameSea t) (k : t.SameSea u) : s.SameSea u := ⟨k.1.trans h.1, k.2.trans h.2⟩

theorem State.LinkFrame.fallback (h : s.LinkFrame t) : t.slp.fallback = s.slp.fallback := (congrArg Slp.fallback h.slp :)

theorem State.LinkFrame.stamp (h : s.LinkFrame t) : t.stamp = s.stamp := by
  have h1 : t.slp.timeSet = s.slp.timeSet := (congrArg Slp.timeSet h.slp :)
  have h2 : t.slp.time = s.slp.time := (congrArg Slp.time h.slp :)
  simp [State.stamp, h1, h2]

theorem State.LinkFrame.refl (s : State) : s.LinkFrame s := ⟨rfl, fun _ h _ => h, fun _ => slotFollows_refl _ _ _⟩

theorem State.LinkFrame.trans (h : s.LinkFrame t) (k : t.LinkFrame u) : s.LinkFrame u :=
  ⟨k.slp.trans h.slp, fun m hm hu => k.notices m (h.notices m hm hu) hu,
    fun i => slotFollows_trans (h.slots i) (by have := k.slots i; rwa [h.fallback, h.stamp] at this)⟩

theorem State.LinkFrame.of_eq (h : t.slp = s.slp) : s.LinkFrame t :=
  ⟨by rw [h], by rw [h]; exact fun _ h _ => h, by rw [h]; exact fun _ => slotFollows_refl _ _ _⟩

theorem State.PumpFrame.refl (P : PumpId → Prop) (s : State) : s.PumpFrame P s := ⟨rfl, fun _ => rfl, fun _ _ _ _ => rfl⟩

theorem State.PumpFrame.trans (h : s.PumpFrame P t) (k : t.PumpFrame P u) : s.PumpFrame P u :=
  ⟨k.pdc.trans h.pdc, fun p => (k.pumps p).trans (h.pumps p), fun p hp h1 h2 => by
    have e := h.still p hp h1 h2
    rw [← e]; exact k.still p hp (by rw [e]; exact h1) (by rw [e]; exact h2)⟩

theorem State.PumpFrame.of_eq (P : PumpId → Prop) (h : t.pdc = s.pdc) : s.PumpFrame P t :=
  ⟨by rw [h], fun p => by simp [State.pump, h], fun p _ _ _ => by simp [State.pump, h]⟩

/-- A pump in RUNNING or STOPPED need not be named. -/
theorem State.PumpFrame.forget {Q : PumpId → Prop} (h : s.PumpFrame P t)
    (hP : ∀ p, P p → Q p ∨ (s.pump p).state = .running ∨ (s.pump p).state = .stopped) : s.PumpFrame Q t :=
  ⟨h.pdc, h.pumps, fun p hp h1 h2 => h.still p (fun hPp => by
    rcases hP p hPp with h | h | h
    · exact hp h
    · exact h1 h
    · exact h2 h) h1 h2⟩

theorem State.PumpFrame.mono {Q : PumpId → Prop} (h : s.PumpFrame P t) (hP : ∀ p, P p → Q p) : s.PumpFrame Q t :=
  h.forget fun p hp => .inl (hP p hp)

theorem State.GrantFrame.refl (s : State) : s.GrantFrame s := ⟨rfl, .refl _, fun _ => .inl rfl⟩

theorem State.GrantFrame.of_eq (h : t.swc = s.swc) : s.GrantFrame t :=
  ⟨by rw [h], by rw [h], fun n => .inl (by simp [State.screen, h])⟩

@[simp] theorem Screen.granted_granted (sc : Screen) (d e : QueueEntry) : (sc.granted d).granted e = sc.granted e := rfl

theorem State.GrantFrame.trans (h : s.GrantFrame t) (k : t.GrantFrame u) : s.GrantFrame u :=
  ⟨k.swc.trans h.swc, k.queue.trans h.queue, fun n => by
    rcases h.screens n with e | ⟨d, hd, hn, e⟩ <;> rcases k.screens n with e' | ⟨d', hd', hn', e'⟩
    · exact .inl (e'.trans e)
    · exact .inr ⟨d', h.queue.subset hd', hn', by rw [e', e]⟩
    · exact .inr ⟨d, hd, hn, by rw [e', e]⟩
    · exact .inr ⟨d', h.queue.subset hd', hn', by rw [e', e, Screen.granted_granted]⟩⟩

theorem State.WashFrame.refl (W : ScreenId → Prop) (s : State) : s.WashFrame W s :=
  ⟨rfl, fun _ => rfl, fun _ h _ => h, fun _ _ => .inl rfl⟩

theorem State.WashFrame.of_eq (W : ScreenId → Prop) (h : t.swc = s.swc) : s.WashFrame W t :=
  ⟨by rw [h], fun n => by simp [State.screen, h], by rw [h]; exact fun _ h _ => h,
    fun n _ => .inl (by simp [State.screen, h])⟩

theorem State.WashFrame.trans (h : s.WashFrame W t) (k : t.WashFrame W u) : s.WashFrame W u :=
  ⟨k.swc.trans h.swc, fun n => (k.screens n).trans (h.screens n), fun e he hw => h.queue e (k.queue e he hw) hw,
    fun n hw => by
      rcases h.kept n hw with e | ⟨d, hd, hn, e⟩ <;> rcases k.kept n hw with e' | ⟨d', hd', hn', e'⟩
      · exact .inl (e'.trans e)
      · exact .inr ⟨d', h.queue d' hd' (hn' ▸ hw), hn', by rw [e', e]⟩
      · exact .inr ⟨d, hd, hn, by rw [e', e]⟩
      · exact .inr ⟨d', h.queue d' hd' (hn' ▸ hw), hn', by rw [e', e, Screen.granted_granted]⟩⟩

theorem State.WashFrame.mono {V : ScreenId → Prop} (h : s.WashFrame W t) (hW : ∀ n, W n → V n) : s.WashFrame V t :=
  ⟨h.swc, h.screens, fun e he hv => h.queue e he fun hw => hv (hW _ hw), fun n hv => h.kept n fun hw => hv (hW _ hw)⟩

theorem Screen.sansWash_granted (sc : Screen) (e : QueueEntry) : (sc.granted e).sansWash = sc.sansWash := rfl

/-- A grant is one of the things a piece of work of the SWC may do. -/
theorem State.GrantFrame.wash (h : s.GrantFrame t) (W : ScreenId → Prop) : s.WashFrame W t :=
  ⟨by
    have h' := congrArg (fun w : Swc => { w with
      purge := .idle, purgeTimer := 0, pendingMs := 0, activeMs := 0, overdue := false, hprg := false
      sluicing := false, sluiceMs := 0, sluv := false }) h.swc
    exact h',
   fun n => by rcases h.screens n with e | ⟨_, _, _, e⟩ <;> rw [e]; rfl,
   fun e he _ => h.queue.subset he, fun n _ => h.screens n⟩

theorem State.DutyFrame.refl (P : PumpId → Prop) (s : State) : s.DutyFrame P s := ⟨.refl s, .refl s, .refl s, .refl P s, .refl s⟩

theorem State.DutyFrame.trans (h : s.DutyFrame P t) (k : t.DutyFrame P u) : s.DutyFrame P u :=
  ⟨h.core.trans k.core, h.sea.trans k.sea, h.grant.trans k.grant, h.pump.trans k.pump, h.link.trans k.link⟩

theorem State.DutyFrame.forget {Q : PumpId → Prop} (h : s.DutyFrame P t)
    (hP : ∀ p, P p → Q p ∨ (s.pump p).state = .running ∨ (s.pump p).state = .stopped) : s.DutyFrame Q t :=
  ⟨h.core, h.sea, h.grant, h.pump.forget hP, h.link⟩

theorem State.DutyFrame.mono {Q : PumpId → Prop} (h : s.DutyFrame P t) (hP : ∀ p, P p → Q p) : s.DutyFrame Q t :=
  h.forget fun p hp => .inl (hP p hp)

theorem State.WorkFrame.refl (W : ScreenId → Prop) (P : PumpId → Prop) (s : State) : s.WorkFrame W P s :=
  ⟨.refl s, rfl, .refl W s, .refl P s, .refl s⟩

theorem State.WorkFrame.trans (h : s.WorkFrame W P t) (k : t.WorkFrame W P u) : s.WorkFrame W P u :=
  ⟨h.core.trans k.core, k.twu.trans h.twu, h.wash.trans k.wash, h.pump.trans k.pump, h.link.trans k.link⟩

theorem State.WorkFrame.mono {V : ScreenId → Prop} {Q : PumpId → Prop} (h : s.WorkFrame W P t) (hW : ∀ n, W n → V n)
    (hP : ∀ p, P p → Q p) : s.WorkFrame V Q t :=
  ⟨h.core, h.twu, h.wash.mono hW, h.pump.mono hP, h.link⟩

/-- The duty evaluations are within what a piece of work of the SWC may change. -/
theorem State.DutyFrame.work (h : s.DutyFrame P t) (W : ScreenId → Prop) : s.WorkFrame W P t :=
  ⟨h.core, h.sea.1, h.grant.wash W, h.pump, h.link⟩

/-! ## What a frame keeps -/

section Kept
variable (h : s.DutyFrame P t)
include h

theorem State.DutyFrame.screen_of_not_queued (n : ScreenId) (hq : ∀ e ∈ s.swc.queue, e.screen ≠ n) :
    t.screen n = s.screen n := by
  rcases h.grant.screens n with e | ⟨e, he, hn, _⟩
  · exact e
  · exact absurd hn (hq e he)

theorem State.DutyFrame.staged (n : ScreenId) : (t.screen n).staged = (s.screen n).staged := by
  rcases h.grant.screens n with e | ⟨_, _, _, e⟩ <;> rw [e]; rfl
theorem State.DutyFrame.current (n : ScreenId) : (t.screen n).current = (s.screen n).current := by
  rcases h.grant.screens n with e | ⟨_, _, _, e⟩ <;> rw [e]; rfl
theorem State.DutyFrame.previous (n : ScreenId) : (t.screen n).previous = (s.screen n).previous := by
  rcases h.grant.screens n with e | ⟨_, _, _, e⟩ <;> rw [e]; rfl
theorem State.DutyFrame.sinceEnd (n : ScreenId) : (t.screen n).sinceEnd = (s.screen n).sinceEnd := by
  rcases h.grant.screens n with e | ⟨_, _, _, e⟩ <;> rw [e]; rfl
theorem State.DutyFrame.jam (n : ScreenId) : (t.screen n).jam = (s.screen n).jam := by
  rcases h.grant.screens n with e | ⟨_, _, _, e⟩ <;> rw [e]; rfl
theorem State.DutyFrame.counts (n : ScreenId) : (t.screen n).counts = (s.screen n).counts := by
  rcases h.grant.screens n with e | ⟨_, _, _, e⟩ <;> rw [e]; rfl
theorem State.DutyFrame.sluicing : t.swc.sluicing = s.swc.sluicing := (congrArg Swc.sluicing h.grant.swc :)
theorem State.DutyFrame.sluiceMs : t.swc.sluiceMs = s.swc.sluiceMs := (congrArg Swc.sluiceMs h.grant.swc :)
theorem State.DutyFrame.sluv : t.swc.sluv = s.swc.sluv := (congrArg Swc.sluv h.grant.swc :)
theorem State.DutyFrame.purge : t.swc.purge = s.swc.purge := (congrArg Swc.purge h.grant.swc :)
theorem State.DutyFrame.hprg : t.swc.hprg = s.swc.hprg := (congrArg Swc.hprg h.grant.swc :)
theorem State.DutyFrame.hdok : t.swc.hdok = s.swc.hdok := (congrArg Swc.hdok h.grant.swc :)
theorem State.DutyFrame.overdue : t.swc.overdue = s.swc.overdue := (congrArg Swc.overdue h.grant.swc :)
theorem State.DutyFrame.order : t.pdc.order = s.pdc.order := (congrArg Pdc.order h.pump.pdc :)
theorem State.DutyFrame.mode : t.pdc.mode = s.pdc.mode := (congrArg Pdc.mode h.pump.pdc :)
theorem State.DutyFrame.demand : t.pdc.demand = s.pdc.demand := (congrArg Pdc.demand h.pump.pdc :)
theorem State.DutyFrame.rotationTimer : t.pdc.rotationTimer = s.pdc.rotationTimer := (congrArg Pdc.rotationTimer h.pump.pdc :)
theorem State.DutyFrame.requests : t.slp.requests = s.slp.requests := (congrArg Slp.requests h.link.slp :)
theorem State.DutyFrame.tx : t.slp.tx = s.slp.tx := (congrArg Slp.tx h.link.slp :)
theorem State.DutyFrame.waiting : t.slp.waiting = s.slp.waiting := (congrArg Slp.waiting h.link.slp :)
theorem State.DutyFrame.fallback : t.slp.fallback = s.slp.fallback := (congrArg Slp.fallback h.link.slp :)
theorem State.DutyFrame.enabled (p : PumpId) : (t.pump p).enabled = (s.pump p).enabled := (congrArg Pump.enabled (h.pump.pumps p) :)
theorem State.DutyFrame.feedback (p : PumpId) : (t.pump p).feedback = (s.pump p).feedback := (congrArg Pump.feedback (h.pump.pumps p) :)
theorem State.DutyFrame.trip (p : PumpId) : (t.pump p).trip = (s.pump p).trip := (congrArg Pump.trip (h.pump.pumps p) :)

/-- The time-set flag, the time and the stamp survive. -/
theorem State.DutyFrame.stamp : t.stamp = s.stamp := h.link.stamp

end Kept

end Sys2Proof.Machine
end

