-- ==== Sys2Proof/Laws/News.lean ====
section
/-! SUPPORT. Sys2Proof/Laws/News.lean: all that queuing a notice (R183, R184) and completing a deferred request (R179)
can do to the state. -/

namespace Sys2Proof.Machine

/-! ## The notice queue -/

theorem displace_some {c : NoticeClass} {q r : List Notice} (h : displace c q = some r) :
    r.length + 1 = q.length ∧ ∀ m ∈ q, m.cls ≠ c → m ∈ r := by
  unfold displace at h
  split at h
  · rename_i ha
    obtain rfl := Option.some.inj h
    obtain ⟨x, hx, hc⟩ := List.any_eq_true.mp ha
    refine ⟨?_, fun m hm hne => ?_⟩
    · have := List.length_eraseP_of_mem (p := fun n : Notice => decide (n.cls = c)) (List.mem_reverse.mpr hx) hc
      have hp : 0 < q.length := List.length_pos_of_mem hx
      simp only [List.length_reverse] at this ⊢
      omega
    · simp only [List.mem_reverse]
      exact (List.mem_eraseP_of_neg (by simpa using hne)).mpr (List.mem_reverse.mpr hm)
  · cases h

theorem Slp.append_sansNews (l : Slp) (q : List Notice) (n : Notice) : (l.append q n).sansNews = l.sansNews := rfl

/-- What queuing a notice does to the queue: it is put at its end, or in the place of one of a lower class, or is lost. -/
theorem Slp.enqueue_cases (l : Slp) (n : Notice) :
    (l.notices.length < 32 ∧ l.enqueue n = l.append l.notices n)
      ∨ (32 ≤ l.notices.length ∧ n.cls.urgent = true ∧ ∃ c q, c.urgent = false ∧ displace c l.notices = some q
          ∧ l.enqueue n = { l.append q n with overrun := true })
      ∨ (32 ≤ l.notices.length ∧ l.enqueue n = { l with overrun := true }) := by
  unfold Slp.enqueue
  split
  · exact .inl ⟨‹_›, rfl⟩
  · have h32 : 32 ≤ l.notices.length := by omega
    right
    split
    · exact .inr ⟨h32, rfl⟩
    · exact .inr ⟨h32, rfl⟩
    all_goals
      rename_i hc
      split
      · rename_i q hq
        exact .inl ⟨h32, by simp [hc, NoticeClass.urgent], .status, q, rfl, hq, rfl⟩
      · split
        · rename_i q hq
          exact .inl ⟨h32, by simp [hc, NoticeClass.urgent], .completion, q, rfl, hq, rfl⟩
        · exact .inr ⟨h32, rfl⟩

@[simp] theorem Slp.enqueue_sansNews (l : Slp) (n : Notice) : (l.enqueue n).sansNews = l.sansNews := by
  rcases l.enqueue_cases n with ⟨_, e⟩ | ⟨_, _, _, _, _, _, e⟩ | ⟨_, e⟩ <;> rw [e] <;> rfl

/-- With room in the queue a notice goes to its newest end and the quiet time restarts. -/
theorem Slp.enqueue_room {l : Slp} (n : Notice) (h : l.notices.length < 32) : l.enqueue n = l.append l.notices n := by
  simp [Slp.enqueue, h]

/-- The queue keeps its bound. -/
theorem Slp.enqueue_length (l : Slp) (n : Notice) (h : l.notices.length ≤ 32) : (l.enqueue n).notices.length ≤ 32 := by
  rcases l.enqueue_cases n with ⟨_, e⟩ | ⟨_, _, c, q, _, hq, e⟩ | ⟨_, e⟩ <;> rw [e]
  · simp [Slp.append]; omega
  · have := (displace_some hq).1
    simp [Slp.append]; omega
  · exact h

/-- An ALARM or FAULT notice in the queue is not lost by queuing another. -/
theorem Slp.enqueue_keeps (l : Slp) (n m : Notice) (hm : m ∈ l.notices) (hu : m.cls.urgent = true) :
    m ∈ (l.enqueue n).notices := by
  rcases l.enqueue_cases n with ⟨_, e⟩ | ⟨_, _, c, q, hc, hq, e⟩ | ⟨_, e⟩ <;> rw [e]
  · simp [Slp.append, hm]
  · have hne : m.cls ≠ c := by rintro rfl; simp [hc] at hu
    simp [Slp.append, (displace_some hq).2 m hm hne]
  · exact hm

/-- Queuing a notice leaves the slots alone. -/
@[simp] theorem Slp.enqueue_slots (l : Slp) (n : Notice) : (l.enqueue n).slots = l.slots := by
  rcases l.enqueue_cases n with ⟨_, e⟩ | ⟨_, _, _, _, _, _, e⟩ | ⟨_, e⟩ <;> rw [e] <;> rfl

section Fields
variable (l : Slp) (n : Notice)
@[simp] theorem Slp.enqueue_time : (l.enqueue n).time = l.time := (congrArg Slp.time (l.enqueue_sansNews n) :)
@[simp] theorem Slp.enqueue_timeSet : (l.enqueue n).timeSet = l.timeSet := (congrArg Slp.timeSet (l.enqueue_sansNews n) :)
@[simp] theorem Slp.enqueue_fallback : (l.enqueue n).fallback = l.fallback :=
  (congrArg Slp.fallback (l.enqueue_sansNews n) :)
@[simp] theorem Slp.enqueue_requests : (l.enqueue n).requests = l.requests :=
  (congrArg Slp.requests (l.enqueue_sansNews n) :)
@[simp] theorem Slp.enqueue_tx : (l.enqueue n).tx = l.tx := (congrArg Slp.tx (l.enqueue_sansNews n) :)
@[simp] theorem Slp.enqueue_waiting : (l.enqueue n).waiting = l.waiting := (congrArg Slp.waiting (l.enqueue_sansNews n) :)
@[simp] theorem Slp.enqueue_memory : (l.enqueue n).memory = l.memory := (congrArg Slp.memory (l.enqueue_sansNews n) :)
@[simp] theorem Slp.enqueue_save : (l.enqueue n).save = l.save := (congrArg Slp.save (l.enqueue_sansNews n) :)
@[simp] theorem Slp.enqueue_opening : (l.enqueue n).opening = l.opening := (congrArg Slp.opening (l.enqueue_sansNews n) :)
end Fields

/-! ## Notices as the state's operation -/

section Notify
variable (s : State) (c : NoticeClass) (k : NoticeKind) (u g : Nat) (v w : Int)

@[simp] theorem State.notify_stamp : (s.notify c k u g v w).stamp = s.stamp := by simp [State.notify, State.stamp]

theorem State.notify_link : s.LinkFrame (s.notify c k u g v w) :=
  ⟨by simp [State.notify], fun m hm hu => by simpa [State.notify] using Slp.enqueue_keeps _ _ m hm hu,
    fun i => .inl (by simp [State.notify])⟩

theorem State.notify_duty (P : PumpId → Prop) : s.DutyFrame P (s.notify c k u g v w) :=
  ⟨⟨rfl, rfl, rfl, rfl⟩, ⟨rfl, rfl⟩, .of_eq rfl, .of_eq P rfl, s.notify_link c k u g v w⟩

/-- With room in the queue the notice is there, as the youngest. -/
theorem State.notify_room (h : s.slp.notices.length < 32) :
    (s.notify c k u g v w).slp.notices = s.slp.notices ++ [⟨c, k, u, g, v, w, s.stamp⟩] := by
  simp [State.notify, Slp.enqueue_room _ h, Slp.append]

end Notify

/-! ## Completion of a deferred request -/

theorem State.complete_none (s : State) (r d : Nat) : s.complete none r d = s := rfl

/-- A completion changes at most the slots of the link, each as a completion may. -/
theorem State.complete_cases (s : State) (mark : Option Nat) (r d : Nat) :
    ∃ v : Vector (Option Slot) 4, s.complete mark r d = s.onSlp (fun l => { l with slots := v })
      ∧ ∀ i : SlotId, slotFollows s.slp.fallback s.stamp s.slp.slots[i] v[i] := by
  have same : ∃ v : Vector (Option Slot) 4, s = s.onSlp (fun l => { l with slots := v })
      ∧ ∀ i : SlotId, slotFollows s.slp.fallback s.stamp s.slp.slots[i] v[i] :=
    ⟨s.slp.slots, rfl, fun _ => slotFollows_refl _ _ _⟩
  unfold State.complete
  split
  · exact same
  · split
    · exact same
    · rename_i n _ i hi
      refine ⟨_, rfl, fun j => ?_⟩
      have hf : followedBy n s.slp.slots[i] = true := by simpa using List.find?_some hi
      by_cases hij : i = j
      · subst hij
        unfold followedBy at hf
        split at hf
        · rename_i sl hsl
          simp only [decide_eq_true_eq] at hf
          refine .inr ⟨sl, hsl, hf.2, ?_⟩
          cases hfb : s.slp.fallback
          · right
            refine ⟨rfl, r, d, ?_⟩
            have hsl' : s.slp.slots[i.val] = some sl := hsl
            simp [hsl']
          · left; simp
        · cases hf
      · have hne : i.val ≠ j.val := fun e => hij (Fin.ext e)
        exact .inl (by simp [hne])

section Complete
variable (s : State) (mark : Option Nat) (r d : Nat)

@[simp] theorem State.complete_phase : (s.complete mark r d).phase = s.phase := by
  obtain ⟨v, e, _⟩ := s.complete_cases mark r d; rw [e]; rfl
@[simp] theorem State.complete_cfgsrc : (s.complete mark r d).cfgsrc = s.cfgsrc := by
  obtain ⟨v, e, _⟩ := s.complete_cases mark r d; rw [e]; rfl
@[simp] theorem State.complete_lau : (s.complete mark r d).lau = s.lau := by
  obtain ⟨v, e, _⟩ := s.complete_cases mark r d; rw [e]; rfl
@[simp] theorem State.complete_twu : (s.complete mark r d).twu = s.twu := by
  obtain ⟨v, e, _⟩ := s.complete_cases mark r d; rw [e]; rfl
@[simp] theorem State.complete_swc : (s.complete mark r d).swc = s.swc := by
  obtain ⟨v, e, _⟩ := s.complete_cases mark r d; rw [e]; rfl
@[simp] theorem State.complete_pdc : (s.complete mark r d).pdc = s.pdc := by
  obtain ⟨v, e, _⟩ := s.complete_cases mark r d; rw [e]; rfl
@[simp] theorem State.complete_draws : (s.complete mark r d).draws = s.draws := by
  obtain ⟨v, e, _⟩ := s.complete_cases mark r d; rw [e]; rfl
@[simp] theorem State.complete_pending : (s.complete mark r d).pending = s.pending := by
  obtain ⟨v, e, _⟩ := s.complete_cases mark r d; rw [e]; rfl
@[simp] theorem State.complete_notices : (s.complete mark r d).slp.notices = s.slp.notices := by
  obtain ⟨v, e, _⟩ := s.complete_cases mark r d; rw [e]; rfl
@[simp] theorem State.screen_complete (n : ScreenId) : (s.complete mark r d).screen n = s.screen n := by
  simp [State.screen]
@[simp] theorem State.pump_complete (p : PumpId) : (s.complete mark r d).pump p = s.pump p := by
  simp [State.pump]

theorem State.complete_link : s.LinkFrame (s.complete mark r d) := by
  obtain ⟨v, e, hv⟩ := s.complete_cases mark r d
  rw [e]
  exact ⟨rfl, fun _ h _ => h, hv⟩

theorem State.complete_duty (P : PumpId → Prop) : s.DutyFrame P (s.complete mark r d) :=
  ⟨⟨by simp, by simp, by simp, by simp⟩, ⟨by simp, by simp⟩, .of_eq (by simp), .of_eq P (by simp),
    s.complete_link mark r d⟩

@[simp] theorem State.complete_stamp : (s.complete mark r d).stamp = s.stamp := (s.complete_link mark r d).stamp

end Complete

end Sys2Proof.Machine
end

