-- ==== Sys2Proof/Laws/Duty.lean ====
section
/-! SUPPORT. Sys2Proof/Laws/Duty.lean: all that the header arbiter's grants (R103), the pump state machine (Chapter 6)
and the duty evaluations (Chapter 7) can do to the state. -/

namespace Sys2Proof.Machine

variable {s t : State} {P : PumpId → Prop}

/-! ## Changes within one block -/

/-- A change of the PDC that keeps its settings and its pumps is within the duty frame. -/
theorem State.onPdc_duty (f : Pdc → Pdc) (P : PumpId → Prop) (hd : (f s.pdc).sansDuty = s.pdc.sansDuty)
    (hp : (f s.pdc).pumps = s.pdc.pumps) : s.DutyFrame P (s.onPdc f) :=
  ⟨⟨rfl, rfl, rfl, rfl⟩, ⟨rfl, rfl⟩, .of_eq rfl,
    ⟨hd, fun p => by simp [State.pump, hp], fun p _ _ _ => by simp [State.pump, hp]⟩, .of_eq rfl⟩

theorem State.evaluationFollows_duty (s : State) (P : PumpId → Prop) : s.DutyFrame P s.evaluationFollows :=
  s.onPdc_duty _ P rfl rfl

theorem State.onScope_duty (k : ScopeId) (f : Scope → Scope) (s : State) (P : PumpId → Prop) :
    s.DutyFrame P (s.onScope k f) :=
  s.onPdc_duty _ P rfl rfl

/-- A change of a pump of `P` that keeps its settings is within the duty frame. -/
theorem State.onPump_duty (p : PumpId) (f : Pump → Pump) (s : State) (hp : P p)
    (hf : ∀ q, (f q).sansMotion = q.sansMotion) : s.DutyFrame P (s.onPump p f) :=
  ⟨⟨rfl, rfl, rfl, rfl⟩, ⟨rfl, rfl⟩, .of_eq rfl,
    ⟨rfl, fun q => by
        by_cases h : p = q
        · subst h; simpa using hf _
        · simp [State.pump_onPump, h],
      fun q hq _ _ => by
        have h : p ≠ q := fun e => hq (e ▸ hp)
        simp [State.pump_onPump, h]⟩, .of_eq rfl⟩

/-! ## Grants (R103, R110) -/

theorem bestEntry_mem : ∀ {q : List QueueEntry} {e : QueueEntry}, bestEntry q = some e → e ∈ q
  | [], e, h => by simp [bestEntry] at h
  | d :: q, e, h => by
    unfold bestEntry at h
    split at h
    · obtain rfl := Option.some.inj h; exact List.mem_cons_self
    · rename_i b hb
      split at h <;> obtain rfl := Option.some.inj h
      · exact List.mem_cons_of_mem _ (bestEntry_mem hb)
      · exact List.mem_cons_self

theorem State.nextWash_mem {e : QueueEntry} (h : s.nextWash = some e) : e ∈ s.swc.queue ∧ (s.screen e.screen).jam = false := by
  have := bestEntry_mem h
  simpa using this

@[simp] theorem State.publishHeld_phase (s : State) : s.publishHeld.phase = s.phase := by
  unfold State.publishHeld; split <;> rfl

theorem State.publishHeld_duty (s : State) (P : PumpId → Prop) : s.DutyFrame P s.publishHeld := by
  unfold State.publishHeld
  split
  · exact .refl P s
  · exact s.onPdc_duty _ P rfl rfl

@[simp] theorem State.screen_leaveQueue (s : State) (n m : ScreenId) : (s.leaveQueue n).screen m = s.screen m := rfl

theorem State.screen_enterScreen (s : State) (n m : ScreenId) (st : ScreenState) :
    (s.enterScreen n st).screen m =
      if n = m then { s.screen m with state := st, drive := st.isWashing, spray := st.isWashing } else s.screen m := by
  unfold State.enterScreen
  rw [State.screen_onScreen]

@[simp] theorem State.screen_grantHeader (s : State) (e : QueueEntry) (n : ScreenId) :
    (s.grantHeader e).screen n = if e.screen = n then (s.screen n).granted e else s.screen n := by
  unfold State.grantHeader
  rw [State.screen_enterScreen, State.screen_onScreen]
  by_cases h : e.screen = n <;> simp [h, Screen.granted, ScreenState.isWashing]

theorem State.grantHeader_duty (s : State) {e : QueueEntry} (he : e ∈ s.swc.queue) (P : PumpId → Prop) :
    s.DutyFrame P (s.grantHeader e) :=
  ⟨⟨rfl, rfl, rfl, rfl⟩, ⟨rfl, rfl⟩,
    ⟨rfl, by simp [State.grantHeader, State.enterScreen, State.leaveQueue, State.onScreen],
      fun n => by
        by_cases h : e.screen = n
        · exact .inr ⟨e, he, h, by simp [h]⟩
        · exact .inl (by simp [h])⟩, .of_eq P rfl, .of_eq rfl⟩

theorem State.tryGrant_duty (s : State) (P : PumpId → Prop) : s.DutyFrame P s.tryGrant := by
  unfold State.tryGrant
  split
  · split
    · exact s.grantHeader_duty (State.nextWash_mem ‹_›).1 P
    · exact .refl P s
  · exact .refl P s

/-- All that a re-evaluation of the header arbiter can do: grants, and header held published. -/
theorem State.reevaluate_duty (s : State) (P : PumpId → Prop) : s.DutyFrame P s.reevaluate :=
  ((s.tryGrant_duty P).trans (State.tryGrant_duty _ P)).trans (State.publishHeld_duty _ P)

theorem State.onSwc_runningCount_duty (s : State) (k : Nat) (P : PumpId → Prop) :
    s.DutyFrame P (s.onSwc fun w => { w with runningCount := k }) :=
  ⟨⟨rfl, rfl, rfl, rfl⟩, ⟨rfl, rfl⟩, ⟨rfl, .refl _, fun _ => .inl rfl⟩, .of_eq P rfl, .of_eq rfl⟩

theorem State.publishRunning_duty (s : State) (P : PumpId → Prop) : s.DutyFrame P s.publishRunning := by
  unfold State.publishRunning
  split
  · exact .refl P s
  · exact (s.onSwc_runningCount_duty _ P).trans (State.reevaluate_duty _ P)

theorem State.DutyFrame.pump_of_still (h : s.DutyFrame (fun _ => False) t) (p : PumpId)
    (h1 : (s.pump p).state ≠ .running) (h2 : (s.pump p).state ≠ .stopped) : t.pump p = s.pump p :=
  h.pump.still p id h1 h2

/-- The publication of the running count leaves every pump alone. -/
theorem State.pump_publishHeld (s : State) (p : PumpId) : s.publishHeld.pump p = s.pump p := by
  unfold State.publishHeld; split <;> rfl

theorem State.pump_tryGrant (s : State) (p : PumpId) : s.tryGrant.pump p = s.pump p := by
  unfold State.tryGrant; split <;> try split
  all_goals rfl

@[simp] theorem State.pump_reevaluate (s : State) (p : PumpId) : s.reevaluate.pump p = s.pump p := by
  simp [State.reevaluate, State.pump_publishHeld, State.pump_tryGrant]

@[simp] theorem State.pump_publishRunning (s : State) (p : PumpId) : s.publishRunning.pump p = s.pump p := by
  unfold State.publishRunning; split <;> simp

/-! ## The pump state machine -/

theorem State.enterPump_duty (s : State) {p : PumpId} (st : PumpState) (hp : P p) : s.DutyFrame P (s.enterPump p st) :=
  (s.onPump_duty p _ hp (by intro _; rfl)).trans (State.evaluationFollows_duty _ P)

@[simp] theorem State.pump_enterPump_self (s : State) (p : PumpId) (st : PumpState) :
    (s.enterPump p st).pump p = { s.pump p with
      state := st, run := st.commanded, lowMargin := if st.commanded then (s.pump p).lowMargin else none } := by
  simp [State.enterPump]

theorem State.pump_enterPump (s : State) (p q : PumpId) (st : PumpState) :
    (s.enterPump p st).pump q = if p = q then { s.pump q with
      state := st, run := st.commanded, lowMargin := if st.commanded then (s.pump q).lowMargin else none }
    else s.pump q := by
  by_cases h : p = q <;> simp [State.enterPump, State.pump_onPump, h]

theorem State.rest_duty (s : State) {p : PumpId} (hp : P p) : s.DutyFrame P (s.rest p) := s.enterPump_duty _ hp

theorem State.stopEnded_duty (s : State) {p : PumpId} (hp : P p) : s.DutyFrame P (s.stopEnded p) := by
  unfold State.stopEnded
  exact (((s.onPump_duty p _ hp (by intro _; rfl)).trans (State.rest_duty _ hp)).trans (State.notify_duty _ _ _ _ _ _ _ P)).trans
    (State.complete_duty _ _ _ _ P)

/-- All that a stop order can do: it moves the one pump, if that is in RUNNING. -/
theorem State.orderStop_duty (s : State) (p : PumpId) (o : StopOrigin) (m : Option Nat) (P : PumpId → Prop) :
    s.DutyFrame P (s.orderStop p o m) := by
  unfold State.orderStop
  split
  · rename_i h
    have key : s.DutyFrame (fun q => P q ∨ q = p) (if (s.pump p).feedback then
        ((s.enterPump p .stopping).onPump p fun q => { q with stopTimer := 0, stopOrigin := some o, stopMark := m }).publishRunning
        else (((s.enterPump p .stopping).onPump p fun q =>
          { q with stopTimer := 0, stopOrigin := some o, stopMark := m }).publishRunning).stopEnded p) := by
      have h1 := (s.enterPump_duty (P := fun q => P q ∨ q = p) .stopping (.inr rfl)).trans
        ((State.onPump_duty p (fun q => { q with stopTimer := 0, stopOrigin := some o, stopMark := m }) _ (.inr rfl) (by intro _; rfl)).trans
          (State.publishRunning_duty _ _))
      split
      · exact h1
      · exact h1.trans (State.stopEnded_duty _ (.inr rfl))
    exact key.forget fun q hq => hq.elim .inl fun e => .inr (.inl (e ▸ h))
  · exact .refl P s

theorem State.lowLevelStop_duty (s : State) (p : PumpId) (P : PumpId → Prop) : s.DutyFrame P (s.lowLevelStop p) :=
  (State.notify_duty s _ _ _ _ _ _ P).trans (State.orderStop_duty _ _ _ _ P)

/-- When the low-level stop of a pump is due: its period held it before, or has reached the trip delay. -/
theorem State.lowLevelDue_iff {p : PumpId} : s.lowLevelDue p = true ↔
    ∃ m, (s.pump p).lowMargin = some m ∧ (m.due = true ∨ s.pdc.tripDelay * 1000 ≤ m.ms) := by
  unfold State.lowLevelDue
  split <;> simp_all [reached]

/-- All that a low-level stop that falls due can do. -/
theorem State.lowLevelActs_duty (s : State) {p : PumpId} (hp : P p) : s.DutyFrame P (s.lowLevelActs p) := by
  unfold State.lowLevelActs
  split
  · exact s.lowLevelStop_duty p P
  · exact s.onPump_duty p _ hp fun _ => rfl

theorem State.startEnded_duty (s : State) (P : PumpId → Prop) : s.DutyFrame P s.startEnded := s.onPdc_duty _ P rfl rfl

theorem State.endPair_duty (s : State) (p : PumpId) (P : PumpId → Prop) : s.DutyFrame P (s.endPair p) :=
  s.onPdc_duty _ P rfl rfl

theorem State.changeoverStop_duty (s : State) (p : PumpId) (P : PumpId → Prop) : s.DutyFrame P (s.changeoverStop p) := by
  unfold State.changeoverStop
  split
  · split
    · exact (s.endPair_duty p P).trans (State.orderStop_duty _ _ _ _ P)
    · exact .refl P s
  · exact .refl P s

/-- All that an entry into RUNNING can do. -/
theorem State.enterRunning_duty (s : State) {p : PumpId} (hp : P p) : s.DutyFrame P (s.enterRunning p) := by
  unfold State.enterRunning
  dsimp only
  have h : s.DutyFrame P ((((((s.enterPump p .running).onPump p fun q =>
      { q with startTimer := 0, startMark := none, runTime := 0 }).notify .status .pumpStarted (p.val + 1) 0
      (s.pump p).startOrigin.code (min (s.pump p).starts 32767 : Nat)).publishRunning.startEnded.complete
      (s.pump p).startMark 0 0).changeoverStop p)) := by
    refine .trans ?_ (State.changeoverStop_duty _ p P)
    refine .trans ?_ (State.complete_duty _ _ _ _ P)
    refine .trans ?_ (State.startEnded_duty _ P)
    refine .trans ?_ (State.publishRunning_duty _ P)
    refine .trans ?_ (State.notify_duty _ _ _ _ _ _ _ P)
    exact (s.enterPump_duty .running hp).trans (State.onPump_duty p _ _ hp (by intro _; rfl))
  split
  · exact h.trans (State.lowLevelStop_duty _ p P)
  · exact h

/-- All that an entry into FAILED can do. -/
theorem State.failPump_duty (s : State) {p : PumpId} (c : FailCause) (hp : P p) : s.DutyFrame P (s.failPump p c) := by
  unfold State.failPump
  dsimp only
  have h (f : Pump → Pump) (v w : Int) (hf : ∀ q, (f q).sansMotion = q.sansMotion) :
      s.DutyFrame P (((s.enterPump p .failed).onPump p f).notify .fault .pumpFailed (p.val + 1) 0 v w) :=
    ((s.enterPump_duty .failed hp).trans (State.onPump_duty p f _ hp hf)).trans (State.notify_duty _ _ _ _ _ _ _ P)
  split
  · refine .trans ?_ (State.complete_duty _ _ _ _ P)
    refine .trans ?_ (State.endPair_duty _ p P)
    refine .trans ?_ (State.startEnded_duty _ P)
    apply h; intro q; rfl
  · refine .trans ?_ (State.publishRunning_duty _ P)
    apply h; intro q; rfl
  · refine .trans ?_ (State.complete_duty _ _ _ _ P)
    apply h; intro q; rfl
  all_goals (apply h; intro q; rfl)

/-! ## The start queue -/

theorem State.beginStart_duty (s : State) (e : StartEntry) (h : (s.pump e.pump).state = .stopped) (P : PumpId → Prop) :
    s.DutyFrame P (s.beginStart e) := by
  have key : s.DutyFrame (fun q => P q ∨ q = e.pump) (s.beginStart e) := by
    unfold State.beginStart
    have h1 := (s.enterPump_duty (P := fun q => P q ∨ q = e.pump) .starting (.inr rfl)).trans
      (State.onPump_duty e.pump (fun q =>
        { q with starts := min (q.starts + 1) 65535, startTimer := 0, startOrigin := e.origin, startMark := e.mark })
        _ (.inr rfl) (by intro _; rfl))
    dsimp only
    split
    · exact h1.trans (State.failPump_duty _ _ (.inr rfl))
    · split
      · exact h1.trans (State.enterRunning_duty _ (.inr rfl))
      · exact h1
  exact key.forget fun q hq => hq.elim .inl fun e' => .inr (.inr (e' ▸ h))

theorem State.refuseStart_duty (s : State) (e : StartEntry) (c : Nat) (P : PumpId → Prop) :
    s.DutyFrame P (s.refuseStart e c) := by
  unfold State.refuseStart
  split
  · exact State.complete_duty _ _ _ _ P
  · exact ((State.complete_duty _ _ _ _ P).trans (State.endPair_duty _ _ P)).trans (State.evaluationFollows_duty _ P)

theorem State.grantCheck_none {p : PumpId} (h : s.grantCheck p = none) : (s.pump p).state = .stopped := by
  unfold State.grantCheck at h
  split at h
  · cases h
  · simp_all

theorem State.grantFrom_duty (P : PumpId → Prop) : ∀ (q : List StartEntry) (s : State), s.DutyFrame P (State.grantFrom q s)
  | [], s => s.onPdc_duty _ P rfl rfl
  | e :: q, s => by
    have h : s.DutyFrame P (s.onPdc fun d => { d with queue := q }) := s.onPdc_duty _ P rfl rfl
    unfold State.grantFrom
    dsimp only
    split
    · exact h.trans (State.beginStart_duty _ e (State.grantCheck_none ‹_›) P)
    · exact (h.trans (State.refuseStart_duty _ e _ P)).trans (State.grantFrom_duty P q _)

/-- All that the start arbiter can do. -/
theorem State.startArbiter_duty (s : State) (P : PumpId → Prop) : s.DutyFrame P s.startArbiter := by
  unfold State.startArbiter
  split
  · exact State.grantFrom_duty P _ s
  · exact .refl P s

theorem State.joinStart_duty (s : State) (p : PumpId) (o : StartOrigin) (m : Option Nat) (P : PumpId → Prop) :
    s.DutyFrame P (s.joinStart p o m) := by
  unfold State.joinStart
  split
  · exact s.onPdc_duty _ P rfl rfl
  · exact (s.onPdc_duty _ P rfl rfl).trans (State.startArbiter_duty _ P)

theorem State.leaveStart_duty (s : State) (p : PumpId) (P : PumpId → Prop) : s.DutyFrame P (s.leaveStart p) :=
  s.onPdc_duty _ P rfl rfl

/-! ## The duty evaluation -/

theorem State.makeDue_duty (s : State) (k : ScopeId) (P : PumpId → Prop) : s.DutyFrame P (s.makeDue k) := by
  unfold State.makeDue
  split
  · exact s.onScope_duty k _ P
  · split
    · exact s.onScope_duty k _ P
    · split
      · exact s.onScope_duty k _ P
      · exact (s.onScope_duty k _ P).trans (State.orderStop_duty _ _ _ _ P)

/-- All that a shed timer at its end can do. -/
theorem State.fallDue_duty (s : State) (k : ScopeId) (P : PumpId → Prop) : s.DutyFrame P (s.fallDue k) := by
  unfold State.fallDue
  split
  · exact s.makeDue_duty k P
  · exact s.onScope_duty k _ P

theorem State.fallDue_excess {k : ScopeId} (h : s.inExcess k = true) : s.fallDue k = s.makeDue k := by
  simp [State.fallDue, h]

theorem State.fallDue_none {k : ScopeId} (h : s.inExcess k = false) : s.fallDue k = s.onScope k fun _ => {} := by
  simp [State.fallDue, h]

theorem State.updateScope_duty (s : State) (k : ScopeId) (P : PumpId → Prop) : s.DutyFrame P (s.updateScope k) := by
  unfold State.updateScope
  split
  · split
    · exact s.makeDue_duty k P
    · exact s.makeDue_duty k P
    · split
      · exact s.onScope_duty k _ P
      · exact .refl P s
  · exact s.onScope_duty k _ P

theorem State.searchChangeover_duty (s : State) (P : PumpId → Prop) : s.DutyFrame P s.searchChangeover := by
  unfold State.searchChangeover
  split
  · split
    · exact (s.onPdc_duty _ P rfl rfl).trans (State.joinStart_duty _ _ _ _ P)
    · exact s.onPdc_duty _ P rfl rfl
  · exact .refl P s

/-- Pieces of work within the duty frame, one after another, are within it. -/
theorem State.foldl_duty {α : Type} (f : State → α → State) (P : PumpId → Prop) (hf : ∀ (s : State) a, s.DutyFrame P (f s a)) :
    ∀ (l : List α) (s : State), s.DutyFrame P (l.foldl f s)
  | [], s => .refl P s
  | a :: l, s => (hf s a).trans (State.foldl_duty f P hf l (f s a))

/-- All that one duty evaluation can do. -/
theorem State.dutyEvaluate_duty (s : State) (P : PumpId → Prop) : s.DutyFrame P s.dutyEvaluate := by
  unfold State.dutyEvaluate
  have h := State.foldl_duty State.updateScope P (fun s k => s.updateScope_duty k P) allScopes s
  dsimp only
  split
  · exact h
  · split
    · exact h.trans (State.joinStart_duty _ _ _ _ P)
    · exact h.trans (State.searchChangeover_duty _ P)

theorem State.evaluations_duty (P : PumpId → Prop) : ∀ (n : Nat) (s : State), s.DutyFrame P (State.evaluations n s)
  | 0, s => .refl P s
  | n + 1, s => by
    unfold State.evaluations
    split
    · exact ((s.onPdc_duty _ P rfl rfl).trans (State.dutyEvaluate_duty _ P)).trans (State.evaluations_duty P n _)
    · exact .refl P s

/-- All that the duty evaluations after a piece of work can do. -/
theorem State.settle_duty (s : State) (P : PumpId → Prop) : s.DutyFrame P s.settle := State.evaluations_duty P 32 s

end Sys2Proof.Machine
end

