-- ==== Sys2Proof/Laws/Requests.lean ====
section
/-! SUPPORT. Sys2Proof/Laws/Requests.lean: what the taking, the arrival and the reply of a request can do. -/

namespace Sys2Proof.Machine

/-- A request taken now is served by its own rule, and its reply formed (R163). -/
theorem requestIn_takes {s : State} {i : Instr} (h : s.Takes i) (f g : State → Answer) :
    s.requestIn i f g = (g s).state.reply (g s).code (g s).data := by
  obtain ⟨hp, ho, r, rest, hr, hi⟩ := h
  simp [State.requestIn, hp, ho, hr, hi, State.serve]

/-- The same, for a request that LOADING answers RETRY_LATER. -/
theorem request_takes {s : State} {i : Instr} (h : s.Takes i) (g : State → Answer) :
    s.request i g = (g s).state.reply (g s).code (g s).data := requestIn_takes h _ _

/-- What the reply to the oldest held request does. -/
theorem reply_cons {s : State} {r : Request} {rest : List Request} (h : s.slp.requests = r :: rest) (c : Code)
    (d : List Byte) :
    s.reply c d = s.onSlp fun l => { l with linkError := false }.send ⟨r.kind + 0x80#8, r.tag, s.statusByte, c, d⟩ := by
  simp [State.reply, h]

/-- What handing a reply over changes of the link. -/
theorem send_eq (l : Slp) (r : Reply) :
    l.send r = { l with tx := (l.send r).tx, waiting := (l.send r).waiting } := by
  unfold Slp.send; split <;> rfl

@[simp] theorem reply_phase (s : State) (c : Code) (d : List Byte) : (s.reply c d).phase = s.phase := by
  unfold State.reply; split <;> rfl

@[simp] theorem reply_cfgsrc (s : State) (c : Code) (d : List Byte) : (s.reply c d).cfgsrc = s.cfgsrc := by
  unfold State.reply; split <;> rfl

@[simp] theorem reply_lau (s : State) (c : Code) (d : List Byte) : (s.reply c d).lau = s.lau := by
  unfold State.reply; split <;> rfl

@[simp] theorem reply_twu (s : State) (c : Code) (d : List Byte) : (s.reply c d).twu = s.twu := by
  unfold State.reply; split <;> rfl

@[simp] theorem reply_swc (s : State) (c : Code) (d : List Byte) : (s.reply c d).swc = s.swc := by
  unfold State.reply; split <;> rfl

@[simp] theorem reply_pdc (s : State) (c : Code) (d : List Byte) : (s.reply c d).pdc = s.pdc := by
  unfold State.reply; split <;> rfl

@[simp] theorem reply_draws (s : State) (c : Code) (d : List Byte) : (s.reply c d).draws = s.draws := by
  unfold State.reply; split <;> rfl

@[simp] theorem reply_pending (s : State) (c : Code) (d : List Byte) : (s.reply c d).pending = s.pending := by
  unfold State.reply; split <;> rfl

@[simp] theorem reply_screen (s : State) (c : Code) (d : List Byte) (n : ScreenId) :
    (s.reply c d).screen n = s.screen n := by simp [State.screen]

@[simp] theorem reply_pump (s : State) (c : Code) (d : List Byte) (p : PumpId) :
    (s.reply c d).pump p = s.pump p := by simp [State.pump]

/-- Of the link, the reply changes the transmitter, the waiting reply and LINK_ERROR. -/
theorem reply_slp (s : State) (c : Code) (d : List Byte) :
    (s.reply c d).slp = { s.slp with
      linkError := (s.reply c d).slp.linkError, tx := (s.reply c d).slp.tx, waiting := (s.reply c d).slp.waiting } := by
  unfold State.reply; split
  · rfl
  · rename_i r rest h
    simp only [State.onSlp, Slp.send]; split <;> rfl

/-- The arrival of a request changes the link alone. -/
theorem arrive_blocks (s : State) (i : Instr) : s.SameBlocks (s.arrive i) := by
  unfold State.arrive State.hold State.heard State.markLinkError State.SameBlocks
  split <;> split <;> simp [State.onSlp]

/-- A request with none held is taken as it arrives. -/
theorem requestIn_arrives {s : State} {i : Instr} (hp : s.phase = .running) (ho : s.slp.replyOutstanding = false)
    (hr : s.slp.requests = []) (f g : State → Answer) :
    s.requestIn i f g = (g (s.arrive i)).state.reply (g (s.arrive i)).code (g (s.arrive i)).data := by
  have : (s.arrive i).phase = .running := by rw [← hp]; exact (arrive_blocks s i).1
  simp [State.requestIn, hp, ho, hr, State.serve, this]

/-- A request that arrives with none held is then held, and can be taken. -/
theorem arrive_takes {s : State} {i : Instr} (hp : s.phase = .running) (ho : s.slp.replyOutstanding = false)
    (hr : s.slp.requests = []) : (s.arrive i).Takes i := by
  refine ⟨by rw [← hp]; exact (arrive_blocks s i).1, ?_, ⟨kindOf i, 0x00#8, i⟩, [], ?_, rfl⟩
  · unfold State.arrive State.hold State.heard State.markLinkError
    split <;> split <;> simpa [State.onSlp, Slp.replyOutstanding] using ho
  · unfold State.arrive State.hold State.heard State.markLinkError
    split <;> split <;> simp_all [State.onSlp]

end Sys2Proof.Machine
end

