-- ==== Sys2Proof/Laws/Settings.lean ====
section
/-! SUPPORT. Sys2Proof/Laws/Settings.lean: the clamps of a request (R166) in the terms of the statements (Safety.lean). -/

namespace Sys2Proof.Machine

/-- An unsigned clamp. -/
theorem clampNat_eq {lo hi : Nat} (h : lo ≤ hi) : clampNat lo hi = heldTo lo hi := by
  funext v; unfold clampNat heldTo; split_ifs <;> omega

/-- A signed clamp. -/
theorem clampInt_eq {lo hi : Int} (h : lo ≤ hi) (v : Int) : clampInt lo hi v = max lo (min hi v) := by
  unfold clampInt; split_ifs <;> omega

/-- A clamp with 0 for off. -/
theorem clampOff_eq {lo hi : Nat} (h : lo ≤ hi) : clampOff lo hi = heldToOrOff lo hi := by
  funext v; unfold clampOff heldToOrOff; rw [clampNat_eq h]

/-- The value an unsigned setting takes. -/
theorem taken_clampNat {lo hi : Nat} (h : lo ≤ hi) (o : Option Nat) (old : Nat) :
    taken (clampNat lo hi) o old = setTo lo hi old o := by
  rw [clampNat_eq h]; cases o <;> rfl

/-- The value a setting with 0 for off takes. -/
theorem taken_clampOff {lo hi : Nat} (h : lo ≤ hi) (o : Option Nat) (old : Nat) :
    taken (clampOff lo hi) o old = setToOrOff lo hi old o := by
  rw [clampOff_eq h]; cases o <;> rfl

/-- The value a signed setting takes. -/
theorem taken_clampInt {lo hi : Int} (h : lo ≤ hi) (o : Option Int) (old : Int) :
    taken (clampInt lo hi) o old = setToInt lo hi old o := by
  cases o with
  | none => rfl
  | some v => exact clampInt_eq h v

/-- Whether an unsigned clamp acted. -/
theorem adjusted_clampNat {lo hi : Nat} (h : lo ≤ hi) (o : Option Nat) :
    adjusted (clampNat lo hi) o = strays lo hi o := by
  rw [clampNat_eq h]
  cases o with
  | none => rfl
  | some v => exact decide_eq_decide.2 (by unfold heldTo; omega)

/-- Whether a clamp with 0 for off acted. -/
theorem adjusted_clampOff {lo hi : Nat} (h : lo ≤ hi) (o : Option Nat) :
    adjusted (clampOff lo hi) o = straysOrOff lo hi o := by
  rw [clampOff_eq h]
  cases o with
  | none => rfl
  | some v =>
    exact decide_eq_decide.2 (by unfold heldToOrOff heldTo; split_ifs <;> omega)

/-- Whether a signed clamp acted. -/
theorem adjusted_clampInt {lo hi : Int} (h : lo ≤ hi) (o : Option Int) :
    adjusted (clampInt lo hi) o = straysInt lo hi o := by
  cases o with
  | none => rfl
  | some v => simp only [adjusted, straysInt, Option.any_some, decide_eq_decide, clampInt_eq h]; omega

/-- The data of a reply to a request with clamps. -/
theorem takenData_eq (b : Bool) (fs : List (Bool × Width × Int)) :
    takenData b fs = if b then carried fs else [] := by
  unfold takenData carried encodeFields; rw [List.flatMap_map]

/-- The code of a reply to a request with clamps. -/
theorem okCode_eq (b : Bool) : okCode b = if b then .okAdjusted else .ok := rfl

/-- A number counted from 1 that is in range. -/
theorem index1_succ {n : Nat} (i : Fin n) : index1 n (i.val + 1) = some i := by
  have := i.isLt
  simp [index1]

/-- A number counted from 1 that is out of range. -/
theorem index1_none {n v : Nat} (h : v = 0 ∨ n < v) : index1 n v = none := by
  simp [index1]; omega

end Sys2Proof.Machine
end

