-- ==== Sys2Proof/Laws/Washes.lean ====
section
/-! SUPPORT. Sys2Proof/Laws/Washes.lean: all that the shared operations of the Screen Wash Controller can do: results
and their release (R86..R89), the end of a wash (R76), the sluice purge (R109), the header purge (R105..R107), the
header clear (R113) and the wash queue (R101, R102). -/

namespace Sys2Proof.Machine

variable {s t : State} {W : ScreenId → Prop} {P : PumpId → Prop}

/-! ## Changes within the SWC -/

/-- A change of one screen of `W` that keeps its settings is within the work frame. -/
theorem State.onScreen_work (n : ScreenId) (f : Screen → Screen) (s : State) (P : PumpId → Prop) (hn : W n)
    (hf : ∀ sc, (f sc).sansWash = sc.sansWash) : s.WorkFrame W P (s.onScreen n f) :=
  ⟨⟨rfl, rfl, rfl, rfl⟩, rfl,
    ⟨rfl, fun m => by
        by_cases h : n = m
        · subst h; simpa using hf _
        · simp [State.screen_onScreen, h],
      fun e he _ => he,
      fun m hm => .inl (by
        have h : n ≠ m := fun e => hm (e ▸ hn)
        simp [State.screen_onScreen, h])⟩, .of_eq P rfl, .of_eq rfl⟩

/-- A change of the SWC beside its screens and its settings is within the work frame. -/
theorem State.onSwc_work (f : Swc → Swc) (s : State) (W : ScreenId → Prop) (P : PumpId → Prop)
    (hs : (f s.swc).screens = s.swc.screens) (hq : ∀ e ∈ (f s.swc).queue, ¬ W e.screen → e ∈ s.swc.queue)
    (hw : (f s.swc).sansWashes = s.swc.sansWashes) : s.WorkFrame W P (s.onSwc f) :=
  ⟨⟨rfl, rfl, rfl, rfl⟩, rfl,
    ⟨hw, fun n => by simp [State.screen, hs], hq, fun n _ => .inl (by simp [State.screen, hs])⟩, .of_eq P rfl, .of_eq rfl⟩

theorem State.notify_work (s : State) (c : NoticeClass) (k : NoticeKind) (u g : Nat) (v w : Int) (W : ScreenId → Prop)
    (P : PumpId → Prop) : s.WorkFrame W P (s.notify c k u g v w) := (s.notify_duty c k u g v w P).work W

theorem State.complete_work (s : State) (m : Option Nat) (r d : Nat) (W : ScreenId → Prop) (P : PumpId → Prop) :
    s.WorkFrame W P (s.complete m r d) := (s.complete_duty m r d P).work W

theorem State.publishHeld_work (s : State) (W : ScreenId → Prop) (P : PumpId → Prop) : s.WorkFrame W P s.publishHeld :=
  (s.publishHeld_duty P).work W

theorem State.reevaluate_work (s : State) (W : ScreenId → Prop) (P : PumpId → Prop) : s.WorkFrame W P s.reevaluate :=
  (s.reevaluate_duty P).work W

theorem State.settle_work (s : State) (W : ScreenId → Prop) (P : PumpId → Prop) : s.WorkFrame W P s.settle :=
  (s.settle_duty P).work W

theorem State.enterScreen_work (s : State) {n : ScreenId} (st : ScreenState) (P : PumpId → Prop) (hn : W n) :
    s.WorkFrame W P (s.enterScreen n st) := s.onScreen_work n _ P hn (by intro _; rfl)

theorem State.foldl_work {α : Type} (f : State → α → State) (hf : ∀ (s : State) a, s.WorkFrame W P (f s a)) :
    ∀ (l : List α) (s : State), s.WorkFrame W P (l.foldl f s)
  | [], s => .refl W P s
  | a :: l, s => (hf s a).trans (State.foldl_work f hf l (f s a))

theorem State.ite_work {c : Prop} [Decidable c] {a b : State} (h : s.WorkFrame W P a) (k : s.WorkFrame W P b) :
    s.WorkFrame W P (if c then a else b) := by
  split
  · exact h
  · exact k

/-! ## Results -/

theorem State.announce_duty (s : State) (n : ScreenId) (r : WashResult) (P : PumpId → Prop) :
    s.DutyFrame P (s.announce n r) := (State.notify_duty _ _ _ _ _ _ _ P).trans (State.complete_duty _ _ _ _ P)

@[simp] theorem State.screen_announce (s : State) (n m : ScreenId) (r : WashResult) :
    (s.announce n r).screen m = s.screen m := by simp [State.announce]
@[simp] theorem State.announce_swc (s : State) (n : ScreenId) (r : WashResult) : (s.announce n r).swc = s.swc := by
  simp [State.announce]
@[simp] theorem State.announce_pdc (s : State) (n : ScreenId) (r : WashResult) : (s.announce n r).pdc = s.pdc := by
  simp [State.announce]
@[simp] theorem State.announce_twu (s : State) (n : ScreenId) (r : WashResult) : (s.announce n r).twu = s.twu := by
  simp [State.announce]

theorem State.announcePending_duty (s : State) (n : ScreenId) (r : Option WashResult) (P : PumpId → Prop) :
    s.DutyFrame P (s.announcePending n r) := by
  unfold State.announcePending
  split
  · split
    · exact s.announce_duty n _ P
    · exact .refl P s
  · exact .refl P s

@[simp] theorem State.announcePending_swc (s : State) (n : ScreenId) (r : Option WashResult) :
    (s.announcePending n r).swc = s.swc := by
  unfold State.announcePending; split <;> try split
  all_goals simp
@[simp] theorem State.announcePending_pdc (s : State) (n : ScreenId) (r : Option WashResult) :
    (s.announcePending n r).pdc = s.pdc := by
  unfold State.announcePending; split <;> try split
  all_goals simp
@[simp] theorem State.announcePending_twu (s : State) (n : ScreenId) (r : Option WashResult) :
    (s.announcePending n r).twu = s.twu := by
  unfold State.announcePending; split <;> try split
  all_goals simp
@[simp] theorem State.screen_announcePending (s : State) (n m : ScreenId) (r : Option WashResult) :
    (s.announcePending n r).screen m = s.screen m := by simp [State.screen]

theorem State.enterResult_work (s : State) {n : ScreenId} (r : WashResult) (P : PumpId → Prop) (hn : W n) :
    s.WorkFrame W P (s.enterResult n r) :=
  ((s.announcePending_duty n _ P).work W).trans (State.onScreen_work n _ _ P hn (by intro _; rfl))

/-- A result enters the pair as CURRENT, and CURRENT moves to PREVIOUS (R87). -/
theorem State.screen_enterResult (s : State) (n m : ScreenId) (r : WashResult) :
    (s.enterResult n r).screen m =
      if n = m then { s.screen m with previous := (s.screen m).current, current := some r } else s.screen m := by
  unfold State.enterResult
  rw [State.screen_onScreen]
  simp

theorem State.releaseScreen_work (s : State) {n : ScreenId} (P : PumpId → Prop) (hn : W n) :
    s.WorkFrame W P (s.releaseScreen n) :=
  (((s.announcePending_duty n _ P).work W).trans ((State.announcePending_duty _ n _ P).work W)).trans
    (State.onScreen_work n _ _ P hn (by intro _; rfl))

/-- A release makes both places of the screen's pair final (R88). -/
theorem State.screen_releaseScreen (s : State) (n m : ScreenId) :
    (s.releaseScreen n).screen m =
      if n = m then { s.screen m with
        previous := finalResult (s.screen m).previous, current := finalResult (s.screen m).current }
      else s.screen m := by
  unfold State.releaseScreen
  rw [State.screen_onScreen]
  simp

theorem State.releaseResults_work (s : State) (P : PumpId → Prop) : s.WorkFrame (fun _ => True) P s.releaseResults :=
  State.foldl_work _ (fun s _ => s.releaseScreen_work P trivial) _ s

/-- After a release every place of every pair is final (R88). -/
theorem State.screen_releaseResults (s : State) (n : ScreenId) :
    s.releaseResults.screen n = { s.screen n with
      previous := finalResult (s.screen n).previous, current := finalResult (s.screen n).current } := by
  simp only [State.releaseResults, allScreens, List.foldl_cons, List.foldl_nil, State.screen_releaseScreen]
  match n with
  | 0 => rfl
  | 1 => rfl
  | 2 => rfl
  | 3 => rfl
  | 4 => rfl
  | 5 => rfl

/-! ## Sluice and header purge -/

theorem State.startSluice_work (s : State) (W : ScreenId → Prop) (P : PumpId → Prop) : s.WorkFrame W P s.startSluice :=
  s.onSwc_work _ W P rfl (fun _ h _ => h) rfl

theorem State.endSluice_work (s : State) (P : PumpId → Prop) : s.WorkFrame (fun _ => True) P s.endSluice :=
  (s.onSwc_work _ _ P rfl (fun _ h _ => h) rfl).trans (State.releaseResults_work _ P)

theorem State.activatePurge_work (s : State) (W : ScreenId → Prop) (P : PumpId → Prop) :
    s.WorkFrame W P s.activatePurge := by
  unfold State.activatePurge
  split
  · exact s.onSwc_work _ W P rfl (fun _ h _ => h) rfl
  · exact .refl W P s

@[simp] theorem State.screen_activatePurge (s : State) (n : ScreenId) : s.activatePurge.screen n = s.screen n := by
  unfold State.activatePurge; split <;> rfl

@[simp] theorem State.activatePurge_queue (s : State) : s.activatePurge.swc.queue = s.swc.queue := by
  unfold State.activatePurge; split <;> rfl

theorem State.activatePurge_sluicing (s : State) : s.activatePurge.swc.sluicing = s.swc.sluicing := by
  unfold State.activatePurge; split <;> rfl
theorem State.activatePurge_sluv (s : State) : s.activatePurge.swc.sluv = s.swc.sluv := by
  unfold State.activatePurge; split <;> rfl
theorem State.activatePurge_sluiceMs (s : State) : s.activatePurge.swc.sluiceMs = s.swc.sluiceMs := by
  unfold State.activatePurge; split <;> rfl

theorem State.idlePurge_work (s : State) (W : ScreenId → Prop) (P : PumpId → Prop) : s.WorkFrame W P s.idlePurge :=
  s.onSwc_work _ W P rfl (fun _ h _ => h) rfl

theorem State.finishPurge_work (s : State) (W : ScreenId → Prop) (P : PumpId → Prop) : s.WorkFrame W P s.finishPurge :=
  ((s.idlePurge_work W P).trans (State.publishHeld_work _ W P)).trans (State.reevaluate_work _ W P)

theorem State.finishContinuous_work (s : State) (P : PumpId → Prop) :
    s.WorkFrame (fun _ => True) P s.finishContinuous :=
  State.foldl_work _ (fun s n => by
    split
    · split
      · exact s.enterScreen_work _ P trivial
      · exact .refl _ P s
    · exact .refl _ P s) _ s

/-! ## The wash queue -/

theorem State.joinQueue_work (s : State) {n : ScreenId} (c : WashClass) (p : Nat) (m : Option Nat) (P : PumpId → Prop)
    (hn : W n) : s.WorkFrame W P (s.joinQueue n c p m) := by
  refine .trans (s.onSwc_work _ W P rfl (fun e he hw => ?_) rfl) (State.enterScreen_work _ _ P hn)
  simp only [List.mem_append, List.mem_singleton] at he
  rcases he with he | rfl
  · exact he
  · exact absurd hn hw

theorem State.mergeQueue_work (s : State) {n : ScreenId} (c : WashClass) (p : Nat) (m : Option Nat) (P : PumpId → Prop)
    (hn : W n) : s.WorkFrame W P (s.mergeQueue n c p m) := by
  refine s.onSwc_work _ W P rfl (fun e he hw => ?_) rfl
  obtain ⟨d, hd, rfl⟩ := List.mem_map.mp he
  by_cases h : d.screen = n
  · have : W d.screen := h ▸ hn
    simp [h, QueueEntry.merge] at hw
    exact absurd hn hw
  · simpa [h] using hd

theorem State.leaveQueue_work (s : State) (n : ScreenId) (W : ScreenId → Prop) (P : PumpId → Prop) :
    s.WorkFrame W P (s.leaveQueue n) :=
  s.onSwc_work _ W P rfl (fun _ he _ => List.mem_of_mem_filter he) rfl

theorem State.stage_work (s : State) {n : ScreenId} (g : Staged) (P : PumpId → Prop) (hn : W n) :
    s.WorkFrame W P (s.stage n g) := s.onScreen_work n _ P hn (by intro _; rfl)

theorem State.removeEntry_work (s : State) {n : ScreenId} (next : ScreenState) (P : PumpId → Prop) (hn : W n) :
    s.WorkFrame W P (s.removeEntry n next) :=
  (((s.complete_work _ _ _ W P).trans (State.leaveQueue_work _ n W P)).trans (State.enterScreen_work _ _ P hn)).trans
    (State.reevaluate_work _ W P)

/-! ## The end of a wash -/

theorem State.follow_work (s : State) {n : ScreenId} (next : ScreenState) (P : PumpId → Prop) (hn : W n) :
    s.WorkFrame W P (s.follow n next) := by
  unfold State.follow
  split
  · exact (s.onScreen_work n _ P hn (by intro _; rfl)).trans (State.enterScreen_work _ _ P hn)
  · split
    · exact (s.onScreen_work n _ P hn (by intro _; rfl)).trans (State.enterScreen_work _ _ P hn)
    · exact (s.onScreen_work n _ P hn (by intro _; rfl)).trans (State.joinQueue_work _ _ _ _ P hn)

/-- With no staged wash the screen enters its next state (R84). -/
theorem State.follow_none (s : State) {n : ScreenId} (next : ScreenState) (h : (s.screen n).staged = none) :
    s.follow n next = (s.onScreen n fun sc => { sc with wash := none }).enterScreen n next := by
  simp [State.follow, h]

theorem State.withdrawStaged_work (s : State) {n : ScreenId} (next : ScreenState) (P : PumpId → Prop) (hn : W n) :
    s.WorkFrame W P (s.withdrawStaged n next) := by
  unfold State.withdrawStaged
  refine .trans ?_ (State.enterScreen_work _ _ P hn)
  refine .trans ?_ (State.onScreen_work n _ _ P hn (by intro _; rfl))
  split
  · exact .refl W P s
  · exact s.complete_work _ _ _ W P

theorem State.concludeWash_work (s : State) {n : ScreenId} (w : WashRecord) (o : WashOutcome) (next : ScreenState)
    (P : PumpId → Prop) (hn : W n) : s.WorkFrame W P (s.concludeWash n w o next) := by
  unfold State.concludeWash
  refine .trans ?_ (State.onScreen_work n _ _ P hn (by intro _; rfl))
  refine State.WorkFrame.trans (t := s.enterResult n (resultOf w o s.stamp)) (s.enterResult_work _ P hn) ?_
  cases o
  case complete => exact State.follow_work _ _ P hn
  all_goals exact State.withdrawStaged_work _ _ P hn

theorem State.flushTrough_work (s : State) (n : ScreenId) (w : WashRecord) (o : WashOutcome) (W : ScreenId → Prop)
    (P : PumpId → Prop) : s.WorkFrame W P (s.flushTrough n w o) := by
  unfold State.flushTrough
  refine .trans ?_ (State.startSluice_work _ W P)
  split
  · exact s.notify_work _ _ _ _ _ _ W P
  · exact .refl W P s

@[simp] theorem State.screen_flushTrough (s : State) (n m : ScreenId) (w : WashRecord) (o : WashOutcome) :
    (s.flushTrough n w o).screen m = s.screen m := by
  unfold State.flushTrough; split <;> rfl

@[simp] theorem State.flushTrough_queue (s : State) (n : ScreenId) (w : WashRecord) (o : WashOutcome) :
    (s.flushTrough n w o).swc.queue = s.swc.queue := by
  unfold State.flushTrough; split <;> rfl

/-- All that the end of a screen's wash can do. -/
theorem State.endWash_work (s : State) {n : ScreenId} (o : WashOutcome) (next : ScreenState) (P : PumpId → Prop)
    (hn : W n) : s.WorkFrame W P (s.endWash n o next) := by
  unfold State.endWash
  split
  · exact .refl W P s
  · refine .trans ?_ (State.reevaluate_work _ W P)
    refine .trans ?_ (State.publishHeld_work _ W P)
    refine .trans ?_ (State.activatePurge_work _ W P)
    exact (s.concludeWash_work _ _ _ P hn).trans (State.flushTrough_work _ _ _ _ W P)

theorem State.endWashes_work (s : State) (p : State → ScreenId → Bool) (o : WashOutcome) (P : PumpId → Prop) :
    s.WorkFrame (fun _ => True) P (s.endWashes p o) :=
  State.foldl_work _ (fun s n => by
    split
    · exact s.endWash_work _ _ P trivial
    · exact .refl _ P s) _ s

/-- All that the header clear can do. -/
theorem State.clearHeader_work (s : State) (o : WashOutcome) (P : PumpId → Prop) :
    s.WorkFrame (fun _ => True) P (s.clearHeader o) := by
  unfold State.clearHeader
  dsimp only
  refine .trans ?_ (State.publishHeld_work _ _ P)
  have h := State.foldl_work (W := fun _ => True) (P := P) (fun t n =>
    if (t.screen n).state.isWashing then
      match (t.screen n).wash with
      | some w => (t.concludeWash n w o .idle).flushTrough n w o
      | none => t
    else t) (fun s n => by
      split
      · split
        · exact (s.concludeWash_work _ _ _ P trivial).trans (State.flushTrough_work _ _ _ _ _ P)
        · exact .refl _ P s
      · exact .refl _ P s) allScreens s
  revert h
  generalize List.foldl _ s allScreens = u
  intro h
  have h2 := State.ite_work (c := u.swc.sluicing = true) (h.trans (State.endSluice_work _ P)) h
  exact State.ite_work h2 (h2.trans (State.idlePurge_work _ _ P))

/-- A screen after the end of a wash by a result other than COMPLETE, before the arbiter re-evaluates (R76, R85, R87). -/
theorem State.screen_concludeWash_abort (s : State) (n m : ScreenId) (w : WashRecord) {o : WashOutcome}
    (next : ScreenState) (ho : o ≠ .complete) :
    (s.concludeWash n w o next).screen m =
      if n = m then { s.screen m with
        previous := (s.screen m).current, current := some (resultOf w o s.stamp), staged := none, wash := none
        state := next, drive := next.isWashing, spray := next.isWashing, sinceEnd := 0 }
      else s.screen m := by
  have key : ∀ t : State, (t.withdrawStaged n next).screen m = if n = m then { t.screen m with
      staged := none, wash := none, state := next, drive := next.isWashing, spray := next.isWashing } else t.screen m := by
    intro t
    unfold State.withdrawStaged
    rw [State.screen_enterScreen, State.screen_onScreen]
    split
    · split <;> simp
    · split <;> simp
  unfold State.concludeWash
  rw [State.screen_onScreen]
  cases o <;> first
    | exact absurd rfl ho
    | (dsimp only
       rw [key, State.screen_enterResult]
       split <;> simp)

/-- A screen after a COMPLETE wash with no staged one, before the arbiter re-evaluates (R76, R84, R87). -/
theorem State.screen_concludeWash_complete (s : State) (n m : ScreenId) (w : WashRecord) (next : ScreenState)
    (hs : (s.screen n).staged = none) :
    (s.concludeWash n w .complete next).screen m =
      if n = m then { s.screen m with
        previous := (s.screen m).current, current := some (resultOf w .complete s.stamp), wash := none
        state := next, drive := next.isWashing, spray := next.isWashing, sinceEnd := 0 }
      else s.screen m := by
  have h1 : ((s.enterResult n (resultOf w .complete s.stamp)).screen n).staged = none := by
    rw [State.screen_enterResult]; simpa using hs
  unfold State.concludeWash
  dsimp only
  rw [State.screen_onScreen, State.follow_none _ _ h1, State.screen_enterScreen, State.screen_onScreen,
    State.screen_enterResult]
  split <;> simp

/-- The end of a wash leaves the other screens to the arbiter: what it concludes, it grants upon (R76, R103). -/
theorem State.endWash_after (s : State) (n : ScreenId) {w : WashRecord} (o : WashOutcome) (next : ScreenState)
    (hw : (s.screen n).wash = some w) :
    ∃ v : State, v.DutyFrame (fun _ => False) (s.endWash n o next)
      ∧ v.swc.sluicing = true ∧ v.swc.sluv = true ∧ v.swc.sluiceMs = 0
      ∧ (∀ m, v.screen m = (s.concludeWash n w o next).screen m)
      ∧ v.swc.queue = (s.concludeWash n w o next).swc.queue := by
  refine ⟨((s.concludeWash n w o next).flushTrough n w o).activatePurge, ?_, ?_, ?_, ?_, ?_, ?_⟩
  · unfold State.endWash
    rw [hw]
    exact (State.publishHeld_duty _ _).trans (State.reevaluate_duty _ _)
  · rw [State.activatePurge_sluicing]; rfl
  · rw [State.activatePurge_sluv]; rfl
  · rw [State.activatePurge_sluiceMs]; rfl
  · intro m; simp
  · simp

end Sys2Proof.Machine
end

