-- ==== Sys2Proof/Tests/Slice0.lean ====
section
/-! SUPPORT. Sys2Proof/Tests/Slice0.lean: tests of the model on small states, their expected values taken from the
manual's rules and worked cases; a smoke test of WellFormed, with an ill-formed command for each check; and for each
statement with hypotheses a state and operands that meet them, clause by clause, at boundary values. -/

namespace Sys2Proof.Tests

open Sys2Proof Sys2Proof.Machine

set_option Elab.async false

/-! ## Helpers -/

/-- The state a step answers. -/
def after (o : Host.Outcome State Fault Refusal) : State :=
  match o with
  | .next t => t
  | .fault _ | .refused _ => {}

/-- The reply the transmitter sends. -/
def sent (s : State) : Reply :=
  match s.slp.tx with
  | .reply r => r
  | .free | .batch _ _ _ => ⟨0#8, 0#8, 0#8, .ok, []⟩

/-- A part at work, every block at its start-up value. -/
def run : State := { phase := .running }

/-- A notice of a class. -/
def note (c : NoticeClass) : Notice := ⟨c, .rotated, 1, 0, 0, 0, 0⟩

/-- The state with `k` notices queued. -/
def queued (k : Nat) (s : State) : State := { s with slp := { s.slp with notices := List.replicate k (note .status) } }

/-- A part at work in fallback. -/
def fallen : State := { run with slp := { run.slp with fallback := true } }

/-- A part at work in MANUAL. -/
def byHand : State := { run with pdc := { run.pdc with mode := .manual } }

/-- The state with one request held. -/
def asked (i : Instr) (s : State) : State :=
  { s with slp := { s.slp with requests := [⟨kindOf i, 0x11#8, i⟩] } }

theorem asked_takes (i : Instr) (s : State) (h : s.phase = .running) (w : s.slp.waiting = none) (x : s.slp.tx = .free) :
    (asked i s).Takes i := ⟨h, by simp [asked, Slp.replyOutstanding, w, x], _, _, rfl, rfl⟩

theorem run_takes (i : Instr) : (asked i run).Takes i := asked_takes i run rfl rfl rfl

theorem fallen_takes (i : Instr) : (asked i fallen).Takes i := asked_takes i fallen rfl rfl rfl

theorem byHand_takes (i : Instr) : (asked i byHand).Takes i := asked_takes i byHand rfl rfl rfl

/-- A wash of two passes at its last pass, its guard just reached and its pass timer run out. -/
def lastPass : WashRecord :=
  { passes := 2, cls := .host, mark := none, counter := 0, accepted := 2, passTimer := 300000, guard := some 3000 }

/-- A plant with screen 1 washing, screen 2 queued with a deferred request that follows it, screen 3 jammed, screen 4 out
of service, and screens 5 and 6 idle. -/
def plant (st : ScreenState) (w : WashRecord) (g : Option Staged) : State :=
  { run with
    swc :=
      { screens := #v[{ state := st, wash := some w, staged := g, drive := true, spray := true }, { state := .queued },
          { state := .jammed }, { state := .outOfService }, {}, {}]
        queue := [⟨1, .host, 2, some 3, 0⟩]
        hdok := true }
    pdc := { headerHeld := true }
    slp := { slots := #v[some ⟨.washScreen, .screen 1, [], 3, .inProgress⟩, none, none, none] } }

theorem plant_sound (st : ScreenState) (h : st = .washing ∨ st = .finishing) (w : WashRecord) (g : Option Staged) :
    (plant st w g).SwcSound := by
  rcases h with rfl | rfl <;> cases g <;> refine ⟨?_, ?_, ?_, ?_, fun h => absurd rfl h⟩ <;>
    first
      | unfold State.HeaderShared; exact of_decide_eq_true rfl
      | unfold State.RecordsMatch; exact of_decide_eq_true rfl
      | unfold State.StagedMatch; exact of_decide_eq_true rfl
      | unfold State.QueueMatches; exact of_decide_eq_true rfl

theorem plant_current (st : ScreenState) (h : st = .washing ∨ st = .finishing) (w : WashRecord) (g : Option Staged) :
    (plant st w g).PublicationsCurrent := by
  rcases h with rfl | rfl <;> exact ⟨rfl, rfl, of_decide_eq_true rfl⟩

theorem plant_outputs (w : WashRecord) (g : Option Staged) : (plant .washing w g).OutputsAgree :=
  ⟨of_decide_eq_true rfl, of_decide_eq_true rfl, rfl, rfl⟩

theorem plant_takes (i : Instr) (w : WashRecord) (g : Option Staged) : (asked i (plant .washing w g)).Takes i :=
  asked_takes i _ rfl rfl rfl

/-- The same plant with a request held is as sound. -/
theorem asked_sound (i : Instr) (s : State) (h : s.SwcSound) : (asked i s).SwcSound :=
  ⟨h.header, h.records, h.staged, h.queue, h.clear⟩

theorem asked_current (i : Instr) (s : State) (h : s.PublicationsCurrent) : (asked i s).PublicationsCurrent :=
  ⟨h.running, h.held, h.counts⟩

/-- Pump 1 in a state, with a deferred request of opening number 5 that follows it in slot 2. -/
def pumpIn (f : Pump → Pump) : State :=
  { run.onPump 0 f with slp := { slots := #v[none, some ⟨.startPump, .pump 0, [], 5, .inProgress⟩, none, none] } }

/-! ## WellFormed refuses: one ill-formed command for each check -/

theorem test_wellFormed_refuses :
    (Instr.loadingEnd ⟨true, Vector.replicate 12 65536⟩).wellFormed = false
      ∧ (Instr.scanTimerExpiry (Vector.replicate 12 65536) 0).wellFormed = false
      ∧ (Instr.scanTimerExpiry (Vector.replicate 12 0) 13).wellFormed = false
      ∧ (Instr.frameReceived ⟨1#8, 0#8, List.replicate 121 0#8, 0#16⟩).wellFormed = false
      ∧ (Instr.unknownKind 0x80#8).wellFormed = false ∧ (Instr.unknownKind 0x01#8).wellFormed = false
      ∧ (Instr.getScreen (.args 256)).wellFormed = false ∧ (Instr.setDemand (.args 65536)).wellFormed = false
      ∧ (Instr.getConfig (.args (256, 0))).wellFormed = false ∧ (Instr.getConfig (.args (0, 256))).wellFormed = false
      ∧ (Instr.washScreen (.args (256, 0))).wellFormed = false ∧ (Instr.washScreen (.args (1, 65536))).wellFormed = false
      ∧ (Instr.setDutyOrder (.args [1, 2, 3, 4, 5, 6, 7])).wellFormed = false
      ∧ (Instr.setDutyOrder (.args [1, 2, 3, 4, 5, 6, 7, 256])).wellFormed = false
      ∧ (Instr.setClockAbsolute (.args 4294967296)).wellFormed = false
      ∧ (Instr.setClockStep (.args 2147483648)).wellFormed = false
      ∧ (Instr.setClockStep (.args (-2147483649))).wellFormed = false
      ∧ (Instr.tidePoints (.args (List.replicate 20 ⟨0, 0⟩))).wellFormed = false
      ∧ (Instr.tidePoints (.args [⟨4294967296, 0⟩])).wellFormed = false
      ∧ (Instr.tidePoints (.args [⟨0, 32768⟩])).wellFormed = false := by
  decide +kernel

theorem test_wellFormed_refuses_settings :
    (Instr.setChannel (.args { channel := 256 })).wellFormed = false
      ∧ (Instr.setChannel (.args { channel := 0, enabled := some 256 })).wellFormed = false
      ∧ (Instr.setChannel (.args { channel := 0, zero := some 65536 })).wellFormed = false
      ∧ (Instr.setChannel (.args { channel := 0, gain := some 65536 })).wellFormed = false
      ∧ (Instr.setChannel (.args { channel := 0, elevation := some (-32769) })).wellFormed = false
      ∧ (Instr.setChannel (.args { channel := 0, shift := some 65536 })).wellFormed = false
      ∧ (Instr.setSea (.args { tolerance := some 65536 })).wellFormed = false
      ∧ (Instr.setSea (.args { lostLimit := some 65536 })).wellFormed = false
      ∧ (Instr.setBandEntry (.args ⟨0, 0, 0, 0, 1, 0, 0, 0, 0, 0⟩)).wellFormed = false
      ∧ (Instr.setBandEntry (.args ⟨1, 0, 0, -32769, 1, 0, 0, 0, 0, 0⟩)).wellFormed = false
      ∧ (Instr.setBandEntry (.args ⟨1, 0, 0, 0, 1, 0, 0, 256, 0, 0⟩)).wellFormed = false
      ∧ (Instr.setScreen (.args { screen := 1, blind := some 65536 })).wellFormed = false
      ∧ (Instr.setWashTiming (.args { lossDelay := some 65536 })).wellFormed = false
      ∧ (Instr.setPump (.args { pump := 1, inlet := some 32768 })).wellFormed = false
      ∧ (Instr.setPump (.args { pump := 1, cls := some 256 })).wellFormed = false
      ∧ (Instr.setPumpTiming (.args { fallbackDemand := some 65536 })).wellFormed = false
      ∧ (Instr.setLink (.args { rate := some 256 })).wellFormed = false
      ∧ (Instr.setLink (.args { discard := some 65536 })).wellFormed = false := by decide

/-! ## The bytes of the link (Chapter 8) -/

/-- The CRC of the nine ASCII digits (R158). -/
theorem test_crc : crc16 [0x31#8, 0x32#8, 0x33#8, 0x34#8, 0x35#8, 0x36#8, 0x37#8, 0x38#8, 0x39#8] = 0x29B1#16 := by
  decide +kernel

/-- Payloads written out from section 8.5 and R166. -/
theorem test_payloads :
    decodeRequest 0x01#8 [] = .getStatus (.args ())
      ∧ decodeRequest 0x11#8 [0x28#8, 0x0A#8] = .setDensity (.args 10250)
      ∧ decodeRequest 0x1B#8 [0x01#8] = .setDutyMode (.args 1)
      ∧ decodeRequest 0x1E#8 [0x01#8, 0xFF#8, 0xFF#8, 0xF1#8, 0xF0#8] = .setClockStep (.args (-3600))
      ∧ decodeRequest 0x40#8 [0x04#8, 0x00#8, 0x02#8] = .washScreen (.args (4, 2))
      ∧ decodeRequest 0x42#8 [0x07#8, 0x01#8] = .stopPump (.args (7, 1))
      ∧ decodeRequest 0x20#8 [0x01#8, 0x00#8, 0x01#8, 0x00#8, 0x00#8, 0xFF#8, 0xFE#8] = .tidePoints (.args [⟨65536, -2⟩])
      ∧ decodeRequest 0x18#8 [0x03#8, 0x06#8, 0x01#8, 0xF5#8, 0xD8#8]
          = .setPump (.args { pump := 3, cls := some 1, inlet := some (-2600) })
      ∧ decodeRequest 0x18#8 [0x03#8, 0x01#8, 0x01#8] = .setPump .mismatch
      ∧ decodeRequest 0x13#8 [0x0C#8, 0x00#8, 0x32#8, 0x00#8, 0x3C#8]
          = .setSea (.args { tolerance := some 50, lostLimit := some 60 })
      ∧ decodeRequest 0x13#8 [0x08#8, 0x01#8, 0x2C#8] = .setSea (.args { lostLimit := some 300 })
      ∧ (∀ sel ∈ [0x01#8, 0x02#8, 0x10#8], decodeRequest 0x13#8 [sel, 0x00#8, 0x32#8] = .setSea .mismatch)
      ∧ encodeRequest (.setSea (.args { tolerance := some 50 })) = some (0x13#8, [0x04#8, 0x00#8, 0x32#8])
      ∧ decodeRequest 0x01#8 [0x00#8] = .getStatus .mismatch
      ∧ decodeRequest 0x24#8 [] = .unknownKind 0x24#8 := by decide +kernel

/-! ## The level chain and the tide (Chapters 1 and 2), with the manual's own figures -/

/-- R8: s = 10000 gives −116, and 2.5 and −2.5 round away from zero. -/
theorem test_rounding :
    roundDiv (-474822) 4096 = -116 ∧ roundDiv 5 2 = 3 ∧ roundDiv (-5) 2 = -3 ∧ roundDiv 3419 2 = 1710
      ∧ roundDiv (-3421) 2 = -1711 := by decide

/-- R16: the mean of two levels is rounded half away from zero. -/
theorem test_vote :
    voteSea [1712, 1709] 0 = 1711 ∧ voteSea [-1712, -1709] 0 = -1711 ∧ voteSea [5, 5, 1] 0 = 5 ∧ voteSea [] 7 = 7 := by
  decide

/-- R17: a spread at the tolerance, and at twice the tolerance. -/
theorem test_class :
    classifySea [0, 50, 20] 50 = .agree ∧ classifySea [0, 100, 20] 50 = .spread
      ∧ classifySea [0, 101, 20] 50 = .diverged := by decide

/-- R10: the dead band at k = 3 is 4 below and 3 above. -/
theorem test_filter :
    filterLevel true 3 100 103 = 100 ∧ filterLevel true 3 100 104 = 101 ∧ filterLevel true 3 100 96 = 100
      ∧ filterLevel true 3 100 95 = 99 ∧ filterLevel false 3 100 95 = 95 := by decide

/-- R29: a rate over two steps of 15 s, and its limit. -/
theorem test_rate :
    rateOf [⟨0, 0⟩, ⟨0, 9⟩, ⟨0, 1⟩] 15 = some 120 ∧ rateOf [⟨0, 0⟩, ⟨0, 500⟩] 15 = some 9999 ∧ rateOf [⟨0, 0⟩] 15 = none := by
  decide

/-! ## Hypotheses met: the whole part -/

theorem test_hyps_StepRunsTheFrontCommand : ({ run with pending := [.scanEvent] } : State).pending = .scanEvent :: [] := rfl

/-- A part at work with every pump disabled, where nothing is due. -/
def quiet : State := { run with pdc := { pumps := Vector.replicate 8 { enabled := false, state := .disabled } } }

theorem test_hyps_EmptyQueueStep :
    ({ phase := .resetHeld } : State).pending = [] ∧ (run.pending = [] ∧ run.dueEvents ≠ [])
      ∧ (quiet.pending = [] ∧ quiet.phase = .running ∧ quiet.dueEvents = [] ∧ quiet.lau.scan = none)
      ∧ (let s := { quiet with lau := { scan := some ⟨Vector.replicate 12 0, 0, 0⟩ } }
         s.phase = .running ∧ s.dueEvents = [] ∧ s.lau.scan ≠ none)
      ∧ (State.reset.phase = .loading ∧ State.reset.dueEvents = []) := by decide +kernel

/-- A plant about to take an index pulse on the washing screen. -/
def busy : State := { plant .washing lastPass none with pending := [.indexPulse 0] }

theorem busy_steps : ∃ t, step busy = .next t := ⟨_, rfl⟩

theorem test_hyps_OutputsFollowStates : busy.OutputsAgree ∧ ∃ t, step busy = .next t :=
  ⟨⟨of_decide_eq_true rfl, of_decide_eq_true rfl, rfl, rfl⟩, busy_steps⟩

theorem test_hyps_TablesStaySound :
    busy.OneStarting ∧ busy.TablesSound ∧ busy.BanksSound ∧ ∃ t, step busy = .next t := by
  refine ⟨by unfold State.OneStarting; decide +kernel, ⟨by unfold State.RingBounded; decide,
    by unfold State.StartsDiffer; decide, ?_, ?_, ?_⟩, ⟨of_decide_eq_true rfl, of_decide_eq_true rfl, fun b => ?_⟩, busy_steps⟩
  · unfold State.OrderPermutes; exact of_decide_eq_true rfl
  · unfold State.LinkBounded; exact of_decide_eq_true rfl
  · have k : ∀ i : SlotId, busy.slp.slots[i] ≠ none → i = 0 := by decide +kernel
    intro i j a b ha hb _
    exact (k i (by simp [ha])).trans (k j (by simp [hb])).symm
  · have h : busy.twu.banks[b] = {} := by revert b; exact of_decide_eq_true rfl
    rw [h]; exact ⟨rfl, trivial, fun p hp => absurd hp (by simp)⟩

theorem test_hyps_WashesStaySound : busy.SwcSound ∧ ∃ t, step busy = .next t :=
  let h := plant_sound .washing (.inl rfl) lastPass none
  ⟨⟨h.header, h.records, h.staged, h.queue, h.clear⟩, busy_steps⟩

theorem test_hyps_SettingsStaySound : busy.SettingsSound ∧ busy.RecoverySound ∧ ∃ t, step busy = .next t :=
  ⟨⟨by decide +kernel, by decide +kernel⟩, by unfold State.RecoverySound; decide +kernel, busy_steps⟩

theorem test_hyps_ConditionStaysCurrent :
    busy.LoadingAtStart ∧ busy.ConditionCurrent ∧ ∃ t, step busy = .next t :=
  ⟨fun h => absurd rfl h, rfl, busy_steps⟩

theorem test_hyps_PublicationsStayCurrent :
    busy.SwcSound ∧ busy.LoadingAtStart ∧ busy.PublicationsCurrent ∧ ∃ t, step busy = .next t :=
  ⟨test_hyps_WashesStaySound.1, fun h => absurd rfl h, ⟨rfl, rfl, of_decide_eq_true rfl⟩, busy_steps⟩

theorem test_hyps_OnlyScansAndSettingsTouchTheLau : ∃ t, exec (.hdokChange false) busy = .next t := ⟨_, rfl⟩

/-! ## Hypotheses met: start-up -/

theorem test_hyps_StartUpBeginsLoading :
    run.phase ≠ .resetHeld ∧ ({ phase := .resetHeld } : State).phase = .resetHeld
      ∧ (encodeRequest (.getStatus (.args ()))).isSome = true := by decide

/-- LOADING with a memory. -/
def loadingWith (image : Bool) (m : List Byte) : State := { slp := { fromImage := image, memory := m } }

theorem loadingWith_start (image : Bool) (m : List Byte) : (loadingWith image m).AtStartUp :=
  ⟨rfl, rfl, of_decide_eq_true rfl, of_decide_eq_true rfl, rfl⟩

/-- The code of a failed check. -/
def errorOf (m : List Byte) (answers : Bool) : Option (Nat × Int) :=
  match readImage m answers with
  | .error e => some (e.code, e.sec)
  | .ok _ => none

theorem test_hyps_LoadingEnds :
    (∀ image m, (loadingWith image m).phase = .loading ∧ (loadingWith image m).AtStartUp
        ∧ (loadingWith image m).slp.tx = .free ∧ (loadingWith image m).slp.save = none
        ∧ (loadingWith image m).slp.fromImage = image)
      ∧ errorOf [] false = some (1, -1) ∧ errorOf [] true = some (2, -1) ∧ errorOf [0x00#8, 0, 0] true = some (2, -1)
      ∧ errorOf [0x01#8, 0x08#8, 0x01#8] true = some (3, -1) :=
  ⟨fun _ _ => ⟨rfl, loadingWith_start _ _, rfl, rfl, rfl⟩, by decide +kernel⟩

theorem test_hyps_SavedImageRestoresSettings :
    run.SettingsSound ∧ (loadingWith true (run.image ++ [0x55#8])).slp.memory = run.image ++ [0x55#8]
      ∧ (loadingWith true (run.image ++ [0x55#8])).slp.fromImage = true
      ∧ (loadingWith true (run.image ++ [0x55#8])).slp.save = none :=
  ⟨⟨by decide +kernel, by decide +kernel⟩, rfl, rfl, rfl⟩

/-! ## Hypotheses met: levels, tide and bands -/

theorem test_hyps_LevelChainOfASample :
    (9436 < 9437 ∧ 55050 < 55051 ∧ 9437 ≤ 55050) ∧ (0 < 10250)
      ∧ (({ seeded := true, shift := 3 } : Channel).seeded = true ∧ 0 < ({ seeded := true, shift := 3 } : Channel).shift)
      ∧ (({ seeded := true, shift := 0 } : Channel).seeded = false ∨ ({ seeded := true, shift := 0 } : Channel).shift = 0)
      ∧ 2 * (4096 * (-116) - (-486) * 977) ≠ 4096 := by decide

theorem test_hyps_FilterLiesBetween :
    (100 - 2 ^ (3 - 1) ≤ (96 : Int) ∧ (103 : Int) < 100 + 2 ^ (3 - 1)) ∧ 100 + 2 ^ (3 - 1) ≤ (104 : Int)
      ∧ (95 : Int) < 100 - 2 ^ (3 - 1) ∧ (1 ≤ 3) := by decide

/-- A part at work whose scan timer has just run out. -/
def scanDue : State := { run with lau := { timer := 500 } }

theorem test_hyps_ScanTimerStartsAScan :
    scanDue.phase = .running ∧ scanDue.lau.period ≤ scanDue.lau.timer ∧ scanDue.lau.scan = none ∧ (12 ≤ 12)
      ∧ (queued 20 scanDue).slp.notices.length + 12 ≤ 32 := by decide

theorem test_hyps_ScanEventPublishesTheRecord :
    let s := { run with lau := { scan := some ⟨Vector.replicate 12 33000, 12, 500⟩ } }
    s.phase = .running ∧ s.lau.scan = some ⟨Vector.replicate 12 33000, 12, 500⟩ := ⟨rfl, rfl⟩

theorem test_hyps_LauSettingsTaken :
    (asked (.setDensity (.args 10401)) run).Takes (.setDensity (.args 10401))
      ∧ (asked (.setScan (.args 149)) run).Takes (.setScan (.args 149))
      ∧ ((asked (.setSea (.args { tolerance := some 9 })) run).Takes (.setSea (.args { tolerance := some 9 }))
        ∧ ({ tolerance := some 9 } : SeaArgs).tolerance ≠ none)
      ∧ (asked (.setChannel (.args { channel := 12, zero := some 0 })) run).Takes
          (.setChannel (.args { channel := 12, zero := some 0 }))
      ∧ ((asked (.setChannel (.args { channel := 11, enabled := some 0 })) run).Takes
          (.setChannel (.args { channel := 11, enabled := some 0 }))
        ∧ ({ channel := 11, enabled := some 0 } : ChannelArgs) ≠ { channel := 11 } ∧ 11 = (11 : ChannelId).val
        ∧ run.lau.channels[(11 : ChannelId)].enabled = true) :=
  ⟨run_takes _, run_takes _, ⟨run_takes _, by decide⟩, run_takes _, run_takes _, by decide, rfl, rfl⟩

/-- A part at work whose trend timer has just run out, with a sea class. -/
def trendDue (c : SeaClass) : State := { run with lau := { record := { cls := c } }, twu := { trendTimer := 15000 } }

theorem test_hyps_TrendRingAndRate :
    ((trendDue .lost).twu.trendInterval * 1000 ≤ (trendDue .lost).twu.trendTimer ∧ (trendDue .lost).lau.record.cls = .lost)
      ∧ ((trendDue .agree).lau.record.cls ≠ .lost ∧ (trendDue .agree).RingBounded) ∧ (0 < 15)
      ∧ ((asked (.setTrend (.args 4)) run).Takes (.setTrend (.args 4)) ∧ 5 = heldTo 5 60 4 ∧ 5 ≠ run.twu.trendInterval)
      ∧ ((asked (.setTrend (.args 15)) run).Takes (.setTrend (.args 15)) ∧ heldTo 5 60 15 = run.twu.trendInterval) :=
  ⟨by decide, ⟨by decide, by unfold State.RingBounded; decide⟩, by decide, ⟨run_takes _, by decide, by decide⟩,
    run_takes _, by decide⟩

/-- A part at work with two banks, the first the loading one, at an intake time. -/
def tideAt (loading standing : Bank) (time : Nat) : State :=
  { run with twu := { banks := #v[loading, standing] }, slp := { time := time, timeSet := true } }

/-- Two points, 60 s apart. -/
def twoPoints : List TidePoint := [⟨100, 0⟩, ⟨160, 7⟩]

theorem test_hyps_PredictionInterpolates :
    run.slp.timeSet = false
      ∧ (let s := tideAt {} ⟨.active, twoPoints⟩ 130
         s.twu.banks[s.twu.standing].points = [] ++ ⟨100, 0⟩ :: ⟨160, 7⟩ :: [] ∧ s.slp.time = 130 ∧ s.slp.timeSet = true
          ∧ s.twu.banks[s.twu.standing].state = .active ∧ gapsHold twoPoints ∧ 2 ≤ twoPoints.length
          ∧ 100 ≤ 130 ∧ 130 ≤ 160)
      ∧ (⟨160, 7⟩ : TidePoint) ∈ twoPoints ∧ (∀ p ∈ twoPoints, 99 < p.time) ∧ (∀ p ∈ twoPoints, p.time < 161) :=
  ⟨rfl, ⟨rfl, rfl, rfl, rfl, ⟨by decide, by decide, trivial⟩, by decide, by decide, by decide⟩, by decide, by decide,
    by decide⟩

theorem tideAt_sound (loading standing : Bank) (time : Nat) (h : loading.state ≠ .active)
    (g : standing.state = .empty ∨ standing.state = .active)
    (k : ∀ b ∈ [loading, standing], b.CountFits ∧ gapsHold b.points ∧ ∀ p ∈ b.points, -30000 ≤ p.level ∧ p.level ≤ 30000) :
    (tideAt loading standing time).BanksSound := by
  exact ⟨h, g, fun
    | ⟨0, _⟩ => k loading (by simp)
    | ⟨1, _⟩ => k standing (by simp)⟩

theorem twoPoints_sound : gapsHold twoPoints ∧ ∀ p ∈ twoPoints, -30000 ≤ p.level ∧ p.level ≤ 30000 :=
  ⟨⟨by decide, by decide, trivial⟩, by decide⟩

/-- The notices of a swap at its boundaries: an ACTIVE bank just passed and one reached at its first point. -/
theorem test_hyps_BankCheckFollowsTime_swaps :
    (let s := queued 30 (tideAt ⟨.sealed, twoPoints⟩ ⟨.active, [⟨0, 0⟩, ⟨99, 0⟩]⟩ 100)
     s.slp.timeSet = true ∧ s.twu.banks[s.twu.loading].state = .sealed ∧ s.twu.banks[s.twu.standing].state = .active
      ∧ s.twu.banks[s.twu.standing].points.getLast? = some ⟨99, 0⟩ ∧ 99 < s.slp.time ∧ ¬ 160 < s.slp.time
      ∧ s.slp.notices.length ≤ 30)
      ∧ (let s := queued 30 (tideAt ⟨.sealed, twoPoints⟩ {} 161)
         s.slp.timeSet = true ∧ s.twu.banks[s.twu.standing].state = .empty
          ∧ s.twu.banks[s.twu.loading].points.head? = some ⟨100, 0⟩ ∧ 100 ≤ s.slp.time
          ∧ s.twu.banks[s.twu.loading].points.getLast? = some ⟨160, 7⟩ ∧ 160 < s.slp.time ∧ s.slp.notices.length ≤ 30)
      ∧ (let s := queued 31 (tideAt {} ⟨.active, twoPoints⟩ 161)
         s.slp.timeSet = true ∧ s.twu.banks[s.twu.loading].state ≠ .sealed ∧ s.slp.notices.length < 32) := by decide +kernel

theorem test_hyps_BankCheckFollowsTime :
    (tideAt ⟨.sealed, twoPoints⟩ {} 100).BanksSound ∧ (tideAt ⟨.sealed, twoPoints⟩ ⟨.active, twoPoints⟩ 161).BanksSound
      ∧ (tideAt {} ⟨.active, twoPoints⟩ 161).BanksSound ∧ (tideAt {} ⟨.active, twoPoints⟩ 160).BanksSound
      ∧ (let s := { run with slp := { run.slp with timeSet := true, phaseMs := 1000 } }
         s.slp.timeSet = true ∧ 1000 ≤ s.slp.phaseMs)
      ∧ ((asked (.setClockAbsolute (.args 4294967295)) run).Takes (.setClockAbsolute (.args 4294967295))
        ∧ 4294967295 < 4294967296)
      ∧ ((asked (.setClockStep (.args (-3601))) run).Takes (.setClockStep (.args (-3601))) ∧ run.slp.timeSet = false)
      ∧ ((asked (.setClockStep (.args (-3601))) (tideAt {} {} 3599)).Takes (.setClockStep (.args (-3601)))
        ∧ (-1 : Int) = (3599 : Nat) + max (-3600) (min 3600 (-3601))) := by
  refine ⟨tideAt_sound _ _ _ (by decide) (.inl rfl) ?_, tideAt_sound _ _ _ (by decide) (.inr rfl) ?_,
    tideAt_sound _ _ _ (by decide) (.inr rfl) ?_, tideAt_sound _ _ _ (by decide) (.inr rfl) ?_, by decide,
    ⟨run_takes _, by decide⟩, ⟨run_takes _, rfl⟩, asked_takes _ _ rfl rfl rfl, by decide⟩ <;>
  · intro b hb
    simp only [List.mem_cons, List.not_mem_nil, or_false] at hb
    rcases hb with rfl | rfl <;>
      first
        | exact ⟨⟨by decide, by decide⟩, twoPoints_sound⟩
        | exact ⟨rfl, trivial, fun p hp => absurd hp (by simp)⟩

theorem test_hyps_TideRequestsTaken :
    (∀ ps, (asked (.tidePoints (.args ps)) run).Takes (.tidePoints (.args ps))) ∧ run.twu.loading = 0
      ∧ 8 < (List.replicate 9 (⟨0, 0⟩ : TidePoint)).length ∧ (List.replicate 8 (⟨0, 0⟩ : TidePoint)).length ≤ 8
      ∧ ((tideAt ⟨.sealed, twoPoints⟩ {} 0).twu.banks[(0 : BankId)].state = .sealed)
      ∧ ((tideAt ⟨.filling, twoPoints⟩ {} 0).twu.banks[(0 : BankId)].state = .filling
        ∧ (tideAt ⟨.filling, twoPoints⟩ {} 0).twu.banks[(0 : BankId)].CountFits
        ∧ 2 ≤ (tideAt ⟨.filling, twoPoints⟩ {} 0).twu.banks[(0 : BankId)].points.length)
      ∧ (asked (.tideSeal (.args ())) (tideAt ⟨.filling, twoPoints⟩ {} 0)).Takes (.tideSeal (.args ()))
      ∧ (asked (.tideCommitNow (.args ())) (tideAt ⟨.sealed, twoPoints⟩ {} 0)).Takes (.tideCommitNow (.args ()))
      ∧ (1 : BankId) ≠ 0 ∧ (asked (.tideClear (.args ())) run).Takes (.tideClear (.args ())) :=
  ⟨fun _ => run_takes _, rfl, by decide, by decide, rfl, ⟨rfl, ⟨by decide, by decide⟩, by decide⟩,
    asked_takes _ _ rfl rfl rfl, asked_takes _ _ rfl rfl rfl, by decide, run_takes _⟩

/-- The last point fits 60 s after a bank's last and 3600 s after it, and no nearer or farther. -/
theorem test_point_gaps :
    (100 + 60 ≤ 160 ∧ 160 ≤ 100 + 3600) ∧ ¬ (100 + 60 ≤ 159) ∧ ¬ (3701 ≤ 100 + 3600) := by decide

/-- Three bands on LEVEL: a FAST one, a MEDIUM one beside it, and a SUBTRACTIVE one under both. -/
def threeBands : Twu :=
  { bands := #v[{ enabled := true, low := 0, high := 100, rank := .fast, hysteresis := 10 },
      { enabled := true, low := 100, high := 200, rank := .medium, hysteresis := 10 },
      { enabled := true, low := -500, high := 500, rank := .subtractive }, {}, {}, {}, {}, {}] }

/-- Each step of R51 at a bound of a range: kept to the widened bound, chosen at the low bound, the subtractive band
outside both, and none. -/
theorem test_hyps_ClaimIsDecided :
    threeBands.claimFor .level (some 0) (some 109) = some 0 ∧ threeBands.claimFor .level (some 0) (some 110) = some 1
      ∧ threeBands.claimFor .level none (some 100) = some 1 ∧ threeBands.claimFor .level none (some 0) = some 0
      ∧ threeBands.claimFor .level (some 2) (some 200) = some 2 ∧ threeBands.claimFor .level none (some (-500)) = some 2
      ∧ threeBands.claimFor .level none (some 500) = none ∧ threeBands.claimFor .level (some 0) none = none := by
  decide +kernel

theorem test_hyps_ClaimsReportedAndPublished :
    (let s := { run with twu := { threeBands with handed := { level := some 100 } } }
     some 1 = s.twu.claimFor .level (s.twu.claims.of .level) (s.twu.handed.of .level)
      ∧ (some 1 : Option BandId) ≠ s.twu.claims.of .level ∧ s.slp.notices.length < 32)
      ∧ (none : Option BandId) = run.twu.claimFor .level (run.twu.claims.of .level) (run.twu.handed.of .level)
      ∧ run.twu.condition = run.twu.recomputed
      ∧ (let s := { run with twu := { threeBands with claims := { level := some 1 } } }
         s.twu.condition ≠ s.twu.recomputed) := by decide +kernel

theorem test_hyps_RemindersAndAcknowledgements :
    (let s := { run with twu := { reminderInterval := 60, reminderTimer := 60000 } }
     s.phase = .running ∧ s.twu.reminderInterval ≠ 0 ∧ s.twu.reminderInterval * 1000 ≤ s.twu.reminderTimer
      ∧ s.slp.notices.length ≤ 24)
      ∧ ((asked (.setBandReminder (.args 59)) run).Takes (.setBandReminder (.args 59)) ∧ 60 = heldToOrOff 60 3600 59)
      ∧ ((asked (.ackBand (.args 9)) run).Takes (.ackBand (.args 9)) ∧ 8 < 9)
      ∧ (asked (.ackBand (.args 8)) run).Takes (.ackBand (.args 8)) :=
  ⟨by decide, ⟨run_takes _, by decide⟩, ⟨run_takes _, by decide⟩, run_takes _⟩

theorem test_hyps_BandEntryTaken :
    (∀ b, (asked (.setBandEntry (.args b)) run).Takes (.setBandEntry (.args b))) ∧ (1 ≤ 8 ∧ 8 = (7 : BandId).val + 1)
      ∧ (30000 : Int) = max (-30000) (min 30000 30001) ∧ (29999 : Int) < 30000 ∧ ¬ (30000 : Int) < 30000 :=
  ⟨fun _ => run_takes _, by decide, by decide, by decide, by decide⟩

/-- A part at work whose level stands at the low bound of the entry that is sent for band 1; band 2 is latched. -/
def levelAt (low : Int) : State :=
  { run with twu := { bands := #v[{}, { latched := true, reminders := 3 }, {}, {}, {}, {}, {}, {}]
                      handed := { level := some low } } }

/-- SET BAND for band 1, which takes the level at its low bound, with a notice class. -/
def takesLevel (noticeClass : Nat) : Instr := .setBandEntry (.args ⟨1, 1, 0, 100, 200, 2, 0, 255, 0, noticeClass⟩)

/-- The latch clauses: a claim newly taken with the class ALARM, and with STATUS; and a latched band that takes none. -/
theorem test_hyps_BandEntryTaken_latches (c : Fin 2) :
    (asked (takesLevel c.val) (levelAt 100)).Takes (takesLevel c.val)
      ∧ (let t := after (exec (takesLevel c.val) (asked (takesLevel c.val) (levelAt 100)))
         t.twu.claims.of .level = some 0 ∧ (levelAt 100).twu.claims.of .level ≠ some 0
          ∧ t.twu.bands[(0 : BandId)].noticeClass = (if c = 0 then .alarm else .status)
          ∧ t.twu.bands[(0 : BandId)].latched = decide (c = 0)
          ∧ (∀ q ∈ ([.level, .residual, .rate] : List Quantity), t.twu.claims.of q ≠ some 1)
          ∧ t.twu.bands[(1 : BandId)].latched = true ∧ t.twu.bands[(1 : BandId)].reminders = 3) :=
  ⟨asked_takes _ _ rfl rfl rfl, by revert c; decide +kernel⟩

/-! ## Hypotheses met: screens, the spray header and the sluice -/

/-- A plant with screen 1 in FINISHING and a storm wash staged, whose succession is barred. -/
def barred (hold : Bool) : State :=
  let s := plant .finishing lastPass (some ⟨4, .storm, none⟩)
  if hold then { s with twu := { s.twu with condition := { s.twu.condition with mode := .hold } } }
  else { s with swc := { s.swc with overdue := true, purge := .pending } }

theorem barred_sound (hold : Bool) : (barred hold).SwcSound := by
  cases hold
  all_goals
    refine ⟨?_, ?_, ?_, ?_, fun h => absurd rfl h⟩
    · unfold State.HeaderShared; exact of_decide_eq_true rfl
    · unfold State.RecordsMatch; exact of_decide_eq_true rfl
    · unfold State.StagedMatch; exact of_decide_eq_true rfl
    · unfold State.QueueMatches; exact of_decide_eq_true rfl

theorem test_hyps_IndexPulseActs_barred (hold : Bool) :
    (barred hold).phase = .running ∧ ((barred hold).screen 0).state = .finishing
      ∧ ((barred hold).screen 0).wash = some lastPass ∧ (barred hold).swc.indexGuard * 1000 ≤ 3000
      ∧ (barred hold).SwcSound ∧ ((barred hold).screen 0).staged = some ⟨4, .storm, none⟩
      ∧ ((barred hold).twu.condition.mode = .hold ∨ (barred hold).swc.overdue = true)
      ∧ (hold = true → (barred hold).twu.condition.mode = .hold) := by
  have h := barred_sound hold
  cases hold
  · exact ⟨rfl, rfl, rfl, by decide, h, rfl, .inr rfl, by decide⟩
  · exact ⟨rfl, rfl, rfl, by decide, h, rfl, .inl rfl, fun _ => rfl⟩

theorem test_hyps_IndexPulseActs :
    (run.phase = .running ∧ (run.screen 0).state.isWashing = false)
      ∧ (let s := plant .washing { lastPass with guard := some 2999 } none
         s.phase = .running ∧ (s.screen 0).state.isWashing = true
          ∧ (s.screen 0).wash = some { lastPass with guard := some 2999 } ∧ 2999 < s.swc.indexGuard * 1000)
      ∧ (let s := plant .washing { lastPass with passes := 0 } none
         s.phase = .running ∧ (s.screen 0).state = .washing ∧ (s.screen 0).wash = some { lastPass with passes := 0 }
          ∧ s.swc.indexGuard * 1000 ≤ 3000)
      ∧ (let s := plant .washing { lastPass with counter := 1, guard := none } none
         s.phase = .running ∧ (s.screen 0).state = .washing
          ∧ (s.screen 0).wash = some { lastPass with counter := 1, guard := none })
      ∧ (let s := plant .washing lastPass none
         s.phase = .running ∧ (s.screen 0).state = .washing ∧ (s.screen 0).wash = some lastPass
          ∧ lastPass.passes ≠ 0 ∧ lastPass.counter = 0)
      ∧ (let s := plant .finishing lastPass (some ⟨2, .host, none⟩)
         s.phase = .running ∧ (s.screen 0).state = .finishing ∧ (s.screen 0).wash = some lastPass ∧ s.SwcSound
          ∧ (s.screen 0).staged = some ⟨2, .host, none⟩ ∧ s.twu.condition.mode ≠ .hold ∧ s.swc.overdue = false)
      ∧ (let s := plant .finishing lastPass none
         s.phase = .running ∧ (s.screen 0).state = .finishing ∧ (s.screen 0).wash = some lastPass ∧ s.SwcSound
          ∧ (s.screen 0).staged = none) :=
  ⟨by decide, by decide +kernel, by decide +kernel, by decide +kernel, by decide +kernel,
    ⟨rfl, rfl, rfl, plant_sound _ (.inr rfl) _ _, rfl, by decide, rfl⟩, rfl, rfl, rfl, plant_sound _ (.inr rfl) _ _, rfl⟩

/-- The plant with HDOK false for as long as the header loss delay. -/
def dry : State :=
  let s := plant .washing lastPass none
  { s with swc := { s.swc with hdok := false, falsePeriod := some 5000 } }

theorem test_hyps_StallsAndHeaderLoss :
    (let s := plant .washing lastPass none
     s.phase = .running ∧ s.SwcSound ∧ (s.screen 0).wash = some lastPass ∧ s.swc.passTimeout * 1000 ≤ lastPass.passTimer)
      ∧ false = run.swc.hdok ∧ (true ≠ State.reset.swc.hdok ∧ State.reset.phase ≠ .running)
      ∧ (true ≠ run.swc.hdok ∧ run.phase = .running)
      ∧ (false ≠ (plant .washing lastPass none).swc.hdok ∧ (plant .washing lastPass none).phase = .running)
      ∧ dry.phase = .running ∧ dry.SwcSound ∧ dry.swc.hdok = false ∧ dry.swc.falsePeriod = some 5000
      ∧ dry.swc.lossDelay * 1000 ≤ 5000 ∧ (dry.screen 0).wash = some lastPass ∧ (dry.screen 4).state.isWashing = false :=
  let h := plant_sound .washing (.inl rfl) lastPass none
  ⟨⟨rfl, h, rfl, by decide⟩, rfl, by decide, by decide, by decide, rfl,
    ⟨h.header, h.records, h.staged, h.queue, h.clear⟩, rfl, rfl, by decide, rfl, rfl⟩

theorem test_hyps_JamEdges :
    ((run.onScreen 0 fun sc => { sc with jam := true }).screen 0).jam = true ∧ (run.screen 0).jam = false
      ∧ State.reset.phase ≠ .running ∧ (run.screen 5).state = .idle
      ∧ (let s := plant .washing lastPass none
         (s.screen 2).state = .jammed ∧ (s.screen 3).state = .outOfService
          ∧ s.phase = .running ∧ (s.screen 1).state = .queued ∧ (s.screen 1).jam ≠ true
          ∧ s.SwcSound ∧ s.PublicationsCurrent ∧ (s.screen 0).jam = false ∧ (s.screen 0).wash = some lastPass
          ∧ s.slp.notices.length ≤ 30) :=
  ⟨by decide +kernel, rfl, by decide, rfl, rfl, rfl, rfl, rfl, by decide, plant_sound _ (.inl rfl) _ _,
    plant_current _ (.inl rfl) _ _, rfl, rfl, by decide⟩

/-- The settings and timers of the header changed. -/
def header (f : Swc → Swc) (s : State) : State := { s with swc := f s.swc }

theorem test_hyps_SluiceAndHeaderPurge :
    (let s := header (fun w => { w with sluicing := true, sluiceMs := 60000 }) run
     s.phase = .running ∧ s.swc.sluicing = true ∧ s.swc.sluiceTime * 1000 ≤ s.swc.sluiceMs ∧ s.slp.notices.length ≤ 20)
      ∧ (let s := header (fun w => { w with purgeTimer := 3600000 }) run
         s.phase = .running ∧ s.swc.purge = .idle ∧ s.swc.purgeInterval ≠ 0
          ∧ s.swc.purgeInterval * 60000 ≤ s.swc.purgeTimer ∧ s.anyWashing = false ∧ s.twu.condition.cap ≠ some 0)
      ∧ (let s := header (fun w => { w with purgeTimer := 3600000 }) (plant .washing lastPass none)
         s.phase = .running ∧ s.swc.purge = .idle ∧ s.swc.purgeInterval ≠ 0
          ∧ s.swc.purgeInterval * 60000 ≤ s.swc.purgeTimer ∧ s.anyWashing = true)
      ∧ (let s := header (fun w => { w with purge := .active, activeMs := 30000 }) run
         s.phase = .running ∧ s.swc.purge = .active ∧ s.swc.purgeTime * 1000 ≤ s.swc.activeMs)
      ∧ (let w := { lastPass with passes := 0 }
         let s := header (fun w => { w with purge := .pending, pendingMs := 600000 }) (plant .washing w none)
         s.phase = .running ∧ s.swc.purge = .pending ∧ s.swc.overdue = false ∧ s.swc.deferral * 60000 ≤ s.swc.pendingMs
          ∧ (s.screen 0).state = .washing ∧ (s.screen 0).wash = some w ∧ w.passes = 0) := by
  decide +kernel

/-- The sluice at the end of its run in MANUAL, with two results of screen 1 pending, the later one's request followed by
slot 1, and slot 2 following another wash. -/
def flushed (fallback : Bool) : State :=
  let a : WashResult := ⟨.complete, 2, 2, true, .headloss, none, 0, true⟩
  let b : WashResult := ⟨.jammed, 1, 0, false, .host, some 3, 0, true⟩
  { byHand with
    swc := { sluicing := true, sluv := true, sluiceMs := 60000
             screens := #v[{ current := some b, previous := some a }, {}, {}, {}, {}, {}] }
    slp := { fallback := fallback
             notices := List.replicate 20 (note .status)
             slots := #v[some ⟨.washScreen, .screen 0, [], 3, .inProgress⟩,
               some ⟨.washScreen, .screen 1, [], 4, .inProgress⟩, none, none] } }

/-- The clauses on a released result's slot, in fallback and out of it, and on the slots left. -/
theorem test_hyps_SluiceAndHeaderPurge_slots (fallback : Bool) :
    let s := flushed fallback
    let r : WashResult := ⟨.jammed, 1, 0, false, .host, some 3, 0, true⟩
    s.phase = .running ∧ s.swc.sluicing = true ∧ s.swc.sluiceTime * 1000 ≤ s.swc.sluiceMs ∧ s.slp.notices.length ≤ 20
      ∧ s.pdc.mode = .manual ∧ s.NoDueStop ∧ s.Follows 3 0 ∧ s.slp.fallback = fallback
      ∧ r ∈ (s.screen 0).previous.toList ++ (s.screen 0).current.toList
      ∧ (∀ n, ∀ x ∈ (s.screen n).previous.toList ++ (s.screen n).current.toList, x.mark = some 3 → x = r)
      ∧ followedBy 3 s.slp.slots[(1 : SlotId)] = false := by
  intro s r
  unfold State.NoDueStop State.Follows
  revert s r fallback
  decide +kernel

/-- Section 4.11, t = 310: the sluice run's end releases both results, PREVIOUS first, and the slot that follows the
second is DONE with its outcome JAMMED and no pass done. -/
theorem test_worked_release :
    let s := flushed false
    let t := after (exec .sluiceRunEnd s)
    t.slp.notices = s.slp.notices
        ++ [⟨.completion, .washComplete, 1, 10, 0, 2, 0⟩, ⟨.completion, .washComplete, 1, 1, 5, 0, 0⟩]
      ∧ t.slp.slots[(0 : SlotId)] = some ⟨.washScreen, .screen 0, [], 3, .done 5 0 0 0⟩
      ∧ t.slp.slots[(1 : SlotId)] = s.slp.slots[(1 : SlotId)] ∧ t.swc.sluv = false := by decide +kernel

/-- A part at work whose screens have a head loss. -/
def loss (mm : Int) (s : State) : State :=
  { s with lau := { s.lau with record := { s.lau.record with heads := Vector.replicate 6 ⟨mm, false⟩ } } }

/-- The plant with a pump counted running, so that a grant is open. -/
def open_ : State := header (fun w => { w with runningCount := 1 }) (plant .washing lastPass none)

/-- The triggers at their limits: 399 mm is a head loss alone, 400 mm a high one too, which a FINISHING screen takes, and
a WASHING or a JAMMED one does not. -/
theorem test_hyps_TriggersAndGrants :
    (loss 149 run).triggers 5 = [] ∧ ((loss 150 run).triggers 5).map (·.1) = [.headloss]
      ∧ triggerRequest ((loss 400 run).triggers 5) = some (.headlossHigh, 2)
      ∧ ((loss 400 (plant .finishing lastPass none)).triggers 0).map (·.1) = [.headlossHigh]
      ∧ (loss 400 (plant .washing lastPass none)).triggers 0 = []
      ∧ (loss 400 (plant .washing lastPass none)).triggers 2 = []
      ∧ (open_.washingCount < 2 ∧ open_.swc.purge = .idle ∧ open_.swc.hdok = true ∧ 1 ≤ open_.swc.runningCount
        ∧ open_.twu.condition.mode ≠ .hold ∧ open_.twu.condition.cap ≠ some 0)
      ∧ open_.swc.queue = [] ++ ⟨1, .host, 2, some 3, 0⟩ :: [] ∧ (open_.screen 1).jam = false
      ∧ (open_.swc.queue.map QueueEntry.screen).Nodup
      ∧ (plant .washing lastPass none).swc.runningCount = 0
      ∧ (let s := open_.onScreen 1 fun sc => { sc with jam := true }
         ∀ e ∈ s.swc.queue, (s.screen e.screen).jam = true) := by decide +kernel

/-- A trigger's request at an IDLE, a QUEUED and a FINISHING screen, its staged slot empty and full; and an evaluation
that leaves the queue as it was and one that does not. -/
theorem test_hyps_TriggersAndGrants_requests :
    triggerRequest ((loss 149 run).triggers 5) = none
      ∧ (triggerRequest ((loss 150 run).triggers 5) = some (.headloss, 2) ∧ ((loss 150 run).screen 5).state = .idle)
      ∧ (let s := loss 150 (plant .finishing lastPass none)
         triggerRequest (s.triggers 1) = some (.headloss, 2) ∧ (s.screen 1).state = .queued)
      ∧ (let s := loss 400 (plant .finishing lastPass none)
         triggerRequest (s.triggers 0) = some (.headlossHigh, 2) ∧ (s.screen 0).state = .finishing
          ∧ (s.screen 0).staged = none)
      ∧ (let s := loss 400 (plant .finishing lastPass (some ⟨2, .host, none⟩))
         triggerRequest (s.triggers 0) = some (.headlossHigh, 2) ∧ (s.screen 0).staged ≠ none)
      ∧ (allScreens.foldl State.triggerScreen (loss 149 run)).swc.queue = (loss 149 run).swc.queue
      ∧ (allScreens.foldl State.triggerScreen (loss 150 run)).swc.queue ≠ (loss 150 run).swc.queue := by decide +kernel

/-- A part whose first band claims LEVEL, with a condition published before. -/
def judged (b : Band) (old : Condition) (s : State) : State :=
  { s with twu := { s.twu with
    bands := #v[b, {}, {}, {}, {}, {}, {}, {}], claims := { level := some 0 }, condition := old } }

/-- The condition published next has a cap and a mode. -/
def next (s : State) (cap : Option Nat) (mode : WashMode) : Bool :=
  decide (s.twu.recomputed ≠ s.twu.condition ∧ s.twu.recomputed.cap = cap ∧ s.twu.recomputed.mode = mode)

/-- Each kind of publication: mode and cap kept, the cap alone changed, each mode taken, the cap raised from 0, and the
cap that becomes 0. -/
theorem test_hyps_HeaderClearEndsEverything_publications :
    next (judged {} {} run) none .normal = true ∧ next (judged { cap := some 1 } {} run) (some 1) .normal = true
      ∧ next (judged { mode := .storm } {} run) none .storm = true
      ∧ next (judged { mode := .hold } {} run) none .hold = true
      ∧ next (judged {} { mode := .hold } run) none .normal = true
      ∧ next (judged { cap := some 0, mode := .storm } { cap := some 0 } run) (some 0) .storm = true
      ∧ next (judged { cap := some 1 } { cap := some 0 } run) (some 1) .normal = true
      ∧ next (judged { cap := some 0 } {} (plant .washing lastPass none)) (some 0) .normal = true
      ∧ (judged { cap := some 0 } {} (plant .washing lastPass none)).SwcSound
      ∧ (judged { cap := some 0 } {} (plant .washing lastPass none)).PublicationsCurrent :=
  let h := plant_sound .washing (.inl rfl) lastPass none
  let k := plant_current .washing (.inl rfl) lastPass none
  ⟨by decide +kernel, by decide +kernel, by decide +kernel, by decide +kernel, by decide +kernel, by decide +kernel,
    by decide +kernel, by decide +kernel, ⟨h.header, h.records, h.staged, h.queue, h.clear⟩, ⟨k.running, k.held, k.counts⟩⟩

theorem test_hyps_HeaderClearEndsEverything :
    (plant .washing lastPass none).SwcSound ∧ (plant .washing lastPass none).OutputsAgree
      ∧ WashOutcome.noWater ≠ .complete ∧ WashOutcome.noWater ≠ .jammed
      ∧ ((plant .washing lastPass none).screen 0).wash = some lastPass
      ∧ ((plant .washing lastPass none).screen 5).wash = none :=
  ⟨plant_sound _ (.inl rfl) _ _, plant_outputs _ _, by decide, by decide, rfl, rfl⟩

/-- The plant with SJAM of screens 3 and 4 active. -/
def jams : State :=
  ((plant .washing lastPass none).onScreen 2 fun sc => { sc with jam := true }).onScreen 3 fun sc => { sc with jam := true }

theorem jams_sound : jams.SwcSound := by
  refine ⟨?_, ?_, ?_, ?_, fun h => absurd rfl h⟩
  · unfold State.HeaderShared; exact of_decide_eq_true rfl
  · unfold State.RecordsMatch; exact of_decide_eq_true rfl
  · unfold State.StagedMatch; exact of_decide_eq_true rfl
  · unfold State.QueueMatches; exact of_decide_eq_true rfl

theorem test_hyps_ScreenRequestsActAtOnce :
    (∀ i, (asked i run).Takes i ∧ (asked i fallen).Takes i ∧ (asked i (plant .washing lastPass none)).Takes i
        ∧ (asked i jams).Takes i)
      ∧ (0 = 0 ∨ 6 < 0) ∧ (7 = 0 ∨ 6 < 7) ∧ 6 = (5 : ScreenId).val + 1 ∧ 1 = (0 : ScreenId).val + 1 ∧ ¬ 1 < 1 ∧ 1 < 2
      ∧ fallen.slp.fallback = true
      ∧ (∀ i, (asked i (plant .washing lastPass none)).SwcSound ∧ (asked i (plant .washing lastPass none)).PublicationsCurrent
          ∧ (asked i jams).SwcSound)
      ∧ (∀ i, (asked i jams).PublicationsCurrent)
      ∧ (let s := plant .washing lastPass none
         s.slp.fallback = false ∧ (s.screen 5).state = .idle ∧ (s.screen 0).wash = some lastPass
          ∧ (s.screen 1).state = .queued ∧ ⟨1, .host, 2, some 3, 0⟩ ∈ s.swc.queue ∧ (s.screen 2).state = .jammed
          ∧ (s.screen 2).jam = false ∧ (s.screen 3).state = .outOfService ∧ s.slp.notices.length < 32
          ∧ s.pdc.evaluationDue = false)
      ∧ (∀ i, (asked i (plant .washing lastPass none)).Follows 3 0)
      ∧ (jams.screen 2).state = .jammed ∧ (jams.screen 2).jam = true ∧ (jams.screen 3).state = .outOfService
      ∧ (jams.screen 3).jam = true :=
  ⟨fun i => ⟨run_takes i, fallen_takes i, plant_takes i _ _, asked_takes i _ rfl rfl rfl⟩, by decide, by decide, by decide,
    by decide, by decide, by decide, rfl,
    fun i => ⟨asked_sound i _ (plant_sound _ (.inl rfl) _ _), asked_current i _ (plant_current _ (.inl rfl) _ _),
      asked_sound i _ jams_sound⟩,
    fun i => asked_current i _ ⟨rfl, rfl, of_decide_eq_true rfl⟩, by decide +kernel,
    fun i => by unfold State.Follows; exact of_decide_eq_true rfl, by decide +kernel⟩

theorem test_hyps_WashSettingsTaken :
    (∀ i, (asked i run).Takes i ∧ (asked i (plant .washing lastPass none)).Takes i)
      ∧ (({ screen := 0 } : ScreenArgs).screen = 0 ∧ 6 < ({ screen := 7 } : ScreenArgs).screen)
      ∧ (({ screen := 6, high := some 3001 } : ScreenArgs).screen = (5 : ScreenId).val + 1
        ∧ ({ screen := 6, high := some 3001 } : ScreenArgs) ≠ { screen := 6 })
      ∧ ({ passTimeout := some 29 } : WashTimingArgs) ≠ {}
      ∧ (setToOrOff 5 240 run.swc.purgeInterval (some 4) ≠ run.swc.purgeInterval ∧ run.swc.purge = .idle)
      ∧ (∀ i, (asked i (plant .washing lastPass none)).SwcSound)
      ∧ ((plant .washing lastPass none).screen 0).wash = some lastPass
      ∧ setTo 30 1800 300 (some 29) ≠ (plant .washing lastPass none).swc.passTimeout
      ∧ setTo 30 1800 300 (some 29) * 1000 ≤ lastPass.passTimer :=
  ⟨fun i => ⟨run_takes i, plant_takes i _ _⟩, by decide, by decide, by decide, by decide,
    fun i => asked_sound i _ (plant_sound _ (.inl rfl) _ _), rfl, by decide, by decide⟩

/-! ## Hypotheses met: pumps, starts and stops -/

theorem pumpIn_follows (f : Pump → Pump) : (pumpIn f).Follows 5 1 := by
  unfold State.Follows; exact of_decide_eq_true rfl

/-- Pump 1 in STARTING for as long as the start timeout, its start followed by slot 2. -/
def starting : State :=
  pumpIn fun q => { q with state := .starting, run := true, startTimer := 30000, startMark := some 5 }

/-- Pump 1 in STOPPING for as long as the stop timeout, its stop followed by slot 2. -/
def stopping : State :=
  pumpIn fun q => { q with state := .stopping, feedback := true, stopTimer := 60000, stopMark := some 5 }

/-- Pump 1 in RUNNING, its low-margin period at the trip delay. -/
def running : State :=
  pumpIn fun q => { q with state := .running, run := true, feedback := true, lowMargin := some ⟨10000, false⟩ }

theorem test_hyps_FeedbackCompletesAStart :
    (running.pump 0).feedback = true ∧ ((run.pump 0).feedback = false ∧ (run.pump 0).state ≠ .starting)
      ∧ ((State.reset.pump 0).feedback = false ∧ State.reset.phase ≠ .running)
      ∧ (starting.pump 0).feedback = false ∧ starting.phase = .running ∧ (starting.pump 0).state = .starting
      ∧ starting.NoDueStop ∧ (starting.pump 0).lowMargin = none ∧ starting.pdc.pair = none
      ∧ 0 < starting.pdc.startSpacing ∧ starting.slp.notices.length < 32 ∧ (starting.pump 0).startMark = some 5
      ∧ starting.Follows 5 1 ∧ starting.slp.fallback = false :=
  ⟨rfl, by decide +kernel, by decide, rfl, rfl, rfl, by unfold State.NoDueStop; exact of_decide_eq_true rfl, rfl, rfl,
    by decide, by decide, rfl, pumpIn_follows _, rfl⟩

theorem test_hyps_PumpFails :
    (running.phase = .running ∧ (running.pump 0).state = .running ∧ (running.pump 0).feedback = true
        ∧ (running.pump 0).trip = false)
      ∧ (starting.phase = .running ∧ (starting.pump 0).state = .starting
        ∧ starting.pdc.startTimeout * 1000 ≤ (starting.pump 0).startTimer ∧ (starting.pump 0).startMark = some 5)
      ∧ (stopping.phase = .running ∧ (stopping.pump 0).state = .stopping
        ∧ stopping.pdc.stopTimeout * 1000 ≤ (stopping.pump 0).stopTimer ∧ (stopping.pump 0).stopMark = some 5)
      ∧ starting.slp.notices.length < 32 ∧ starting.Follows 5 1 ∧ stopping.Follows 5 1
      ∧ starting.slp.fallback = false ∧ stopping.slp.fallback = false :=
  ⟨by decide +kernel, by decide +kernel, by decide +kernel, by decide, pumpIn_follows _, pumpIn_follows _, rfl, rfl⟩

/-- The stop of a pump whose class has no recovery time, and one in MANUAL with no stop due. -/
theorem test_hyps_StopsAndRecoveriesEnd_notices :
    (let s := { queued 31 stopping with pdc := { stopping.pdc with recoveryLarge := 0 } }
     s.phase = .running ∧ (s.pump 0).feedback = true ∧ (s.pump 0).state = .stopping ∧ s.recoverySeconds 0 = 0
      ∧ s.slp.notices.length < 32)
      ∧ (let s := { stopping with pdc := { stopping.pdc with mode := .manual } }
         s.phase = .running ∧ (s.pump 0).feedback = true ∧ (s.pump 0).state = .stopping ∧ s.pdc.mode = .manual
          ∧ ∀ k : ScopeId, s.pdc.scopes[k].due = .none) := by decide +kernel

theorem test_hyps_StopsAndRecoveriesEnd :
    (run.pump 0).feedback = false
      ∧ (let s := run.onPump 0 fun q => { q with feedback := true }
         (s.pump 0).feedback = true ∧ (s.pump 0).state ≠ .running ∧ (s.pump 0).state ≠ .stopping)
      ∧ (let s := running.onPump 0 fun q => { q with trip := true }
         (s.pump 0).feedback = true ∧ (s.pump 0).state = .running ∧ (s.pump 0).trip = true)
      ∧ ((run.pump 0).state ≠ .starting ∧ (run.pump 0).state ≠ .running)
      ∧ ((stopping.pump 0).feedback = true ∧ stopping.phase = .running ∧ (stopping.pump 0).state = .stopping
        ∧ stopping.recoverySeconds 0 ≠ 0 ∧ (stopping.pump 0).stopMark = some 5 ∧ stopping.slp.fallback = false)
      ∧ (run.phase = .running ∧ (run.pump 0).state = .recovering ∧ (run.pump 0).recovery = 0)
      ∧ (byHand.phase = .running ∧ (byHand.pump 0).state = .recovering ∧ (byHand.pump 0).recovery = 0
        ∧ byHand.pdc.mode = .manual)
      ∧ stopping.Follows 5 1 :=
  ⟨by decide +kernel, by decide +kernel, by decide +kernel, by decide +kernel, by decide +kernel, by decide +kernel,
    by decide +kernel, pumpIn_follows _⟩

/-- Every screen counts, every well is known, pump 1 is STOPPED and its start, followed by slot 2, waits in the queue with
the spacing just run out. -/
def ready : State :=
  let s := pumpIn fun q => { q with state := .stopped }
  { s with
    lau := { record := { wells := Vector.replicate 3 ⟨0, false⟩, margins := Vector.replicate 8 300 } }
    swc := { screens := Vector.replicate 6 { counts := true, verdict := true } }
    pdc := { s.pdc with queue := [⟨0, .host, some 5, 0⟩], sinceStart := some 10000, mode := .manual, demand := 1 } }

theorem test_hyps_StartQueueIsServed :
    (ready.phase = .running ∧ ready.pdc.sinceStart = some 10000 ∧ ready.pdc.startSpacing * 1000 ≤ 10000
        ∧ ready.pdc.spacingTaken = false ∧ (∀ p, (ready.pump p).state ≠ .starting)
        ∧ ready.pdc.queue = ⟨0, .host, some 5, 0⟩ :: [] ∧ (ready.pump 0).state = .stopped ∧ (ready.pump 0).trip = false
        ∧ (ready.pump 0).feedback = false ∧ (ready.pdc.startMargin : Int) ≤ ready.lau.record.margins[(0 : PumpId)]
        ∧ ready.lau.record.wells[bayOfPump 0].unknown = false ∧ ready.bayLoad (bayOfPump 0) < ready.ceiling (bayOfPump 0)
        ∧ ready.twu.condition.cap = none)
      ∧ (ready.grantCheck 0 = none ∧ ready.grantCheck 1 = some 1 ∧ run.grantCheck 0 = some 1)
      ∧ ready.Follows 5 1 ∧ ready.slp.fallback = false :=
  ⟨by decide +kernel, by decide +kernel, by unfold State.Follows; exact of_decide_eq_true rfl, rfl⟩

/-- A part whose rotation timer has run out, and whose shed timers are at the shed delay. -/
def timersDue (s : State) : State :=
  { s with pdc := { s.pdc with
    rotationTimer := 86400000, scopes := Vector.replicate 4 { timer := some 20000 } } }

/-- A part whose scan is dealt with, pump 1 in a state and its well below its inlet or not. -/
def scanned (st : PumpState) (count : Nat) : State :=
  { run.onPump 0 (fun q => { q with state := st, run := st.commanded, feedback := st = .running }) with
    lau := { channels := (Vector.replicate 12 ({} : Channel)).set 9
               { level := -3000, health := .ok, awaiting := false, seeded := true }
             scan := some ⟨Vector.replicate 12 count, 12, 500⟩ } }

/-- The state that the scan event of `scanned` publishes its record in. -/
def published (st : PumpState) : State := (State.dealMany 12 (scanned st 0)).publishRecord

/-- Whatever order the three readers take, pump 1 keeps its state. -/
theorem scanned_keeps (st : PumpState) (h : st = .starting ∨ st = .running) :
    ((after (exec .scanEvent (scanned st 0))).pump 0).state = st := by
  have k : ∀ st ∈ [PumpState.starting, .running], ∀ k : Fin 6,
      ((State.read .lost k.val (published st).drawn).pump 0).state = st := by decide +kernel
  exact k st (by simpa using h) ⟨(published st).choice 6, Nat.mod_lt _ (by decide)⟩

theorem test_hyps_DutyTimersAct_lowLevel :
    (∀ st, (scanned st 33000).phase = .running ∧ (scanned st 33000).lau.scan = some ⟨Vector.replicate 12 33000, 12, 500⟩)
      ∧ (((scanned .starting 0).pump 0).state = .starting
        ∧ ((after (exec .scanEvent (scanned .starting 0))).pump 0).state = .starting)
      ∧ (((scanned .running 0).pump 0).state = .running ∧ (scanned .running 0).recoverySeconds 0 ≠ 0
        ∧ ((after (exec .scanEvent (scanned .running 0))).pump 0).state = .running)
      ∧ (let s := queued 30 (starting.onPump 0 fun q => { q with lowMargin := some ⟨0, true⟩ })
         s.phase = .running ∧ (s.pump 0).lowMargin = some ⟨0, true⟩ ∧ (s.pump 0).state = .starting
          ∧ s.pdc.evaluationDue = false ∧ (s.pump 0).feedback = false ∧ s.pdc.pair = none ∧ s.slp.notices.length < 31)
      ∧ (let s := starting.onPump 0 fun q => { q with lowMargin := some ⟨10000, false⟩ }
         s.pdc.tripDelay * 1000 ≤ 10000 ∧ (s.pump 0).lowMargin = some ⟨10000, false⟩) :=
  ⟨fun _ => ⟨rfl, rfl⟩, ⟨rfl, scanned_keeps _ (.inl rfl)⟩, ⟨rfl, by decide, scanned_keeps _ (.inr rfl)⟩,
    by decide +kernel, by decide +kernel⟩

/-- The scopes of bay 1 and of the device out of excess and in it, with each state of a scope in excess. -/
theorem test_hyps_DutyTimersAct_scopes :
    (run.inExcess 0 = false ∧ run.inExcess 3 = false ∧ (0 : ScopeId).val = (0 : BayId).val ∧ (3 : ScopeId).val = 3)
      ∧ ((timersDue run).pdc.scopes[(0 : ScopeId)].timer = some 20000 ∧ (timersDue run).inExcess 0 = false
        ∧ (timersDue run).pdc.evaluationDue = false ∧ (timersDue run).pdc.shedDelay * 1000 ≤ 20000)
      ∧ (running.inExcess 0 = true ∧ running.pdc.scopes[(0 : ScopeId)] = ⟨none, .none⟩)
      ∧ ((timersDue running).inExcess 0 = true ∧ (timersDue running).inExcess 3 = true
        ∧ (timersDue starting).inExcess 0 = true
        ∧ (timersDue running).pdc.scopes[(0 : ScopeId)] = ⟨some 20000, .none⟩)
      ∧ (let s := running.onScope 0 fun _ => ⟨none, .waiting⟩
         s.inExcess 0 = true ∧ s.pdc.scopes[(0 : ScopeId)].due ≠ .none)
      ∧ (let s := { starting with pdc := { starting.pdc with pair := some ⟨0, 1⟩ } }
         (s.pump 0).state = .starting ∧ s.scopeLoad 3 + 1 = s.deviceLoad) := by decide +kernel

theorem test_hyps_DutyTimersAct :
    (let s := timersDue run
     s.phase = .running ∧ s.pdc.rotationInterval ≠ 0 ∧ s.pdc.rotationInterval * 3600000 ≤ s.pdc.rotationTimer
      ∧ (queued 31 s).slp.notices.length < 32 ∧ (∀ p, (s.pump p).state ≠ .stopped)
      ∧ ∀ k : ScopeId, s.pdc.scopes[k].due = .none)
      ∧ ((timersDue byHand).pdc.mode = .manual
        ∧ (timersDue byHand).pdc.rotationInterval * 3600000 ≤ (timersDue byHand).pdc.rotationTimer)
      ∧ (running.phase = .running ∧ (running.pump 0).state = .running ∧ (running.pump 0).lowMargin = some ⟨10000, false⟩
        ∧ running.pdc.tripDelay * 1000 ≤ (⟨10000, false⟩ : LowPeriod).ms ∧ (running.pump 0).feedback = true ∧ running.slp.notices.length < 32)
      ∧ (let s := timersDue running
         (∀ k : ScopeId, s.pdc.scopes[k].timer = some 20000) ∧ inScope 0 0 = true ∧ inScope 3 0 = true
            ∧ s.phase = .running ∧ s.pdc.shedDelay * 1000 ≤ 20000
            ∧ s.pdc.order.toList = [] ++ 0 :: [1, 2, 3, 4, 5, 6, 7] ∧ (s.pump 0).state = .running
            ∧ (∀ x ∈ ([1, 2, 3, 4, 5, 6, 7] : List PumpId), (s.pump x).state ≠ .running ∧ (s.pump x).state ≠ .starting)
            ∧ s.pdc.headerHeld = false)
      ∧ (let s := timersDue starting
         s.pdc.evaluationDue = false ∧ (s.pump 0).state = .starting
          ∧ ∀ x ∈ ([1, 2, 3, 4, 5, 6, 7] : List PumpId), (s.pump x).state ≠ .running ∧ (s.pump x).state ≠ .starting)
      ∧ (let s := timersDue { running with pdc := { running.pdc with headerHeld := true } }
         s.pdc.evaluationDue = false ∧ (s.pump 0).state = .running ∧ s.pdc.headerHeld = true ∧ s.runningNow = 1) := by
  decide +kernel

/-! ## Hypotheses met: duty -/

/-- The part of `ready` in AUTO with an empty start queue, so that the add decision is open. -/
def wanting : State := { ready with pdc := { ready.pdc with queue := [], mode := .auto } }

theorem test_hyps_TargetAndAddDecision :
    (wanting.ceiling 0 = 3 ∧ wanting.ceiling 2 = 2 ∧ wanting.target = 1 ∧ wanting.deviceLimit = some 1)
      ∧ (wanting.deviceLoad < wanting.target ∧ wanting.pdc.queue = []
        ∧ ∀ p, ¬ ((wanting.pump p).state = .starting ∧ (wanting.pump p).startOrigin = .duty))
      ∧ wanting.pdc.order.toList = [] ++ 0 :: [1, 2, 3, 4, 5, 6, 7] ∧ (wanting.pump 0).state = .stopped
      ∧ (wanting.pump 0).trip = false ∧ (wanting.pdc.startMargin : Int) ≤ wanting.lau.record.margins[(0 : PumpId)]
      ∧ wanting.addChoice = some 0 ∧ ¬ ready.deviceLoad < run.target
      ∧ (let s := { wanting with lau := run.lau }
         ∀ p ∈ s.pdc.order.toList, s.lau.record.wells[bayOfPump p].unknown = true) := by decide +kernel

/-- The duty requests that change nothing and those that do: the order in force marked as a changeover already, and a
held stop and a waiting one at the change to MANUAL. -/
theorem test_hyps_DutyRequestsTaken_changes :
    (let s := { run with pdc := { run.pdc with changeover := true } }
     ({ s.pdc with order := defaultOrder, rotationTimer := 0, changeover := true } : Pdc) = s.pdc)
      ∧ ({ run.pdc with order := defaultOrder, rotationTimer := 0, changeover := true } : Pdc) ≠ run.pdc
      ∧ (min 8 8 ≠ run.pdc.demand ∧ min 9 8 ≠ run.pdc.demand)
      ∧ (let s := (running.onScope 0 fun _ => ⟨none, .held 0⟩).onScope 3 fun _ => ⟨some 5, .none⟩
         s.pdc.mode = .auto ∧ s.pdc.scopes[(0 : ScopeId)].due = .held 0 ∧ s.pdc.scopes[(3 : ScopeId)].due = .none) := by
  decide +kernel

theorem test_hyps_DutyRequestsTaken :
    (∀ i, (asked i run).Takes i ∧ (asked i fallen).Takes i ∧ (asked i byHand).Takes i)
      ∧ run.slp.fallback = false ∧ fallen.slp.fallback = true ∧ byHand.pdc.mode = .manual ∧ run.pdc.mode = .auto
      ∧ (8 ≤ 8 ∧ ¬ 9 ≤ 8 ∧ min 0 8 = run.pdc.demand) ∧ (1 < 2 ∧ 1 ≤ 1)
      ∧ ([8, 7, 6, 5, 4, 3, 2, 1].length = 8 ∧ [8, 7, 6, 5, 4, 3, 2, 1].Nodup
        ∧ ∀ x ∈ [8, 7, 6, 5, 4, 3, 2, 1], 1 ≤ x ∧ x ≤ 8)
      ∧ ¬ [8, 8, 6, 5, 4, 3, 2, 1].Nodup ∧ [1, 2, 3, 4, 5, 6, 7].length ≠ 8 :=
  ⟨fun i => ⟨run_takes i, fallen_takes i, byHand_takes i⟩, rfl, rfl, rfl, rfl, by decide, by decide, by decide, by decide,
    by decide⟩

/-- Pump 1 with an hour to recover. -/
def recovering : State := pumpIn fun q => { q with recovery := 600000 }

theorem recovering_takes (i : Instr) : (asked i recovering).Takes i := asked_takes i _ rfl rfl rfl

theorem test_hyps_PumpSettingsTaken :
    (∀ i, (asked i run).Takes i ∧ (asked i fallen).Takes i ∧ (asked i recovering).Takes i)
      ∧ (({ pump := 0 } : PumpArgs).pump = 0 ∧ 8 < ({ pump := 9 } : PumpArgs).pump)
      ∧ ((∃ k, ({ pump := 8, cls := some 2 } : PumpArgs).cls = some k ∧ 1 < k))
      ∧ (({ pump := 8, inlet := some 30001 } : PumpArgs).pump = (7 : PumpId).val + 1
        ∧ ({ pump := 8, inlet := some 30001 } : PumpArgs) ≠ { pump := 8 })
      ∧ (({ pump := 1, cls := some 1 } : PumpArgs) ≠ { pump := 1 } ∧ PumpClass.small ≠ (recovering.pump 0).cls
        ∧ (recovering.onPump 0 fun q => { q with cls := .small }).recoverySeconds 0 * 1000 < (recovering.pump 0).recovery
        ∧ (recovering.pump 0).state = .recovering
        ∧ (recovering.onPump 0 fun q => { q with cls := .small }).recoverySeconds 0 ≠ 0)
      ∧ ({ rotationInterval := some 721 } : PumpTimingArgs) ≠ {}
      ∧ (fallen.slp.fallback = true ∧ setTo 0 8 fallen.pdc.fallbackDemand (some 9) ≠ fallen.pdc.fallbackDemand) :=
  ⟨fun i => ⟨run_takes i, fallen_takes i, recovering_takes i⟩, by decide, ⟨2, rfl, by decide⟩, by decide,
    by decide +kernel, by decide, by decide⟩

/-- Pump 1 in a state, in MANUAL. -/
def manualIn (st : PumpState) : State :=
  let s := pumpIn fun q => { q with state := st, feedback := st = .running || st = .stopping }
  { s with pdc := { s.pdc with mode := .manual } }

theorem manualIn_takes (st : PumpState) (i : Instr) : (asked i (manualIn st)).Takes i := asked_takes i _ rfl rfl rfl

theorem manualIn_state (st : PumpState) (i : Instr) : ((asked i (manualIn st)).pump 0).state = st := rfl

theorem test_hyps_PumpCommandsActAtOnce :
    (∀ i, (asked i run).Takes i) ∧ (0 = 0 ∨ 8 < 0) ∧ (9 = 0 ∨ 8 < 9) ∧ 8 = (7 : PumpId).val + 1 ∧ 1 = (0 : PumpId).val + 1
      ∧ (∀ st i, (asked i (manualIn st)).Takes i ∧ ((asked i (manualIn st)).pump 0).state = st
          ∧ ((asked i (manualIn st)).pump 0).trip = false ∧ ((asked i (manualIn st)).pump 0).recovery = 0
          ∧ (asked i (manualIn st)).pdc.mode = .manual)
      ∧ (∀ i, (asked i recovering).Takes i ∧ ((asked i recovering).pump 0).recovery ≠ 0)
      ∧ (∀ i, (asked i ready).Takes i ∧ (asked i ready).StartsDiffer ∧ ⟨0, .host, some 5, 0⟩ ∈ (asked i ready).pdc.queue
          ∧ ((asked i ready).pump 0).state = .stopped ∧ (asked i ready).Follows 5 1
          ∧ (asked i ready).slp.fallback = false) :=
  ⟨run_takes, by decide, by decide, by decide, by decide,
    fun st i => ⟨manualIn_takes st i, manualIn_state st i, rfl, rfl, rfl⟩,
    fun i => ⟨recovering_takes i, of_decide_eq_true rfl⟩,
    fun i => ⟨asked_takes i _ rfl rfl rfl, by unfold State.StartsDiffer; exact of_decide_eq_true rfl,
      of_decide_eq_true rfl, rfl, by unfold State.Follows; exact of_decide_eq_true rfl, rfl⟩⟩

/-! ## Hypotheses met: the link -/

/-- A part in LOADING with a request held. -/
def early (i : Instr) : State := asked i { phase := .loading }

theorem test_hyps_ReplyIsFormedAndSent :
    (asked (.getStatus (.args ())) run).slp.requests = ⟨0x01#8, 0x11#8, .getStatus (.args ())⟩ :: [] := by
  decide +kernel

theorem test_hyps_RequestArrives :
    encodeRequest (.setDutyMode (.args 1)) = some (0x1B#8, [0x01#8]) ∧ run.phase = .running ∧ run.slp.requests = []
      ∧ run.slp.replyOutstanding = false
      ∧ (let s := asked (.resume (.args ())) run
         s.phase = .running ∧ ∃ r rest, s.slp.requests = r :: rest ∧ r.command ≠ .setDutyMode (.args 1))
      ∧ (let s := { run with slp := { run.slp with waiting := some ⟨0x81#8, 0#8, 0#8, .ok, []⟩ } }
         s.phase = .running ∧ s.slp.replyOutstanding = true) :=
  ⟨by decide +kernel, rfl, rfl, rfl, ⟨rfl, _, _, rfl, by decide⟩, rfl, rfl⟩

theorem test_hyps_RefusalsInOrder :
    (∀ i, (early i).phase = .loading ∧ (early i).slp.replyOutstanding = false
        ∧ (early i).slp.requests = ⟨kindOf i, 0x11#8, i⟩ :: [])
      ∧ (encodeRequest (.resume (.args ()))).isSome = true ∧ (encodeRequest (.getStatus (.args ()))).isSome = true
      ∧ (encodeRequest (.getPump .mismatch)).isSome = true
      ∧ (∀ i, (asked i run).Takes i) ∧ (∀ i, (asked i fallen).Takes i ∧ (asked i fallen).slp.fallback = true) :=
  ⟨fun _ => ⟨rfl, rfl, rfl⟩, by decide +kernel, by decide +kernel, by decide +kernel, run_takes,
    fun i => ⟨fallen_takes i, rfl⟩⟩

theorem test_hyps_GetRequestsReport_places :
    (∀ i, (asked i ready).Takes i) ∧ ready.pdc.order.toList = [] ++ 0 :: [1, 2, 3, 4, 5, 6, 7]
      ∧ ready.pdc.order.toList = [0, 1, 2, 3, 4, 5, 6] ++ 7 :: [] ∧ (7 : PumpId) ∉ [0, 1, 2, 3, 4, 5, 6]
      ∧ ready.pdc.queue = [] ++ ⟨0, .host, some 5, 0⟩ :: [] ∧ (∀ e ∈ ready.pdc.queue, e.pump ≠ 7)
      ∧ (0 ≤ 1 ∧ 1 ≤ 1 ∧ ¬ 2 ≤ 1) :=
  ⟨fun i => asked_takes i _ rfl rfl rfl, rfl, rfl, by decide, rfl, by decide +kernel, by decide⟩

theorem test_hyps_GetRequestsReport :
    (∀ i, (asked i run).Takes i) ∧ (2 < 3 ∧ 2 ≤ 2) ∧ (3 = 0 ∨ 2 < 3) ∧ 2 = (1 : BankId).val + 1
      ∧ (∀ i, (asked i (tideAt {} ⟨.active, twoPoints⟩ 0)).Takes i)
      ∧ (tideAt {} ⟨.active, twoPoints⟩ 0).twu.banks[(1 : BankId)].points.length ≤ 2
      ∧ 1 < (tideAt {} ⟨.active, twoPoints⟩ 0).twu.banks[(1 : BankId)].points.length
      ∧ (7 = 0 ∨ 6 < 7) ∧ 6 = (5 : ScreenId).val + 1 ∧ (9 = 0 ∨ 8 < 9) ∧ 8 = (7 : PumpId).val + 1
      ∧ 10 < 11 ∧ 12 ∉ sectionIndices 0 ∧ 11 ∈ sectionIndices 0 ∧ 0 ∉ sectionIndices 3 ∧ 8 ∈ sectionIndices 3
      ∧ 0 ∈ sectionIndices 10 :=
  ⟨run_takes, by decide, by decide, by decide, fun i => asked_takes i _ rfl rfl rfl, by decide, by decide, by decide,
    by decide, by decide, by decide, by decide, by decide, by decide, by decide, by decide, by decide⟩

/-- A part at work with notices queued and the quiet time at its length. -/
def noted (ns : List Notice) : State := { run with slp := { run.slp with notices := ns, quietMs := 2000 } }

theorem test_hyps_NoticesAndBatches :
    (({ notices := List.replicate 31 (note .status) } : Slp).notices.length < 32)
      ∧ 32 ≤ ({ notices := List.replicate 32 (note .status) } : Slp).notices.length
      ∧ (List.replicate 32 (note .status) = List.replicate 31 (note .status) ++ note .status :: []
        ∧ (note .status).cls = .status)
      ∧ (List.replicate 32 (note .completion) = List.replicate 31 (note .completion) ++ note .completion :: []
        ∧ ∀ y ∈ List.replicate 32 (note .completion), y.cls ≠ .status)
      ∧ (∀ y ∈ List.replicate 32 (note .alarm), y.cls = .alarm ∨ y.cls = .fault)
      ∧ (asked (.getNotices (.args ())) (noted [note .status])).Takes (.getNotices (.args ()))
      ∧ (let s := noted [note .alarm]
         s.phase = .running ∧ s.slp.notices ≠ [] ∧ (∃ n ∈ s.slp.notices, n.cls = .alarm ∨ n.cls = .fault)
          ∧ s.slp.tx = .free ∧ s.slp.waiting = none)
      ∧ (let s := noted [note .status, note .status]
         s.slp.notices.length < s.slp.threshold ∧ s.slp.quietOut = false
          ∧ s.slp.batchTimeout * 100 ≤ s.slp.quietMs ∧ fourFrames s.slp.rateInForce ≤ 4 * s.slp.quietMs)
      ∧ (let s := { noted [note .status] with slp := { (noted [note .status]).slp with quietMs := 1999 } }
         s.phase = .running ∧ s.slp.notices ≠ [] ∧ s.slp.quietMs < s.slp.batchTimeout * 100) :=
  ⟨by decide, by decide, ⟨rfl, rfl⟩, ⟨rfl, by decide +kernel⟩, by decide +kernel, asked_takes _ _ rfl rfl rfl,
    ⟨rfl, by decide, ⟨note .alarm, by decide, .inl rfl⟩, rfl, rfl⟩, by decide +kernel, by decide +kernel⟩

/-- A part at work collecting a frame, with some requests held. -/
def collecting (rs : List Request) : State := { run with slp := { run.slp with receiver := .collecting, requests := rs } }

theorem test_hyps_FramesReceived :
    (∀ rs, (collecting rs).phase = .running ∧ (collecting rs).slp.receiver = .collecting)
      ∧ crc16 [0x00#8, 0x01#8, 0x11#8] ≠ 0x0000#16
      ∧ (∀ k : Byte, ∃ f : Frame, f.kind = k ∧ crc16 (BitVec.ofNat 8 f.payload.length :: f.kind :: f.tag :: f.payload) = f.crc)
      ∧ 0x80 ≤ (0x80#8).toNat ∧ (0x7F#8).toNat < 0x80
      ∧ (collecting [⟨0x01#8, 0#8, .getStatus (.args ())⟩]).slp.requests.length < 2
      ∧ 2 ≤ (collecting [⟨0x01#8, 0#8, .getStatus (.args ())⟩, ⟨0x01#8, 0#8, .getStatus (.args ())⟩]).slp.requests.length :=
  ⟨fun _ => ⟨rfl, rfl⟩, by decide +kernel, fun k => ⟨⟨k, 0#8, [], crc16 [0#8, k, 0#8]⟩, rfl, rfl⟩, by decide, by decide, by decide, by decide⟩

/-- A part at work sending something, with a reply waiting or none and a notice queue. -/
def sending (x : Transmitter) (w : Option Reply) (ns : List Notice) : State :=
  { run with slp := { run.slp with tx := x, waiting := w, notices := ns } }

/-- What makes a batch due after a reply or a batch: an urgent notice, the threshold reached, in fallback one notice,
the quiet time run out; and what does not. -/
theorem test_hyps_TransmitterGoesOn_due :
    (∃ n ∈ (sending .free none [note .alarm]).slp.notices, n.cls = .alarm ∨ n.cls = .fault)
      ∧ (let s := queued 3 run
         s.phase = .running ∧ s.slp.notices ≠ []
          ∧ (if s.slp.fallback then 1 else s.slp.threshold) ≤ s.slp.notices.length)
      ∧ (let s := queued 1 fallen
         (if s.slp.fallback then 1 else s.slp.threshold) ≤ s.slp.notices.length)
      ∧ (let s := { queued 1 run with slp := { (queued 1 run).slp with quietOut := true } }
         s.slp.notices ≠ [] ∧ s.slp.quietOut = true)
      ∧ (let s := queued 2 run
         (∀ n ∈ s.slp.notices, ¬ (n.cls = .alarm ∨ n.cls = .fault)) ∧ s.slp.quietOut = false
          ∧ ¬ (if s.slp.fallback then 1 else s.slp.threshold) ≤ s.slp.notices.length)
      ∧ (asked (.resume (.args ())) run).slp.requests.length ≤ 1 :=
  ⟨⟨note .alarm, by decide, .inl rfl⟩, by decide +kernel, by decide +kernel, by decide +kernel, by decide +kernel, by decide⟩

theorem test_hyps_TransmitterGoesOn :
    (∀ r w ns, (sending (.reply r) w ns).slp.tx = .reply r ∧ (sending (.reply r) w ns).slp.fullReset = false
        ∧ (sending (.reply r) w ns).slp.nextRate = none ∧ (sending (.reply r) w ns).slp.waiting = w
        ∧ (sending (.reply r) w ns).slp.notices = ns)
      ∧ (∀ a b ms w ns, (sending (.batch a b ms) w ns).slp.tx = .batch a b ms
          ∧ (sending (.batch a b ms) w ns).slp.waiting = w ∧ (sending (.batch a b ms) w ns).slp.notices = ns
          ∧ (sending (.batch a b ms) w ns).phase = .running)
      ∧ (note .fault).cls = .fault
      ∧ (let s := { run with slp := { run.slp with tx := .reply ⟨0xAF#8, 0#8, 0#8, .ok, []⟩, fullReset := true } }
         s.slp.tx = .reply ⟨0xAF#8, 0#8, 0#8, .ok, []⟩ ∧ s.slp.fullReset = true)
      ∧ (let s := { run with slp := { run.slp with tx := .reply ⟨0xAF#8, 0#8, 0#8, .ok, []⟩, nextRate := some 4 } }
         s.slp.fullReset = false ∧ s.slp.nextRate = some 4)
      ∧ ((∀ r, run.slp.tx ≠ .reply r) ∧ ∀ a b ns, run.slp.tx ≠ .batch a b ns) :=
  ⟨fun _ _ _ => ⟨rfl, rfl, rfl, rfl, rfl⟩, fun _ _ _ _ _ => ⟨rfl, rfl, rfl, rfl⟩, rfl, ⟨rfl, rfl⟩, ⟨rfl, rfl⟩,
    fun _ => by simp [run], fun _ _ _ => by simp [run]⟩

/-- A part at work with a DONE slot for the memory, its discard timer at 60 s. -/
def doneSlot : State :=
  { run with slp := { run.slp with
    slots := #v[some ⟨.saveConfig, .memory, [], 9, .done 0 0 7 60000⟩, none, none, none] } }

theorem test_hyps_LinkSettingsAndResets :
    (∀ i, (asked i run).Takes i ∧ (asked i doneSlot).Takes i)
      ∧ (∃ r, ({ rate := some 5 } : LinkArgs).rate = some r ∧ 4 < r)
      ∧ (∃ h, ({ threshold := some 2 } : LinkArgs).threshold = some h ∧ h ∉ [1, 3, 6, 12])
      ∧ (let c : LinkArgs := { rate := some 4, threshold := some 12, batchTimeout := some 4, supervision := some 0 }
         c ≠ {} ∧ (∀ r ∈ c.rate, r ≤ 4) ∧ (∀ h ∈ c.threshold, h ∈ [1, 3, 6, 12]) ∧ 4 ≠ run.slp.rateInForce)
      ∧ ((∃ sl, doneSlot.slp.slots[(0 : SlotId)] = some sl ∧ sl.state = .done 0 0 7 60000)
        ∧ setTo 5 600 doneSlot.slp.discard (some 60) ≠ doneSlot.slp.discard
        ∧ setTo 5 600 doneSlot.slp.discard (some 60) * 1000 ≤ 60000) :=
  ⟨fun i => ⟨run_takes i, asked_takes i _ rfl rfl rfl⟩, ⟨5, rfl, by decide⟩, ⟨2, rfl, by decide⟩, by decide,
    ⟨⟨_, rfl, rfl⟩, by decide, by decide⟩⟩

theorem test_hyps_SupervisionLossEntersFallback :
    let s := { run with slp := { run.slp with supervising := true, supervisionMs := 30000 } }
    (s.phase = .running ∧ s.slp.supervising = true ∧ s.slp.supervision ≠ 0
        ∧ s.slp.supervision * 1000 ≤ s.slp.supervisionMs ∧ s.slp.fallback = false)
      ∧ (let t := { s with slp := { s.slp with fallback := true } }
         t.slp.supervising = true ∧ t.slp.supervision * 1000 ≤ t.slp.supervisionMs ∧ t.slp.fallback = true) := by
  decide +kernel

/-! ## Hypotheses met: deferred requests -/

/-- A part at work with slot 1 for screen 1, slot 2 for pump 1, slot 3 DONE for the memory. -/
def slotted : State :=
  { run with slp := { run.slp with
    slots := #v[some ⟨.washScreen, .screen 0, [0x01#8, 0x00#8, 0x02#8], 3, .inProgress⟩,
      some ⟨.startPump, .pump 0, [0x01#8], 5, .inProgress⟩, some ⟨.saveConfig, .memory, [], 9, .done 0 0 7 60000⟩, none] } }

theorem slotted_alone (i : Instr) (j : SlotId) (x : Slot) (h : (asked i slotted).slp.slots[j] = some x) :
    (x.target = .screen 0 → j = 0) ∧ (x.target = .pump 0 → j = 1) ∧ (x.target = .memory → j = 2) := by
  have k : ∀ j : SlotId, (slotted.slp.slots[j].map fun y => (decide (y.target = .screen 0 → j = 0),
      decide (y.target = .pump 0 → j = 1), decide (y.target = .memory → j = 2))).getD (true, true, true)
      = (true, true, true) := by decide +kernel
  have h' : slotted.slp.slots[j] = some x := h
  have := k j
  simpa [h', Decidable.imp_iff_not_or] using this

theorem test_hyps_DeferredRequestsFindTheirSlot :
    (∀ i, (asked i slotted).Takes i ∧ (asked i slotted).slp.fallback = false)
      ∧ (∃ sl, slotted.slp.slots[(0 : SlotId)] = some sl ∧ sl.target = .screen 0 ∧ sl.kind = .washScreen
          ∧ sl.arguments = encodeFields [(.u8, (0 : ScreenId).val + 1), (.u16, (2 : Nat))] ∧ sl.state = .inProgress)
      ∧ (∃ sl, slotted.slp.slots[(1 : SlotId)] = some sl ∧ sl.target = .pump 0 ∧ sl.kind ≠ .stopPump)
      ∧ (∃ sl, slotted.slp.slots[(2 : SlotId)] = some sl ∧ sl.target = .memory ∧ sl.kind = .saveConfig
          ∧ sl.arguments = [] ∧ sl.state = .done 0 0 7 60000)
      ∧ ∀ i (j : SlotId) x, (asked i slotted).slp.slots[j] = some x →
          (x.target = .screen 0 → j = 0) ∧ (x.target = .pump 0 → j = 1) ∧ (x.target = .memory → j = 2) :=
  ⟨fun i => ⟨asked_takes i _ rfl rfl rfl, rfl⟩, ⟨_, rfl, by decide +kernel⟩, ⟨_, rfl, by decide +kernel⟩,
    ⟨_, rfl, by decide +kernel⟩, slotted_alone⟩

/-- Four slots in use for pumps 5 to 8. -/
def crowded : State :=
  { run with slp := { run.slp with
    slots := #v[some ⟨.startPump, .pump 4, [0x05#8], 1, .inProgress⟩, some ⟨.startPump, .pump 5, [0x06#8], 2, .inProgress⟩,
      some ⟨.startPump, .pump 6, [0x07#8], 3, .inProgress⟩, some ⟨.startPump, .pump 7, [0x08#8], 4, .inProgress⟩] } }

/-- Pump 1 in a state, in MANUAL, with no slot in use. -/
def freeIn (st : PumpState) : State :=
  { manualIn st with slp := run.slp }

theorem freeIn_empty (st : PumpState) (j : SlotId) : (freeIn st).slp.slots[j] = none := by
  show run.slp.slots[j] = none
  revert j; decide +kernel

/-- Pump 1 alone in RUNNING in MANUAL with the header held, its screen 1 washing. -/
def washed : State :=
  let s := plant .washing lastPass none
  { s with pdc := { (freeIn .running).pdc with headerHeld := true }, slp := {} }

/-- The part of `ready` with its start queue and its slots empty. -/
def able : State := { ready with slp := run.slp, pdc := { ready.pdc with queue := [] } }

/-- A wash merged into the entry of screen 2, and a start merged into the entry of pump 1 or granted at once. -/
theorem test_hyps_DeferredRequestsOpenASlot_merges :
    ((washed.screen 1).state = .queued ∧ ⟨1, .host, 2, some 3, 0⟩ ∈ washed.swc.queue
        ∧ ∀ j : SlotId, washed.slp.slots[j] = none)
      ∧ (let s := { able with pdc := { able.pdc with queue := [⟨0, .duty, none, 7⟩] } }
         (s.pump 0).state = .stopped ∧ s.pdc.mode = .manual ∧ (∃ e ∈ s.pdc.queue, e.pump = 0)
          ∧ s.pdc.evaluationDue = false)
      ∧ ((able.pump 0).state = .stopped ∧ able.pdc.queue = [] ∧ (∀ x, (able.pump x).state ≠ .starting)
        ∧ able.pdc.sinceStart = some 10000 ∧ able.pdc.startSpacing * 1000 ≤ 10000 ∧ able.grantCheck 0 = none
        ∧ (able.pump 0).feedback = false ∧ able.slp.fallback = false ∧ able.pdc.mode = .manual)
      ∧ (∀ i, (asked i able).Takes i) ∧ (∀ j : SlotId, able.slp.slots[j] = none) :=
  ⟨by decide +kernel, by decide +kernel, by decide +kernel, fun i => asked_takes i _ rfl rfl rfl, by decide +kernel⟩

theorem test_hyps_DeferredRequestsOpenASlot :
    (∀ i, (asked i run).Takes i ∧ (asked i crowded).Takes i ∧ (asked i washed).Takes i)
      ∧ run.slp.fallback = false ∧ 64 = min 65 64
      ∧ (∀ j : SlotId, run.slp.slots[j] = none) ∧ (run.screen 0).state = .idle ∧ (∀ i, (asked i run).SwcSound)
      ∧ (∀ j : SlotId, crowded.slp.slots[j] ≠ none)
      ∧ (∀ j : SlotId, (crowded.slp.slots[j].map fun x => decide (x.target = .screen 0 ∨ x.target = .pump 0)).getD true = false)
      ∧ ((washed.screen 0).state.isWashing = true ∧ (washed.screen 0).staged = none ∧ (washed.screen 1).state = .queued
        ∧ (washed.screen 2).state = .jammed ∧ (washed.screen 3).state = .outOfService)
      ∧ ((plant .finishing lastPass (some ⟨1, .host, none⟩)).screen 0).staged ≠ none
      ∧ run.pdc.mode = .auto
      ∧ (∀ st i, (asked i (freeIn st)).Takes i ∧ (asked i (freeIn st)).pdc.mode = .manual
          ∧ ((asked i (freeIn st)).pump 0).state = st ∧ (asked i (freeIn st)).slp.fallback = false
          ∧ (∀ j : SlotId, (asked i (freeIn st)).slp.slots[j] = none) ∧ (asked i (freeIn st)).pdc.queue = []
          ∧ (asked i (freeIn st)).pdc.evaluationDue = false ∧ (asked i (freeIn st)).pdc.headerHeld = false)
      ∧ ((washed.pump 0).state = .running ∧ (washed.pump 0).feedback = true ∧ washed.runningNow = 1
        ∧ washed.pdc.headerHeld = true ∧ washed.pdc.mode = .manual)
      ∧ (∀ i, (asked i washed).SwcSound)
      ∧ (((freeIn .stopped).onPump 3 fun q => { q with state := .starting }).pump 3).state = .starting :=
  ⟨fun i => ⟨run_takes i, asked_takes i _ rfl rfl rfl, asked_takes i _ rfl rfl rfl⟩, rfl, rfl, by decide +kernel, rfl,
    fun i => asked_sound i _ ⟨by unfold State.HeaderShared; exact of_decide_eq_true rfl,
      by unfold State.RecordsMatch; exact of_decide_eq_true rfl, by unfold State.StagedMatch; exact of_decide_eq_true rfl,
      by unfold State.QueueMatches; exact of_decide_eq_true rfl, fun h => absurd rfl h⟩,
    by decide +kernel, by decide +kernel, by decide +kernel, by decide +kernel, rfl,
    fun st i => ⟨asked_takes i _ rfl rfl rfl, rfl, rfl, rfl, freeIn_empty st, rfl, rfl, rfl⟩, by decide +kernel,
    fun i =>
      let h := plant_sound .washing (.inl rfl) lastPass none
      ⟨h.header, h.records, h.staged, h.queue, fun k => absurd rfl k⟩,
    by decide +kernel⟩

/-- A save under way, followed by slot 3. -/
def saving : State :=
  { run with slp := { run.slp with
    save := some ⟨[0x01#8], 9⟩
    slots := #v[none, none, some ⟨.saveConfig, .memory, [], 9, .inProgress⟩, none] } }

theorem test_hyps_SaveConfigRuns :
    (asked (.saveConfig (.args ())) run).Takes (.saveConfig (.args ())) ∧ run.slp.save = none
      ∧ (∀ j : SlotId, run.slp.slots[j] = none)
      ∧ (asked (.saveConfig (.args ())) crowded).Takes (.saveConfig (.args ())) ∧ (∀ j : SlotId, crowded.slp.slots[j] ≠ none)
      ∧ (saving.phase = .running ∧ saving.slp.save = some ⟨[0x01#8], 9⟩ ∧ saving.slp.notices.length < 32
        ∧ saving.slp.fallback = false)
      ∧ saving.Follows 9 2 ∧ (if [0x01#8] = [0x01#8] then 0 else 8) = 0 ∧ (if [0x02#8] = [0x01#8] then 0 else 8) = 8
      ∧ (∀ j : SlotId, followedBy 9 run.slp.slots[j] = false) :=
  ⟨run_takes _, rfl, by decide +kernel, asked_takes _ _ rfl rfl rfl, by decide +kernel, by decide +kernel,
    by unfold State.Follows; decide +kernel, by decide, by decide, by decide +kernel⟩

theorem test_hyps_OutcomesReachTheTable :
    (∀ j : SlotId, followedBy 9 run.slp.slots[j] = false)
      ∧ saving.Follows 9 2 ∧ saving.slp.slots[(2 : SlotId)] = some ⟨.saveConfig, .memory, [], 9, .inProgress⟩
      ∧ (∃ sl, doneSlot.slp.slots[(0 : SlotId)] = some sl ∧ sl.state = .done 0 0 7 60000 ∧ doneSlot.phase = .running
          ∧ 60000 < doneSlot.slp.discard * 1000)
      ∧ (let s := { doneSlot with slp := { doneSlot.slp with discard := 60 } }
         s.phase = .running ∧ s.slp.discard * 1000 ≤ 60000 ∧ s.slp.notices.length < 32) :=
  ⟨by decide +kernel, by unfold State.Follows; decide +kernel, rfl, ⟨_, rfl, rfl, rfl, by decide⟩, by decide⟩

theorem test_hyps_RequestsDecodeBack :
    (Instr.setClockStep (.args (-2147483648))).wellFormed = true
      ∧ encodeRequest (.setClockStep (.args (-2147483648))) = some (0x1E#8, [0x01#8, 0x80#8, 0, 0, 0])
      ∧ (Instr.unknownKind 0x00#8).wellFormed = true ∧ encodeRequest (.unknownKind 0x00#8) = some (0x00#8, [])
      ∧ (Instr.setDemand (.args 65535)).wellFormed = true
      ∧ (encodeRequest (.setDemand (.args 65535))).isSome = true := by decide +kernel

/-! ## The manual's worked cases and sequences, one step each -/

/-- Section 1.7: sea channel A through the level chain, and section 1.8: its next three scans. -/
theorem test_worked_level_chain :
    let a : Channel := { elevation := -3500, level := 1700, seeded := true, health := .ok, awaiting := false }
    let scan (ch : Channel) := ch.sampled 10250 33000 500
    (scan a).level = 1705 ∧ (scan a).health = .ok ∧ (scan a).clamped = false ∧ (scan (scan a)).level = 1709
      ∧ (scan (scan (scan a))).level = 1713 ∧ (scan (scan (scan (scan a)))).level = 1716 := by decide +kernel

/-- Sections 1.7 and 1.8: the votes and the class of scan 1. -/
theorem test_worked_votes :
    voteSea [1705, 1712, 1731] 0 = 1712 ∧ classifySea [1705, 1712, 1731] 50 = .agree ∧ voteSea [1709, 1712] 0 = 1711
      ∧ voteSea [1713, 1712] 0 = 1713 ∧ voteSea [1716, 1712, 1733] 0 = 1716 := by decide

/-- Section 2.1.3: an exact rate, a half that goes away from zero, and the limit. -/
theorem test_worked_rates :
    rateOf (⟨0, 1598⟩ :: List.replicate 14 ⟨0, 0⟩ ++ [⟨0, 1712⟩]) 15 = some 1824
      ∧ rateOf [⟨0, 1⟩, ⟨0, 7⟩, ⟨0, 0⟩] 16 = some (-113) ∧ rateOf [⟨0, 0⟩, ⟨0, 20⟩] 5 = some 9999
      ∧ rateOf [⟨0, 4⟩] 15 = none := by decide

/-- Sections 2.4.1 and 2.6, steps 3, 7, 9, 10 and 12. -/
theorem test_worked_prediction :
    let one := [⟨36000, 1500⟩, ⟨36900, 1800⟩, ⟨37800, 2000⟩]
    let two := [⟨37800, 2000⟩, ⟨38700, 2100⟩, ⟨39600, 2050⟩]
    (tideAt {} ⟨.active, one⟩ 36450).predicted = some 1650 ∧ (tideAt {} ⟨.active, one⟩ 37800).predicted = some 2000
      ∧ (tideAt {} ⟨.active, two⟩ 37801).predicted = some 2000 ∧ (tideAt {} ⟨.active, two⟩ 38709).predicted = some 2099
      ∧ (tideAt {} ⟨.active, two⟩ 39601).predicted = none := by decide +kernel

/-- Section 2.6, step 4: ORDER with two of the three points appended. -/
theorem test_worked_points :
    let i : Instr := .tidePoints (.args [⟨37800, 2000⟩, ⟨38700, 2100⟩, ⟨38650, 2090⟩])
    let t := after (exec i (asked i (tideAt {} {} 36450)))
    t.twu.banks[(0 : BankId)] = ⟨.filling, [⟨37800, 2000⟩, ⟨38700, 2100⟩]⟩
      ∧ (sent t).code = .order ∧ (sent t).data.take 3 = [0x01#8, 0x00#8, 0x02#8] := by
  decide +kernel

/-- Section 2.6, step 8: the second after the last point of the ACTIVE bank swaps the SEALED one in. -/
theorem test_worked_swap :
    let one := [⟨36000, 1500⟩, ⟨36900, 1800⟩, ⟨37800, 2000⟩]
    let two := [⟨37800, 2000⟩, ⟨38700, 2100⟩, ⟨39600, 2050⟩]
    let s := tideAt ⟨.sealed, two⟩ ⟨.active, one⟩ 37800
    let t := after (exec .intakeTimeCount { s with slp := { s.slp with phaseMs := 1000 } })
    t.twu.loading = 1 ∧ t.twu.banks[(0 : BankId)] = ⟨.active, two⟩ ∧ t.twu.banks[(1 : BankId)] = {}
      ∧ t.slp.notices = [⟨.status, .tideBankSwapped, 1, 0, 0, 3, 37801⟩] := by decide +kernel

/-- The bands of section 3.6. -/
def surge : Twu :=
  { bands := #v[{ enabled := true, low := 3500, rank := .fast, hysteresis := 100, cap := some 4, noticeClass := .alarm },
      { enabled := true, quantity := .residual, low := 400, rank := .medium, hysteresis := 50, mode := .storm,
        noticeClass := .alarm },
      { enabled := true, quantity := .rate, low := 1500, rank := .slow, hysteresis := 200 },
      { enabled := true, high := -1500, rank := .fast, hysteresis := 100, cap := some 3, mode := .hold,
        noticeClass := .alarm },
      { enabled := true, rank := .subtractive },
      { enabled := true, low := 3000, high := 3500, rank := .medium, hysteresis := 50, cap := some 6 }, {}, {}] }

/-- Section 3.6, steps 1 to 4 and 7 to 9: the claims. -/
theorem test_worked_claims :
    surge.claimFor .rate none (some 1620) = some 2 ∧ surge.claimFor .level (some 4) (some 3040) = some 5
      ∧ surge.claimFor .residual none (some 420) = some 1 ∧ surge.claimFor .level (some 5) (some 3520) = some 5
      ∧ surge.claimFor .level (some 5) (some 3560) = some 0 ∧ surge.claimFor .rate (some 2) (some 1250) = none
      ∧ surge.claimFor .level (some 0) (some 3430) = some 0 ∧ surge.claimFor .residual (some 1) (some 380) = some 1
      ∧ surge.claimFor .level (some 0) (some 3380) = some 5 ∧ surge.claimFor .residual (some 1) (some 330) = none := by
  decide +kernel

/-- Section 3.6, steps 2 and 4: the cap and the wash mode. -/
theorem test_worked_conditions :
    ({ surge with claims := ⟨some 5, some 1, some 2⟩ } : Twu).recomputed.cap = some 6
      ∧ ({ surge with claims := ⟨some 5, some 1, some 2⟩ } : Twu).recomputed.mode = .storm
      ∧ ({ surge with claims := ⟨some 0, some 1, some 2⟩ } : Twu).recomputed.cap = some 4 := by decide +kernel

/-- Section 4.11: screen 3 washing with its last pass begun and one pass staged. -/
def screenThree : State :=
  { run with
    swc :=
      { screens := #v[{}, {},
          { state := .finishing, drive := true, spray := true, staged := some ⟨1, .host, some 1⟩
            wash := some { passes := 2, cls := .headloss, mark := none, counter := 0, accepted := 2, doubleIndex := true
                           passTimer := 90000, guard := some 90000 } }, {}, {}, {}]
        hdok := true }
    pdc := { headerHeld := true } }

/-- Section 4.11, t = 220: succession; t = 250: the jam. -/
theorem test_worked_succession :
    let t := after (exec (.indexPulse 2) screenThree)
    let u := after (exec (.sjamRising 2) t)
    (t.screen 2).state = .washing ∧ (t.screen 2).drive = true ∧ (t.screen 2).staged = none
      ∧ (t.screen 2).current = some ⟨.complete, 2, 2, true, .headloss, none, 0, true⟩
      ∧ (t.screen 2).wash = some { passes := 1, cls := .host, mark := some 1, counter := 0, guard := some 0 }
      ∧ t.swc.sluicing = true ∧ (u.screen 2).state = .jammed ∧ (u.screen 2).drive = false
      ∧ (u.screen 2).current = some ⟨.jammed, 1, 0, false, .host, some 1, 0, true⟩
      ∧ (u.screen 2).previous = (t.screen 2).current
      ∧ u.slp.notices = [⟨.fault, .screenJammed, 3, 0, 0, 1, 0⟩] := by decide +kernel

/-- Section 6.14, t = 35: the start margin fails as check 3, and the slot is DONE with NOT_PERMITTED. -/
theorem test_worked_refused_start :
    let s := { ready with lau := { ready.lau with record := { ready.lau.record with margins := Vector.replicate 8 250 } } }
    let t := after (exec .startSpacingExpiry s)
    (t.pump 0).state = .stopped ∧ t.pdc.queue = []
      ∧ t.slp.slots[(1 : SlotId)] = some ⟨.startPump, .pump 0, [], 5, .done 2 3 0 0⟩ := by decide +kernel

/-- Section 6.14, t = 25: PTRP in STARTING fails the start. -/
theorem test_worked_trip :
    let t := after (exec (.ptrpActive 0 true) starting)
    (t.pump 0).state = .failed ∧ (t.pump 0).run = false ∧ (t.pump 0).recovery = 600000
      ∧ t.slp.notices = [⟨.fault, .pumpFailed, 1, 0, 3, 600, 0⟩]
      ∧ t.slp.slots[(1 : SlotId)] = some ⟨.startPump, .pump 0, [], 5, .done 1 3 0 0⟩ := by decide +kernel

/-- Section 8.10, steps 1 and 2: a bad CRC sets LINK_ERROR, and the reply to GET STATUS shows it and clears it. -/
theorem test_worked_lost_frame :
    let t := after (exec (.frameReceived ⟨0x1C#8, 0x21#8, [0x00#8, 0x04#8], 0x0000#16⟩) (collecting []))
    let u := after (exec (.getStatus (.args ())) (asked (.getStatus (.args ())) t))
    t.slp.linkError = true ∧ t.slp.requests = [] ∧ t.pdc.demand = 0 ∧ u.slp.linkError = false
      ∧ (sent u).kind = 0x81#8 ∧ (sent u).status.getLsbD 2 = true := by decide +kernel

/-- Section 8.10, step 5: SET DEMAND 9 is clamped to 8, OK_ADJUSTED. -/
theorem test_worked_demand :
    let t := after (exec (.setDemand (.args 9)) (asked (.setDemand (.args 9)) run))
    t.pdc.demand = 8
      ∧ (sent t).kind = 0x9C#8 ∧ (sent t).code = .okAdjusted ∧ (sent t).data = [0x00#8, 0x08#8] := by decide +kernel

/-- Section 8.10, step 7: the batch of one notice begins A5, LEN 14, KIND F0, TAG 0; and its 18 bytes end in the CRC. -/
theorem test_worked_batch_frame :
    let line := (Transmitter.batch 0x00#8 0x01#8 [note .fault]).line
    line.take 6 = [0xA5#8, 0x0E#8, 0xF0#8, 0x00#8, 0x00#8, 0x01#8] ∧ line.length = 20
      ∧ (Transmitter.reply ⟨0x9C#8, 0x23#8, 0x04#8, .okAdjusted, [0x00#8, 0x08#8]⟩).line.take 8
        = [0xA5#8, 0x04#8, 0x9C#8, 0x23#8, 0x04#8, 0x01#8, 0x00#8, 0x08#8] := by decide +kernel

/-- R1: the first scan starts at the end of LOADING, its interval the one then in force, whatever SET SCAN then sets. -/
theorem test_first_scan :
    let s := after (exec (.loadingEnd ⟨true, Vector.replicate 12 33000⟩) (loadingWith false []))
    let t := after (exec (.setScan (.args 1000)) (asked (.setScan (.args 1000)) s))
    s.lau.scan = some ⟨Vector.replicate 12 33000, 0, 0⟩ ∧ s.lau.timer = 0 ∧ t.lau.interval = 1000 ∧ t.lau.period = 500 := by
  decide +kernel

/-- R150: a low-level stop that fell due in STARTING is made at the entry into RUNNING, the trip delay raised since. -/
theorem test_low_level_stop_held :
    let s := starting.onPump 0 fun q => { q with lowMargin := some ⟨10000, false⟩ }
    let t := after (exec (.lowLevelStop 0) s)
    let u := after (exec (.pfbRising 0) { t with pdc := { t.pdc with tripDelay := 120 } })
    (t.pump 0).state = .starting ∧ (t.pump 0).lowMargin = some ⟨10000, true⟩ ∧ (u.pump 0).state = .stopping
      ∧ (u.pump 0).stopOrigin = some .lowLevel := by decide +kernel

/-- R146, R147: of two scopes whose timers a new shed delay ends at once, the second gives up the stop that the first's
stop has made needless. -/
theorem test_shed_given_up :
    let on (q : Pump) : Pump := { q with state := .running, run := true, feedback := true }
    let sound : Screen := { counts := true, verdict := true }
    let s := timersDue ((run.onPump 0 on).onPump 3 on)
    let s := { s with
      pdc := { s.pdc with demand := 1, shedDelay := 30 }
      swc := { s.swc with screens := #v[{}, {}, sound, sound, sound, sound] } }
    let i : Instr := .setPumpTiming (.args { shedDelay := some 20 })
    let t := after (exec i (asked i s))
    s.inExcess 0 = true ∧ s.inExcess 3 = true ∧ (t.pump 0).state = .stopping ∧ (t.pump 3).state = .running
      ∧ t.pdc.scopes[(3 : ScopeId)] = ⟨none, .none⟩ := by decide +kernel

/-- R102: GET SCREEN ends with the merged entry of a QUEUED screen, and with no entry for another. -/
theorem test_screen_entry :
    let i : Instr := .washScreen (.args (2, 0))
    let t := after (exec i (asked i washed))
    (t.screenData 1).drop ((t.screenData 1).length - 8) = [0x01#8, 0x02#8, 0x01#8, 0x00#8, 0x00#8, 0x01#8, 0x00#8, 0x00#8]
      ∧ (t.screenData 0).getLast? = some 0x00#8 := by decide +kernel

/-- Section 9.4: a full queue discards a STATUS notice, and an ALARM notice displaces the newest STATUS notice. -/
theorem test_worked_full_queue :
    let q := List.replicate 20 (note .status) ++ List.replicate 8 (note .completion) ++ List.replicate 4 (note .fault)
    let l := ({ notices := q } : Slp).enqueue (note .status)
    let m := l.enqueue (note .alarm)
    l.notices = q ∧ l.overrun = true ∧ m.overrun = true
      ∧ m.notices = List.replicate 19 (note .status) ++ List.replicate 8 (note .completion)
          ++ List.replicate 4 (note .fault) ++ [note .alarm] := by decide +kernel

/-- Section 10.5, t = 30: silence puts the part in fallback with its demand, in AUTO, and queues SUPERVISION_LOST. -/
theorem test_worked_silence :
    let s := { run with
      pdc := { run.pdc with mode := .manual, demand := 4 }
      slp := { run.slp with supervising := true, supervisionMs := 30000 } }
    let t := after (exec .supervisionTimerExpiry s)
    t.slp.fallback = true ∧ t.pdc.mode = .auto ∧ t.pdc.demand = 2
      ∧ t.slp.notices = [⟨.fault, .supervisionLost, 0, 0, 30, 2, 0⟩] := by decide +kernel

end Sys2Proof.Tests
end

section
/-! PROOFS. What a sample, the filter and the vote give (Chapter 1): O16, O17, O18. -/

namespace Sys2Proof.Machine

/-! ## Rounding -/

/-- The rounded quotient lies within half a unit of the exact one, and a tie goes away from zero (R8). -/
theorem roundDiv_nearest (n : Int) {d : Nat} (hd : 0 < d) :
    (2 * (d * roundDiv n d - n)).natAbs ≤ d
      ∧ ((2 * (d * roundDiv n d - n)).natAbs = d → n.natAbs < (d * roundDiv n d).natAbs) := by
  have quotient (m : Int) : 2 * ((d : Int) * ((2 * m + d) / (2 * d))) ≤ 2 * m + d
      ∧ 2 * m + d < 2 * ((d : Int) * ((2 * m + d) / (2 * d))) + 2 * d := by
    have h1 := Int.mul_ediv_add_emod (2 * m + d) (2 * d)
    have h2 := Int.emod_nonneg (2 * m + d) (b := 2 * d) (by omega)
    have h3 := Int.emod_lt_of_pos (2 * m + d) (b := 2 * d) (by omega)
    rw [mul_assoc] at h1
    omega
  unfold roundDiv
  split
  · have := quotient n
    omega
  · have := quotient (-n)
    rw [mul_neg]
    omega

/-! ## The filter (R10, R11) -/

/-- The step of the filter, `2 * p` being its divisor: it lies between 0 and the distance, is 0 within the dead band and
at least 1 mm outside it. -/
theorem filterStep_bounds (d : Int) {p : Int} (hp : 0 < p) :
    (0 ≤ d → 0 ≤ (d + p) / (2 * p) ∧ (d + p) / (2 * p) ≤ d)
      ∧ (d ≤ 0 → d ≤ (d + p) / (2 * p) ∧ (d + p) / (2 * p) ≤ 0)
      ∧ (-p ≤ d → d < p → (d + p) / (2 * p) = 0)
      ∧ (p ≤ d → 1 ≤ (d + p) / (2 * p))
      ∧ (d < -p → (d + p) / (2 * p) ≤ -1) := by
  have h2 : (0 : Int) < 2 * p := by omega
  have lower (q : Int) : q ≤ (d + p) / (2 * p) ↔ q * (2 * p) ≤ d + p := Int.le_ediv_iff_mul_le h2
  have upper (q : Int) : (d + p) / (2 * p) ≤ q ↔ d + p < (q + 1) * (2 * p) := by
    rw [← Int.lt_add_one_iff]; exact Int.ediv_lt_iff_lt_mul h2
  refine ⟨fun h => ⟨(lower 0).2 (by omega), (upper d).2 (by nlinarith)⟩,
    fun h => ⟨(lower d).2 (by nlinarith), (upper 0).2 (by omega)⟩,
    fun h k => le_antisymm ((upper 0).2 (by omega)) ((lower 0).2 (by omega)),
    fun h => (lower 1).2 (by omega), fun h => (upper (-1)).2 (by omega)⟩

theorem filterLevel_direct {seeded : Bool} {k : Nat} (h : seeded = false ∨ k = 0) (f l : Int) :
    filterLevel seeded k f l = l := by
  simp [filterLevel, h]

theorem filterLevel_seeded {k : Nat} (hk : 1 ≤ k) (f l : Int) :
    filterLevel true k f l = f + (l - f + 2 ^ (k - 1)) / (2 * 2 ^ (k - 1)) := by
  obtain ⟨j, rfl⟩ : ∃ j, k = j + 1 := ⟨k - 1, by omega⟩
  simp [filterLevel, pow_succ, mul_comm]

/-- Settles O17: the filter's step is bounded by the distance (R11). -/
theorem filterLiesBetween : Obligations.FilterLiesBetween := by
  intro seeded k f l
  by_cases h : seeded = false ∨ k = 0
  · rw [filterLevel_direct h]
    refine ⟨min_le_right _ _, le_max_right _ _, ?_, ?_, ?_⟩ <;> intro hs hk <;>
      exact absurd h (by simp [hs]; omega)
  · obtain ⟨hs, hk⟩ : seeded = true ∧ 1 ≤ k := by simpa [Nat.one_le_iff_ne_zero] using h
    subst hs
    rw [filterLevel_seeded hk]
    obtain ⟨rise, fall, dead, up, down⟩ := filterStep_bounds (l - f) (p := 2 ^ (k - 1)) (by positivity)
    generalize (l - f + 2 ^ (k - 1)) / (2 * 2 ^ (k - 1)) = q at *
    generalize (2 : Int) ^ (k - 1) = p at *
    refine ⟨?_, ?_, fun _ _ h1 h2 => ?_, fun _ _ h1 => ?_, fun _ _ h1 => ?_⟩ <;> omega

/-! ## The level chain (R7..R10) -/

theorem sampleHealth_under {s : Nat} (h : s < 9437) : sampleHealth s = .under := by simp [sampleHealth, h]

theorem sampleHealth_over {s : Nat} (h : 55050 < s) : sampleHealth s = .over := by
  have : ¬ s < 9437 := by omega
  simp [sampleHealth, h, this]

theorem sampleHealth_ok {s : Nat} (h : 9437 ≤ s) (k : s ≤ 55050) : sampleHealth s = .ok := by
  have h1 : ¬ s < 9437 := by omega
  have h2 : ¬ 55050 < s := by omega
  simp [sampleHealth, h1, h2]

/-- A valid sample runs the whole chain (R8..R12). -/
theorem Channel.sampled_valid (ch : Channel) (density elapsed : Nat) {s : Nat} (h : sampleHealth s = .ok) :
    ch.sampled density s elapsed = { ch with
      raw := s, health := .ok, awaiting := false
      clamped := decide (datum (rawLevel ch density s) ≠ rawLevel ch density s)
      level := filterLevel ch.seeded ch.shift ch.level (datum (rawLevel ch density s)), seeded := true, ageMs := 0 } := by
  simp [Channel.sampled, h]

/-- An invalid sample leaves the level and the clamped flag (R7, R12, R13). -/
theorem Channel.sampled_invalid (ch : Channel) (density elapsed : Nat) {s : Nat} (h : sampleHealth s ≠ .ok) :
    ch.sampled density s elapsed = { ch with
      raw := s, health := sampleHealth s, awaiting := false, seeded := ch.seeded && !ch.newlyFaulted
      ageMs := ageOn ch.ageMs elapsed } := by
  unfold Channel.sampled
  split
  · exact absurd ‹_› h
  · rfl

theorem rawLevel_eq (ch : Channel) (density s : Nat) :
    rawLevel ch density s
      = roundDiv (10000 * roundDiv (((s : Int) - ch.zero) * ch.gain) 4096) density + ch.elevation := by
  rw [rawLevel, mul_comm (10000 : Int)]

theorem datum_eq (l : Int) : datum l = max (-30000) (min 30000 l) := clampInt_eq (by omega) l

theorem datum_ne_iff (l : Int) : datum l ≠ l ↔ l < -30000 ∨ 30000 < l := by
  rw [datum_eq]; omega

/-- The filter's own inequality: floor division, written without it (R10). -/
theorem filterLevel_floor {k : Nat} (hk : 0 < k) (f l : Int) :
    2 ^ k * (filterLevel true k f l - f) ≤ l - f + 2 ^ (k - 1)
      ∧ l - f + 2 ^ (k - 1) < 2 ^ k * (filterLevel true k f l - f + 1) := by
  have hpos : (0 : Int) < 2 ^ k := by positivity
  have hk' : ¬ k = 0 := by omega
  simp only [filterLevel, Bool.not_true, Bool.false_or, hk', decide_false, Bool.false_eq_true, if_false,
    add_sub_cancel_left]
  generalize l - f + 2 ^ (k - 1) = x
  exact ⟨Int.mul_ediv_self_le hpos.ne', by rw [mul_add, mul_one]; exact Int.lt_mul_ediv_self_add hpos⟩

/-- Settles O16: a sample below or above range keeps the level, a valid one runs the chain. -/
theorem levelChainOfASample : Obligations.LevelChainOfASample := by
  intro ch density s elapsed
  have invalid : s < 9437 ∨ 55050 < s → sampleHealth s ≠ .ok := by
    rintro (h | h)
    · simp [sampleHealth_under h]
    · simp [sampleHealth_over h]
  refine ⟨fun h => ?_, fun h => ?_, fun h => ?_, fun h k hd => ?_, ?_⟩
  · rw [ch.sampled_invalid _ _ (invalid (.inl h)), sampleHealth_under h]
  · rw [ch.sampled_invalid _ _ (invalid (.inr h)), sampleHealth_over h]
  · rw [ch.sampled_invalid _ _ (invalid h)]
    exact ⟨rfl, rfl, rfl, rfl⟩
  · have hh := roundDiv_nearest (((s : Int) - ch.zero) * ch.gain) (d := 4096) (by omega)
    have hd := roundDiv_nearest (10000 * roundDiv (((s : Int) - ch.zero) * ch.gain) 4096) hd
    rw [ch.sampled_valid _ _ (sampleHealth_ok h k), rawLevel_eq]
    refine ⟨_, _, _, hh.1, hh.2, hd.1, hd.2, datum_eq _, ?_, rfl, rfl, rfl, fun hs => ?_, fun hs hk => ?_⟩
    · exact decide_eq_decide.2 (datum_ne_iff _)
    · exact filterLevel_direct hs _ _
    · simpa only [hs] using filterLevel_floor hk ch.level (datum _)
  · by_cases h : sampleHealth s = .ok
    · rw [ch.sampled_valid _ _ h]; exact ⟨rfl, rfl⟩
    · rw [ch.sampled_invalid _ _ h]; exact ⟨rfl, rfl⟩

/-! ## The vote (R16, R17) -/

/-- Settles O18: by the number of levels, the three by their order. -/
theorem seaVoteAndClass : Obligations.SeaVoteAndClass := by
  intro a b c heldLevel tolerance
  obtain ⟨mean1, mean2⟩ := roundDiv_nearest (a + b) (d := 2) (by omega)
  have three : voteSea [a, b, c] heldLevel = max (min a b) (min (max a b) c) := rfl
  have two : voteSea [a, b] heldLevel = roundDiv (a + b) 2 := rfl
  refine ⟨?_, ?_, ?_, ?_, ?_, rfl, rfl, ?_, ?_, ?_, rfl, rfl, rfl⟩
  · rw [three]; omega
  · rw [three]; simp only [List.filter_cons, List.filter_nil, decide_eq_true_eq]; split_ifs <;> simp <;> omega
  · rw [three]; simp only [List.filter_cons, List.filter_nil, decide_eq_true_eq]; split_ifs <;> simp <;> omega
  · rw [two]; omega
  · rw [two]; omega
  · simp only [classifySea]; split_ifs <;> simp <;> omega
  · simp only [classifySea]; split_ifs <;> simp <;> omega
  · simp only [classifySea]; split_ifs <;> simp

end Sys2Proof.Machine
end

section
/-! PROOFS. The step on an empty queue and the state after reset: O2, O4, O5. -/

namespace Sys2Proof.Machine

/-! ## The step on an empty queue -/

theorem step_of_pending_nil {s : State} (h : s.pending = []) : step s = .next s.idle := by
  unfold step; rw [h]

theorem State.idle_of_due_nil {s : State} (h : s.dueEvents = []) :
    s.idle = if s.active then (if s.lau.scan.isSome then s.dealNext else s.elapse) else s := by
  unfold State.idle; rw [h]

/-- An event that is due is put in the queue, whichever the free value chooses. -/
theorem State.idle_of_due {s : State} (h : s.dueEvents ≠ []) :
    ∃ e ∈ s.dueEvents, s.idle = { s with draws := s.draws + 13, pending := [e] } := by
  unfold State.idle
  cases hd : s.dueEvents with
  | nil => exact absurd hd h
  | cons e es =>
    have hlt : s.choice (es.length + 1) < (e :: es).length := Nat.mod_lt _ (by simp)
    refine ⟨(e :: es)[s.choice (es.length + 1)], List.getElem_mem hlt, ?_⟩
    simp only [List.getD_eq_getElem?_getD, List.getElem?_eq_getElem hlt, Option.getD_some]

theorem State.dueEvents_resetHeld {s : State} (h : s.phase = .resetHeld) : s.dueEvents = [] := by
  simp [State.dueEvents, h]

/-- Settles O2: by the phase, what is due, and the scan. -/
theorem emptyQueueStep : Obligations.EmptyQueueStep := by
  intro s hs
  rw [step_of_pending_nil hs]
  refine ⟨fun hp => ?_, fun hd => ?_, fun hp hd hn => ?_, fun hp hd hn => ?_, fun hp hd => ?_⟩
  · simp [State.idle_of_due_nil (State.dueEvents_resetHeld hp), State.active, hp]
  · obtain ⟨e, he, hi⟩ := State.idle_of_due hd
    exact ⟨e, he, by rw [hi]⟩
  · simp [State.idle_of_due_nil hd, State.active, hp, hn]
  · simp [State.idle_of_due_nil hd, State.active, hp, Option.isSome_iff_ne_none.2 hn]
  · simp [State.idle_of_due_nil hd, State.active, hp]

/-! ## Reset -/

theorem reset_atStartUp : State.reset.AtStartUp := ⟨rfl, rfl, rfl, rfl, rfl⟩

/-- Settles O4: each table of the reset state by evaluation. -/
theorem resetLeavesDefaults : Obligations.ResetLeavesDefaults := by
  refine ⟨rfl, reset_atStartUp, rfl, rfl, by decide, by decide, rfl, rfl, by decide, rfl, rfl, by decide, rfl, by decide,
    rfl, by decide, rfl, rfl, rfl⟩

theorem reset_swcSound : State.reset.SwcSound where
  header := ⟨by decide, by decide⟩
  records := by unfold State.RecordsMatch; decide
  staged := by unfold State.StagedMatch; decide
  queue := ⟨by decide, by decide⟩
  clear := fun _ => by decide

theorem reset_tablesSound : State.reset.TablesSound where
  ring := by unfold State.RingBounded; decide
  starts := by unfold State.StartsDiffer; decide
  order := by unfold State.OrderPermutes; decide
  link := ⟨by decide, by decide⟩
  targets := fun i _ a _ hi _ _ => by
    have empty : ∀ i : SlotId, State.reset.slp.slots[i] = none := by decide
    rw [empty i] at hi; cases hi

theorem reset_banksSound : State.reset.BanksSound := by
  have empty : ∀ b : BankId, State.reset.twu.banks[b] = {} := by decide
  refine ⟨by decide, by decide, fun b => ?_⟩
  rw [empty b]
  exact ⟨rfl, trivial, by simp⟩

theorem reset_settingsSound : State.reset.SettingsSound := ⟨by decide +kernel, by decide⟩

/-- Settles O5: each invariant by evaluation of the reset state's tables. -/
theorem invariantsHoldAtReset : Obligations.InvariantsHoldAtReset :=
  ⟨⟨by decide, by decide, rfl, rfl⟩, by unfold State.OneStarting; decide, reset_swcSound, reset_tablesSound,
    reset_banksSound, reset_settingsSound, by unfold State.RecoverySound; decide, fun _ => reset_atStartUp, rfl,
    ⟨rfl, rfl, by decide⟩⟩

end Sys2Proof.Machine
end

section
/-! PROOFS. What triggers, claims and publications can do to the state: a frame wider than that of the washes by the
claims, the Intake Condition and the latches of the bands. -/

namespace Sys2Proof.Machine

variable {s t u : State} {W : ScreenId → Prop} {P : PumpId → Prop}

/-! ## The frame of a publication -/

/-- A band without its latch and its reminder count: its settings. -/
def Band.sansLatch (b : Band) : Band := { b with latched := false, reminders := 0 }

/-- The TWU without its claims, the Intake Condition and the latches of its bands. -/
def Twu.sansClaims (t : Twu) : Twu := { t with bands := t.bands.map Band.sansLatch, claims := {}, condition := {} }

/-- What the evaluation of a claim, a publication and the work that follows may change. -/
structure State.ClaimFrame (s t : State) : Prop where
  core : s.SameCore t
  twu : t.twu.sansClaims = s.twu.sansClaims
  swc : t.swc.sansWashes = s.swc.sansWashes
  screens : ∀ n, (t.screen n).sansWash = (s.screen n).sansWash
  pdc : t.pdc.sansDuty = s.pdc.sansDuty
  pumps : ∀ p, (t.pump p).sansMotion = (s.pump p).sansMotion
  link : s.LinkFrame t

theorem State.ClaimFrame.refl (s : State) : s.ClaimFrame s := ⟨.refl s, rfl, rfl, fun _ => rfl, rfl, fun _ => rfl, .refl s⟩

theorem State.ClaimFrame.trans (h : s.ClaimFrame t) (k : t.ClaimFrame u) : s.ClaimFrame u :=
  ⟨h.core.trans k.core, k.twu.trans h.twu, k.swc.trans h.swc, fun n => (k.screens n).trans (h.screens n),
    k.pdc.trans h.pdc, fun p => (k.pumps p).trans (h.pumps p), h.link.trans k.link⟩

/-- A piece of work of the SWC is within what a publication may bring. -/
theorem State.WorkFrame.claim (h : s.WorkFrame W P t) : s.ClaimFrame t :=
  ⟨h.core, by rw [h.twu], h.wash.swc, h.wash.screens, h.pump.pdc, h.pump.pumps, h.link⟩

theorem State.DutyFrame.claim (h : s.DutyFrame P t) : s.ClaimFrame t := (h.work fun _ => False).claim

/-- A change of the TWU within its claims, condition and latches. -/
theorem State.onTwu_claim (f : Twu → Twu) (s : State) (h : (f s.twu).sansClaims = s.twu.sansClaims) :
    s.ClaimFrame (s.onTwu f) :=
  ⟨⟨rfl, rfl, rfl, rfl⟩, h, rfl, fun _ => rfl, rfl, fun _ => rfl, .of_eq rfl⟩

theorem State.settle_claim (s : State) : s.ClaimFrame s.settle := (s.settle_duty fun _ => False).claim

/-! ## Trigger evaluation (R98, R100) -/

theorem State.triggerScreen_work (s : State) (n : ScreenId) (P : PumpId → Prop) :
    s.WorkFrame (fun _ => True) P (s.triggerScreen n) := by
  unfold State.triggerScreen
  split
  · exact .refl _ P s
  · split
    · exact s.joinQueue_work _ _ _ P trivial
    · exact s.mergeQueue_work _ _ _ P trivial
    · exact s.stage_work _ P trivial
    all_goals exact .refl _ P s

/-- All that a trigger evaluation can do. -/
theorem State.evaluateTriggers_work (s : State) (P : PumpId → Prop) :
    s.WorkFrame (fun _ => True) P s.evaluateTriggers := by
  unfold State.evaluateTriggers
  have h := State.foldl_work State.triggerScreen (fun s n => s.triggerScreen_work n P) allScreens s
  exact State.ite_work h (h.trans (State.reevaluate_work _ _ P))

/-! ## Publication (R60..R63) -/

theorem State.drawn_work (s : State) (W : ScreenId → Prop) (P : PumpId → Prop) : s.WorkFrame W P s.drawn :=
  ⟨⟨rfl, rfl, rfl, rfl⟩, rfl, .of_eq W rfl, .of_eq P rfl, .of_eq rfl⟩

theorem State.pdcActs_work (s : State) (old : Condition) (P : PumpId → Prop) :
    s.WorkFrame (fun _ => True) P (s.pdcActs old) := by
  unfold State.pdcActs
  have h := State.ite_work (c := s.twu.condition.cap = some 0) (s.clearHeader_work .abortedByCondition P) (.refl _ P s)
  exact State.ite_work (.refl _ P s) (h.trans ((State.evaluationFollows_duty _ P).work _))

theorem State.modeActs_work (s : State) (old : Condition) (P : PumpId → Prop) :
    s.WorkFrame (fun _ => True) P (s.modeActs old) := by
  unfold State.modeActs
  split
  · exact .refl _ P s
  · split
    · exact s.finishContinuous_work P
    · exact s.evaluateTriggers_work P
    · exact .refl _ P s

theorem State.capActs_work (s : State) (old : Condition) (W : ScreenId → Prop) (P : PumpId → Prop) :
    s.WorkFrame W P (s.capActs old) :=
  State.ite_work ((s.activatePurge_work W P).trans (State.publishHeld_work _ W P)) (.refl _ P s)

theorem State.swcActs_work (s : State) (old : Condition) (P : PumpId → Prop) :
    s.WorkFrame (fun _ => True) P (s.swcActs old) :=
  State.ite_work (.refl _ P s)
    (((s.modeActs_work old P).trans (State.capActs_work _ old _ P)).trans (State.reevaluate_work _ _ P))

/-- All that the PDC and the SWC can do at a publication. -/
theorem State.readersAct_work (s : State) (old : Condition) (P : PumpId → Prop) :
    s.WorkFrame (fun _ => True) P (s.readersAct old) := by
  have d := s.drawn_work (fun _ => True) P
  exact State.ite_work
    (State.ite_work ((d.trans (State.pdcActs_work _ old P)).trans (State.swcActs_work _ old P))
      ((d.trans (State.swcActs_work _ old P)).trans (State.pdcActs_work _ old P)))
    ((s.pdcActs_work old P).trans (State.swcActs_work _ old P))

/-- All that a publication can do. -/
theorem State.recompute_claim (s : State) : s.ClaimFrame s.recompute := by
  unfold State.recompute
  dsimp only
  split
  · exact .refl s
  · exact (s.onTwu_claim _ rfl).trans (State.readersAct_work _ _ fun _ => False).claim

/-! ## Claims (R51..R54) -/

theorem Twu.put_sansClaims (t : Twu) (c : Claims) : ({ t with claims := c } : Twu).sansClaims = t.sansClaims := rfl

theorem Band.latch_sansLatch (b : Band) : b.latch.sansLatch = b.sansLatch := by
  unfold Band.latch; split <;> rfl

/-- A change of one band within its latch and reminder count. -/
theorem State.onBand_claim (b : BandId) (f : Band → Band) (s : State) (hf : ∀ b, (f b).sansLatch = b.sansLatch) :
    s.ClaimFrame (s.onBand b f) := by
  refine s.onTwu_claim _ ?_
  have keep : (s.twu.bands.set b (f s.twu.bands[b])).map Band.sansLatch = s.twu.bands.map Band.sansLatch := by
    refine Vector.ext fun i hi => ?_
    by_cases h : b.val = i
    · subst h; simp [hf]
    · simp [h]
  simp only [Twu.sansClaims, keep]

/-- All that the evaluation of a claim can do. -/
theorem State.evaluateClaim_claim (s : State) (q : Quantity) : s.ClaimFrame (s.evaluateClaim q) := by
  unfold State.evaluateClaim
  dsimp only
  split
  · exact .refl s
  · have h (c k v w x y) (d : Claims) :
        s.ClaimFrame ((s.onTwu fun t => { t with claims := d }).notify c k v w x y) :=
      (s.onTwu_claim _ rfl).trans (State.notify_duty _ c k v w x y fun _ => False).claim
    split
    · exact (h ..).trans (State.onBand_claim _ _ _ Band.latch_sansLatch)
    · exact h ..

/-! ## What the frame keeps -/

section Kept
variable (h : s.ClaimFrame t)
include h

theorem State.ClaimFrame.lau : t.lau = s.lau := h.core.lau
theorem State.ClaimFrame.handed : t.twu.handed = s.twu.handed := (congrArg Twu.handed h.twu :)
theorem State.ClaimFrame.ring : t.twu.ring = s.twu.ring := (congrArg Twu.ring h.twu :)
theorem State.ClaimFrame.rate : t.twu.rate = s.twu.rate := (congrArg Twu.rate h.twu :)
theorem State.ClaimFrame.banks : t.twu.banks = s.twu.banks := (congrArg Twu.banks h.twu :)
theorem State.ClaimFrame.loading : t.twu.loading = s.twu.loading := (congrArg Twu.loading h.twu :)
theorem State.ClaimFrame.prediction : t.twu.prediction = s.twu.prediction := (congrArg Twu.prediction h.twu :)
theorem State.ClaimFrame.residual : t.twu.residual = s.twu.residual := (congrArg Twu.residual h.twu :)
theorem State.ClaimFrame.formedScan : t.twu.formedScan = s.twu.formedScan := (congrArg Twu.formedScan h.twu :)
theorem State.ClaimFrame.trendInterval : t.twu.trendInterval = s.twu.trendInterval :=
  (congrArg Twu.trendInterval h.twu :)
theorem State.ClaimFrame.reminderInterval : t.twu.reminderInterval = s.twu.reminderInterval :=
  (congrArg Twu.reminderInterval h.twu :)
theorem State.ClaimFrame.verdict (n : ScreenId) : (t.screen n).verdict = (s.screen n).verdict :=
  (congrArg Screen.verdict (h.screens n) :)
theorem State.ClaimFrame.blind (n : ScreenId) : (t.screen n).blind = (s.screen n).blind :=
  (congrArg Screen.blind (h.screens n) :)
theorem State.ClaimFrame.time : t.slp.time = s.slp.time := (congrArg Slp.time h.link.slp :)
theorem State.ClaimFrame.timeSet : t.slp.timeSet = s.slp.timeSet := (congrArg Slp.timeSet h.link.slp :)

end Kept

end Sys2Proof.Machine
end

section
/-! PROOFS. The phase, the strap, the LAU and the queue of waiting commands, which the operations that the commands share
leave alone. -/

namespace Sys2Proof.Machine

variable {s t : State}

/-! ## The core of the state, through the shared operations -/

/-- The phase, the strap, the LAU and the queue of waiting commands. -/
def State.coreFields (s : State) : Phase × Bool × Lau × List Instr := (s.phase, s.cfgsrc, s.lau, s.pending)

theorem State.SameCore.fields (h : s.SameCore t) : t.coreFields = s.coreFields := by
  simp [State.coreFields, h.phase, h.cfgsrc, h.lau, h.pending]

theorem lau_of_coreFields (h : t.coreFields = s.coreFields) : t.lau = s.lau :=
  congrArg (fun x : Phase × Bool × Lau × List Instr => x.2.2.1) h

section Ops
variable (s : State)

@[simp] theorem coreFields_onTwu (f : Twu → Twu) : (s.onTwu f).coreFields = s.coreFields := rfl
@[simp] theorem coreFields_onSwc (f : Swc → Swc) : (s.onSwc f).coreFields = s.coreFields := rfl
@[simp] theorem coreFields_onPdc (f : Pdc → Pdc) : (s.onPdc f).coreFields = s.coreFields := rfl
@[simp] theorem coreFields_onSlp (f : Slp → Slp) : (s.onSlp f).coreFields = s.coreFields := rfl
@[simp] theorem coreFields_onBand (b : BandId) (f : Band → Band) : (s.onBand b f).coreFields = s.coreFields := rfl
@[simp] theorem coreFields_onScreen (n : ScreenId) (f : Screen → Screen) :
    (s.onScreen n f).coreFields = s.coreFields := rfl
@[simp] theorem coreFields_onPump (p : PumpId) (f : Pump → Pump) : (s.onPump p f).coreFields = s.coreFields := rfl
@[simp] theorem coreFields_evaluationFollows : s.evaluationFollows.coreFields = s.coreFields := rfl
@[simp] theorem coreFields_notify (c k v w x y) : (s.notify c k v w x y).coreFields = s.coreFields := rfl
@[simp] theorem coreFields_complete (m : Option Nat) (r d : Nat) : (s.complete m r d).coreFields = s.coreFields :=
  (s.complete_duty m r d fun _ => False).core.fields
@[simp] theorem coreFields_reply (c : Code) (d : List Byte) : (s.reply c d).coreFields = s.coreFields := by
  simp [State.coreFields]
@[simp] theorem coreFields_settle : s.settle.coreFields = s.coreFields := s.settle_claim.core.fields

/-- Pieces of work that keep the core, one after another, keep it. -/
theorem coreFields_foldl {α : Type} {f : State → α → State} (hf : ∀ s a, (f s a).coreFields = s.coreFields)
    (l : List α) : (l.foldl f s).coreFields = s.coreFields := by
  induction l generalizing s with
  | nil => rfl
  | cons a l ih => exact (ih (f s a)).trans (hf s a)

theorem coreFields_ite {c : Prop} [Decidable c] {a b : State} (ha : a.coreFields = s.coreFields)
    (hb : b.coreFields = s.coreFields) : (if c then a else b).coreFields = s.coreFields := by
  split
  · exact ha
  · exact hb

/-! ### Washes and the header -/

@[simp] theorem coreFields_enterScreen (n : ScreenId) (st : ScreenState) :
    (s.enterScreen n st).coreFields = s.coreFields := rfl
@[simp] theorem coreFields_reevaluate : s.reevaluate.coreFields = s.coreFields :=
  (s.reevaluate_duty fun _ => False).core.fields
@[simp] theorem coreFields_publishHeld : s.publishHeld.coreFields = s.coreFields :=
  (s.publishHeld_duty fun _ => False).core.fields
@[simp] theorem coreFields_endWash (n : ScreenId) (o : WashOutcome) (next : ScreenState) :
    (s.endWash n o next).coreFields = s.coreFields :=
  (s.endWash_work (W := fun _ => True) o next (fun _ => False) trivial).core.fields
@[simp] theorem coreFields_endWashes (p : State → ScreenId → Bool) (o : WashOutcome) :
    (s.endWashes p o).coreFields = s.coreFields := (s.endWashes_work p o fun _ => False).core.fields
@[simp] theorem coreFields_clearHeader (o : WashOutcome) : (s.clearHeader o).coreFields = s.coreFields :=
  (s.clearHeader_work o fun _ => False).core.fields
@[simp] theorem coreFields_endSluice : s.endSluice.coreFields = s.coreFields :=
  (s.endSluice_work fun _ => False).core.fields
@[simp] theorem coreFields_activatePurge : s.activatePurge.coreFields = s.coreFields :=
  (s.activatePurge_work (fun _ => False) fun _ => False).core.fields
@[simp] theorem coreFields_finishPurge : s.finishPurge.coreFields = s.coreFields :=
  (s.finishPurge_work (fun _ => False) fun _ => False).core.fields
@[simp] theorem coreFields_finishContinuous : s.finishContinuous.coreFields = s.coreFields :=
  (s.finishContinuous_work fun _ => False).core.fields
@[simp] theorem coreFields_joinQueue (n : ScreenId) (c : WashClass) (p : Nat) (m : Option Nat) :
    (s.joinQueue n c p m).coreFields = s.coreFields := rfl
@[simp] theorem coreFields_mergeQueue (n : ScreenId) (c : WashClass) (p : Nat) (m : Option Nat) :
    (s.mergeQueue n c p m).coreFields = s.coreFields := rfl
@[simp] theorem coreFields_stage (n : ScreenId) (g : Staged) : (s.stage n g).coreFields = s.coreFields := rfl
@[simp] theorem coreFields_removeEntry (n : ScreenId) (next : ScreenState) :
    (s.removeEntry n next).coreFields = s.coreFields :=
  (s.removeEntry_work (W := fun _ => True) next (fun _ => False) trivial).core.fields
@[simp] theorem coreFields_setWash (n : ScreenId) (w : WashRecord) : (s.setWash n w).coreFields = s.coreFields := rfl
@[simp] theorem coreFields_purgeOverdue : s.purgeOverdue.coreFields = s.coreFields := by simp [State.purgeOverdue]
@[simp] theorem coreFields_loseHeader : s.loseHeader.coreFields = s.coreFields := by simp [State.loseHeader]

@[simp] theorem coreFields_publishCapacity : s.publishCapacity.coreFields = s.coreFields :=
  coreFields_ite s rfl rfl

@[simp] theorem coreFields_acceptPulse (n : ScreenId) (w : WashRecord) :
    (s.acceptPulse n w).coreFields = s.coreFields := by
  unfold State.acceptPulse
  split
  · exact coreFields_ite s rfl (coreFields_ite s rfl rfl)
  all_goals simp

@[simp] theorem coreFields_jamActs (n : ScreenId) (rising : Bool) : (s.jamActs n rising).coreFields = s.coreFields := by
  unfold State.jamActs
  split
  iterate 2 exact coreFields_ite s (by simp) rfl
  all_goals simp

@[simp] theorem coreFields_jamLevel (n : ScreenId) (level : Bool) : (s.jamLevel n level).coreFields = s.coreFields :=
  coreFields_ite s rfl (coreFields_ite s (by simp) rfl)

@[simp] theorem coreFields_stopWash (n : ScreenId) : (s.stopWash n).coreFields = s.coreFields := by
  unfold State.stopWash; split <;> simp

@[simp] theorem coreFields_serviceOut (n : ScreenId) : (s.serviceOut n).coreFields = s.coreFields := by
  unfold State.serviceOut; split <;> simp

@[simp] theorem coreFields_serviceIn (n : ScreenId) : (s.serviceIn n).coreFields = s.coreFields := by
  unfold State.serviceIn
  split
  · exact coreFields_ite s rfl rfl
  all_goals rfl

@[simp] theorem coreFields_purgeIntervalActs : s.purgeIntervalActs.coreFields = s.coreFields := by
  unfold State.purgeIntervalActs
  split
  · rfl
  · exact coreFields_ite s (by simp) rfl
  · rfl

/-- What a changed setting does keeps the core if its own work does. -/
theorem coreFields_whenNew (old new : Nat) {f : State → State} (hf : ∀ s, (f s).coreFields = s.coreFields) :
    (whenNew old new f s).coreFields = s.coreFields := coreFields_ite s rfl (hf s)

@[simp] theorem coreFields_washTimingActs (old : Swc) : (s.washTimingActs old).coreFields = s.coreFields := by
  unfold State.washTimingActs
  dsimp only
  rw [coreFields_whenNew _ _ _ fun t => coreFields_ite t (by simp) rfl,
    coreFields_whenNew _ _ _ fun t => coreFields_ite t (by simp) rfl,
    coreFields_whenNew _ _ _ fun t => coreFields_ite t (by simp) rfl,
    coreFields_whenNew _ _ _ coreFields_purgeIntervalActs,
    coreFields_whenNew _ _ _ fun t => coreFields_ite t (by simp) rfl,
    coreFields_whenNew _ _ _ fun t => by simp]

@[simp] theorem coreFields_hostWash (n : ScreenId) (p m : Nat) : (s.hostWash n p m).coreFields = s.coreFields := by
  unfold State.hostWash; split <;> simp

/-! ### Pumps and duty -/

@[simp] theorem coreFields_enterPump (p : PumpId) (st : PumpState) : (s.enterPump p st).coreFields = s.coreFields := rfl
@[simp] theorem coreFields_rest (p : PumpId) : (s.rest p).coreFields = s.coreFields := rfl
@[simp] theorem coreFields_stopEnded (p : PumpId) : (s.stopEnded p).coreFields = s.coreFields :=
  (s.stopEnded_duty (P := fun _ => True) trivial).core.fields
@[simp] theorem coreFields_orderStop (p : PumpId) (o : StopOrigin) (m : Option Nat) :
    (s.orderStop p o m).coreFields = s.coreFields := (s.orderStop_duty p o m fun _ => True).core.fields
@[simp] theorem coreFields_lowLevelActs (p : PumpId) : (s.lowLevelActs p).coreFields = s.coreFields :=
  (s.lowLevelActs_duty (P := fun _ => True) trivial).core.fields
@[simp] theorem coreFields_enterRunning (p : PumpId) : (s.enterRunning p).coreFields = s.coreFields :=
  (s.enterRunning_duty (P := fun _ => True) trivial).core.fields
@[simp] theorem coreFields_failPump (p : PumpId) (c : FailCause) : (s.failPump p c).coreFields = s.coreFields :=
  (s.failPump_duty (P := fun _ => True) c trivial).core.fields
@[simp] theorem coreFields_startArbiter : s.startArbiter.coreFields = s.coreFields :=
  (s.startArbiter_duty fun _ => True).core.fields
@[simp] theorem coreFields_joinStart (p : PumpId) (o : StartOrigin) (m : Option Nat) :
    (s.joinStart p o m).coreFields = s.coreFields := (s.joinStart_duty p o m fun _ => True).core.fields
@[simp] theorem coreFields_leaveStart (p : PumpId) : (s.leaveStart p).coreFields = s.coreFields := rfl
@[simp] theorem coreFields_refuseStart (e : StartEntry) (c : Nat) : (s.refuseStart e c).coreFields = s.coreFields :=
  (s.refuseStart_duty e c fun _ => True).core.fields
@[simp] theorem coreFields_fallDue (k : ScopeId) : (s.fallDue k).coreFields = s.coreFields :=
  (s.fallDue_duty k fun _ => True).core.fields
@[simp] theorem coreFields_feedbackLevel (p : PumpId) (level : Bool) :
    (s.feedbackLevel p level).coreFields = s.coreFields := rfl

@[simp] theorem coreFields_setMode (m : DutyMode) : (s.setMode m).coreFields = s.coreFields := by
  unfold State.setMode
  refine coreFields_ite s rfl ?_
  cases m <;> rfl

@[simp] theorem coreFields_disablePump (p : PumpId) : (s.disablePump p).coreFields = s.coreFields := by
  unfold State.disablePump
  simp only [coreFields_enterPump, coreFields_onPump]
  split <;> simp

@[simp] theorem coreFields_cutRecovery (p : PumpId) : (s.cutRecovery p).coreFields = s.coreFields :=
  coreFields_ite s (coreFields_ite s rfl rfl) rfl

@[simp] theorem coreFields_cutClass (c : PumpClass) : (State.cutClass c s).coreFields = s.coreFields :=
  coreFields_foldl s (fun t _ => coreFields_ite t (by simp) rfl) _
@[simp] theorem coreFields_endLateStarts : s.endLateStarts.coreFields = s.coreFields :=
  coreFields_foldl s (fun t _ => coreFields_ite t (by simp) rfl) _
@[simp] theorem coreFields_endLateStops : s.endLateStops.coreFields = s.coreFields :=
  coreFields_foldl s (fun t _ => coreFields_ite t (by simp) rfl) _
@[simp] theorem coreFields_stopLowPumps : s.stopLowPumps.coreFields = s.coreFields :=
  coreFields_foldl s (fun t _ => coreFields_ite t (by simp) rfl) _
@[simp] theorem coreFields_spacingActs : s.spacingActs.coreFields = s.coreFields := coreFields_startArbiter _
@[simp] theorem coreFields_makeDueStops : s.makeDueStops.coreFields = s.coreFields :=
  (coreFields_evaluationFollows _).trans (coreFields_foldl s (fun t _ => coreFields_ite t (by simp) rfl) _)
@[simp] theorem coreFields_fallbackDemandActs : s.fallbackDemandActs.coreFields = s.coreFields :=
  coreFields_ite s rfl rfl

@[simp] theorem coreFields_pumpTimingActs (old : Pdc) : (s.pumpTimingActs old).coreFields = s.coreFields := by
  unfold State.pumpTimingActs
  dsimp only
  rw [coreFields_whenNew _ _ _ coreFields_fallbackDemandActs, coreFields_whenNew _ _ _ fun t => coreFields_onPdc t _,
    coreFields_whenNew _ _ _ coreFields_evaluationFollows, coreFields_whenNew _ _ _ coreFields_makeDueStops,
    coreFields_whenNew _ _ _ coreFields_stopLowPumps, coreFields_whenNew _ _ _ coreFields_evaluationFollows,
    coreFields_whenNew _ _ _ coreFields_spacingActs, coreFields_whenNew _ _ _ coreFields_endLateStops,
    coreFields_whenNew _ _ _ coreFields_endLateStarts, coreFields_whenNew _ _ _ fun t => coreFields_cutClass t _,
    coreFields_whenNew _ _ _ fun t => coreFields_cutClass t _]

@[simp] theorem coreFields_hostStart (p : PumpId) (m : Nat) : (s.hostStart p m).coreFields = s.coreFields := by
  unfold State.hostStart; split <;> simp

@[simp] theorem coreFields_hostStop (p : PumpId) (f : Bool) (m : Nat) :
    (s.hostStop p f m).coreFields = s.coreFields := by
  unfold State.hostStop
  split
  · rfl
  · rw [coreFields_settle, coreFields_orderStop]
    exact coreFields_ite s (by simp) rfl
  all_goals rfl

/-! ### Claims, the tide and the intake time -/

@[simp] theorem coreFields_evaluateClaim (q : Quantity) : (s.evaluateClaim q).coreFields = s.coreFields :=
  (s.evaluateClaim_claim q).core.fields
@[simp] theorem coreFields_recompute : s.recompute.coreFields = s.coreFields := s.recompute_claim.core.fields
@[simp] theorem coreFields_rateEvent : s.rateEvent.coreFields = s.coreFields := by simp [State.rateEvent]
@[simp] theorem coreFields_emptyRing : s.emptyRing.coreFields = s.coreFields := by simp [State.emptyRing]
@[simp] theorem coreFields_remind (b : BandId) : (s.remind b).coreFields = s.coreFields := coreFields_ite s rfl rfl

@[simp] theorem coreFields_reevaluateQuantities (a b : Quantity) :
    (s.reevaluateQuantities a b).coreFields = s.coreFields :=
  coreFields_foldl s (fun t q => coreFields_ite t (by simp) rfl) _

@[simp] theorem coreFields_swapBanks (c : Nat) : (s.swapBanks c).coreFields = s.coreFields := rfl

@[simp] theorem coreFields_checkBank : s.checkBank.coreFields = s.coreFields := by
  unfold State.checkBank
  dsimp only
  split
  · exact coreFields_ite s (coreFields_ite s rfl rfl) rfl
  · exact coreFields_ite s rfl rfl
  all_goals rfl

@[simp] theorem coreFields_checkBanks : s.checkBanks.coreFields = s.coreFields := coreFields_ite s (by simp) rfl

/-! ### The link -/

@[simp] theorem coreFields_markLinkError : s.markLinkError.coreFields = s.coreFields := rfl
@[simp] theorem coreFields_hunt : s.hunt.coreFields = s.coreFields := rfl
@[simp] theorem coreFields_heard : s.heard.coreFields = s.coreFields := coreFields_ite s rfl rfl
@[simp] theorem coreFields_hold (r : Request) : (s.hold r).coreFields = s.coreFields := coreFields_ite s rfl rfl
@[simp] theorem coreFields_arrive (i : Instr) : (s.arrive i).coreFields = s.coreFields := by simp [State.arrive]
@[simp] theorem coreFields_goodFrame (f : Frame) : (s.goodFrame f).coreFields = s.coreFields :=
  coreFields_ite s (by simp) (by simp)
@[simp] theorem coreFields_formBatch : s.formBatch.coreFields = s.coreFields := rfl

@[simp] theorem coreFields_transmitNext (b : Bool) : (s.transmitNext b).coreFields = s.coreFields := by
  unfold State.transmitNext
  split
  · rfl
  · exact coreFields_ite s rfl rfl

@[simp] theorem coreFields_enterFallback : s.enterFallback.coreFields = s.coreFields := by
  unfold State.enterFallback
  dsimp only
  rw [coreFields_notify, coreFields_settle, coreFields_evaluationFollows, coreFields_onPdc, coreFields_setMode,
    coreFields_onSlp]

@[simp] theorem coreFields_freeSlotAt (i : SlotId) : (s.freeSlotAt i).coreFields = s.coreFields := rfl
@[simp] theorem coreFields_openSlot (i : SlotId) (k : DeferredKind) (g : Target) (a : List Byte) :
    (s.openSlot i k g a).coreFields = s.coreFields := rfl
@[simp] theorem coreFields_reportSave (m r n : Nat) : (s.reportSave m r n).coreFields = s.coreFields := by
  simp [State.reportSave]

@[simp] theorem coreFields_discardSlot (i : SlotId) : (s.discardSlot i).coreFields = s.coreFields := by
  unfold State.discardSlot
  split
  · split <;> rfl
  · rfl

@[simp] theorem coreFields_supervisionActs : s.supervisionActs.coreFields = s.coreFields := rfl
@[simp] theorem coreFields_discardActs : s.discardActs.coreFields = s.coreFields :=
  coreFields_foldl s (fun t _ => coreFields_ite t (by simp) rfl) _

@[simp] theorem coreFields_linkActs (old : Slp) : (s.linkActs old).coreFields = s.coreFields := by
  unfold State.linkActs
  dsimp only
  rw [coreFields_whenNew _ _ _ coreFields_discardActs, coreFields_whenNew _ _ _ coreFields_supervisionActs,
    coreFields_whenNew _ _ _ fun t => coreFields_onSlp t _]

end Ops

/-! ## Requests -/

/-- The rule of a request keeps the core. -/
def KeepsCore (rule : State → Answer) : Prop := ∀ t, (rule t).state.coreFields = t.coreFields

theorem keepsCore_refuse (c : Code) : KeepsCore fun t => .refuse t c := fun _ => rfl

theorem keepsCore_withArgs {α : Type} {k : α → State → Answer} (a : Form α) (h : ∀ x, KeepsCore (k x)) :
    KeepsCore (withArgs a k) := by
  intro t
  cases a with
  | args x => exact h x t
  | mismatch => rfl

theorem keepsCore_outsideFallback {k : State → Answer} (h : KeepsCore k) : KeepsCore (outsideFallback k) := by
  intro t
  unfold outsideFallback
  split
  · rfl
  · exact h t

theorem keepsCore_ite {c : State → Prop} [∀ t, Decidable (c t)] {a b : State → Answer} (ha : KeepsCore a)
    (hb : KeepsCore b) : KeepsCore fun t => if c t then a t else b t := by
  intro t
  dsimp only
  split
  · exact ha t
  · exact hb t

/-- What the rule of the owner of a deferred request leaves. -/
def Verdict.KeepsCore (t : State) : Verdict → Prop
  | .answered u => u.coreFields = t.coreFields
  | .refused _ | .opens => True

theorem keepsCore_newRequest (k : DeferredKind) (g : Target) (args : List Byte) {v : Verdict}
    {act : Nat → State → State} (data : List Byte) (hv : v.KeepsCore s)
    (ha : ∀ m t, (act m t).coreFields = t.coreFields) :
    (newRequest k g args v act data s).state.coreFields = s.coreFields := by
  unfold newRequest
  split
  · rfl
  · exact hv
  · split
    · rfl
    · simp [ha]

theorem keepsCore_foundSlot (i : SlotId) (sl : Slot) (k : DeferredKind) (args : List Byte) :
    KeepsCore (foundSlot i sl k args) := by
  intro t
  unfold foundSlot
  split
  · split <;> rfl
  · rfl

theorem keepsCore_deferredRequest (k : DeferredKind) (g : Target) (args : List Byte) {v : State → Verdict}
    {act : Nat → State → State} (data : List Byte) (hv : ∀ t, (v t).KeepsCore t)
    (ha : ∀ m t, (act m t).coreFields = t.coreFields) : KeepsCore (deferredRequest k g args v act data) := by
  intro t
  unfold deferredRequest
  split
  · split
    · exact keepsCore_foundSlot _ _ _ _ t
    · exact keepsCore_newRequest k g args data (hv t) ha
  · exact keepsCore_newRequest k g args data (hv t) ha

theorem coreFields_serve {f g : State → Answer} (hf : KeepsCore f) (hg : KeepsCore g) (s : State) :
    (s.serve f g).coreFields = s.coreFields := by
  unfold State.serve
  dsimp only
  rw [coreFields_reply]
  split
  · exact hf s
  · exact hg s
  · exact hg s

/-- A request whose rule keeps the core keeps it, however it comes and whether or not it is taken. -/
theorem coreFields_requestIn {f g : State → Answer} (hf : KeepsCore f) (hg : KeepsCore g) (i : Instr) (s : State) :
    (s.requestIn i f g).coreFields = s.coreFields := by
  have taken : (if s.slp.replyOutstanding then s.arrive i
      else match s.slp.requests with
        | [] => (s.arrive i).serve f g
        | r :: _ => if r.command = i then s.serve f g else s.arrive i).coreFields = s.coreFields := by
    refine coreFields_ite s (by simp) ?_
    split
    · simp [coreFields_serve hf hg]
    · exact coreFields_ite s (coreFields_serve hf hg s) (by simp)
  unfold State.requestIn
  split
  · rfl
  all_goals exact taken

theorem coreFields_request {rule : State → Answer} (h : KeepsCore rule) (i : Instr) (s : State) :
    (s.request i rule).coreFields = s.coreFields := coreFields_requestIn (keepsCore_refuse _) h i s

end Sys2Proof.Machine
end

section
/-! PROOFS. The walk of the commands: each outside the start of the part, the scan and the LAU's settings requests
leaves the LAU: O12. -/

namespace Sys2Proof.Machine

/-! ## The commands -/

/-- A command ends in a next state with the core of `s`. -/
def LeavesCore (s : State) (o : Host.Outcome State Fault Refusal) : Prop :=
  ∃ t, o = .next t ∧ t.coreFields = s.coreFields

theorem leavesCore_next {s t : State} (h : t.coreFields = s.coreFields) : LeavesCore s (.next t) := ⟨t, rfl, h⟩

/-- A command that acts on a condition, and otherwise does nothing. -/
theorem leavesCore_when {s : State} {c : Prop} [Decidable c] {t : State} (h : t.coreFields = s.coreFields) :
    LeavesCore s (.next (if c then t else s)) := leavesCore_next (coreFields_ite s h rfl)

theorem leavesCore_request {rule : State → Answer} (h : KeepsCore rule) (i : Instr) (s : State) :
    LeavesCore s (.next (s.request i rule)) := leavesCore_next (coreFields_request h i s)

/-- A request with arguments whose rule keeps the core. -/
theorem leavesCore_args {α : Type} {k : α → State → Answer} (i : Instr) (a : Form α) (s : State)
    (h : ∀ x, KeepsCore (k x)) : LeavesCore s (.next (s.request i (withArgs a k))) :=
  leavesCore_request (keepsCore_withArgs a h) i s

section Events
variable (s : State)

theorem leavesCore_trendTimerExpiry : LeavesCore s (execTrendTimerExpiry s) := by
  refine leavesCore_when ?_
  dsimp only
  exact coreFields_ite s rfl (by simp)

theorem leavesCore_reminderTimerExpiry : LeavesCore s (execReminderTimerExpiry s) :=
  leavesCore_when (coreFields_foldl _ (fun t b => coreFields_remind t b) _)

theorem leavesCore_indexPulse (n : ScreenId) : LeavesCore s (execIndexPulse n s) := by
  refine leavesCore_when ?_
  split
  · rfl
  · exact coreFields_ite s rfl (by simp)

theorem leavesCore_hdokChange (level : Bool) : LeavesCore s (execHdokChange level s) :=
  leavesCore_next (coreFields_ite s rfl (coreFields_ite s (by simp) rfl))

theorem leavesCore_pfbRising (p : PumpId) : LeavesCore s (execPfbRising p s) :=
  leavesCore_next (coreFields_ite s rfl (coreFields_ite s (by simp) rfl))

theorem leavesCore_pfbFalling (p : PumpId) : LeavesCore s (execPfbFalling p s) := by
  refine leavesCore_when (coreFields_ite s ?_ rfl)
  split
  · exact coreFields_ite s rfl (by simp)
  · simp
  all_goals rfl

theorem leavesCore_ptrpActive (p : PumpId) (level : Bool) : LeavesCore s (execPtrpActive p level s) :=
  leavesCore_next (coreFields_ite s (by simp) rfl)

theorem leavesCore_rotationTimerExpiry : LeavesCore s (execRotationTimerExpiry s) := by
  refine leavesCore_when ?_
  rw [coreFields_settle, coreFields_evaluationFollows, coreFields_notify, coreFields_onPdc]

theorem leavesCore_shedTimerExpiry (k : ScopeId) : LeavesCore s (execShedTimerExpiry k s) := by
  refine leavesCore_next ?_
  split
  · exact coreFields_ite s (by simp) rfl
  · rfl

theorem leavesCore_supervisionTimerExpiry : LeavesCore s (execSupervisionTimerExpiry s) :=
  leavesCore_when (coreFields_ite s rfl (by simp))

theorem leavesCore_saveConfigEnd (e : SaveEnd) : LeavesCore s (execSaveConfigEnd e s) := by
  refine leavesCore_next ?_
  split
  · rfl
  · exact coreFields_ite s (by simp) rfl

theorem leavesCore_frameReceived (f : Frame) : LeavesCore s (execFrameReceived f s) :=
  leavesCore_when (coreFields_ite s (by simp) rfl)

theorem leavesCore_batchSent : LeavesCore s (execBatchSent s) := by
  refine leavesCore_next ?_
  split
  · simp
  all_goals rfl

end Events

section Requests
variable (s : State)

theorem leavesCore_getStatus (a : Form Unit) : LeavesCore s (execGetStatus a s) :=
  leavesCore_next (coreFields_requestIn (keepsCore_withArgs a fun _ _ => rfl) (keepsCore_withArgs a fun _ _ => rfl) _ s)

theorem leavesCore_getTidePoints (a : Form (Nat × Nat)) : LeavesCore s (execGetTidePoints a s) := by
  refine leavesCore_args _ a s fun x t => ?_
  split
  · rfl
  · dsimp only; split <;> rfl

theorem leavesCore_getScreen (a : Form Nat) : LeavesCore s (execGetScreen a s) := by
  refine leavesCore_args _ a s fun x t => ?_
  split <;> rfl

theorem leavesCore_getPump (a : Form Nat) : LeavesCore s (execGetPump a s) := by
  refine leavesCore_args _ a s fun x t => ?_
  split <;> rfl

theorem leavesCore_setTrend (a : Form Nat) : LeavesCore s (execSetTrend a s) :=
  leavesCore_args _ a s fun _ t => coreFields_ite t rfl (by simp)

theorem leavesCore_setBandEntry (a : Form BandArgs) : LeavesCore s (execSetBandEntry a s) := by
  refine leavesCore_args _ a s fun x t => ?_
  split
  · rfl
  · split
    · rfl
    · simp

theorem leavesCore_setScreen (a : Form ScreenArgs) : LeavesCore s (execSetScreen a s) := by
  refine leavesCore_args _ a s fun x t => ?_
  split
  · rfl
  · split <;> rfl

theorem leavesCore_setWashTiming (a : Form WashTimingArgs) : LeavesCore s (execSetWashTiming a s) := by
  refine leavesCore_args _ a s fun x t => ?_
  split
  · rfl
  · simp

theorem keepsCore_setPumpOn (p : PumpId) (k : Option PumpClass) (c : PumpArgs) : KeepsCore (setPumpOn p k c) :=
  fun t => coreFields_ite t rfl (by simp)

theorem leavesCore_setPump (a : Form PumpArgs) : LeavesCore s (execSetPump a s) := by
  refine leavesCore_args _ a s fun x t => ?_
  split
  · rfl
  · split
    · rfl
    · split
      · exact keepsCore_setPumpOn _ _ _ t
      · split
        · rfl
        · exact keepsCore_setPumpOn _ _ _ t

theorem leavesCore_setPumpTiming (a : Form PumpTimingArgs) : LeavesCore s (execSetPumpTiming a s) := by
  refine leavesCore_args _ a s fun x t => ?_
  split
  · rfl
  · simp

theorem leavesCore_setDutyOrder (a : Form (List Nat)) : LeavesCore s (execSetDutyOrder a s) := by
  refine leavesCore_args _ a s fun x t => ?_
  split
  · rfl
  · exact coreFields_ite t rfl (by simp)

theorem leavesCore_setDutyMode (a : Form Nat) : LeavesCore s (execSetDutyMode a s) := by
  refine leavesCore_args _ a s fun x t => ?_
  split
  · rfl
  · exact keepsCore_outsideFallback (fun u => by simp) t

theorem leavesCore_setDemand (a : Form Nat) : LeavesCore s (execSetDemand a s) :=
  leavesCore_args _ a s fun _ => keepsCore_outsideFallback fun u => coreFields_ite u rfl (by simp)

theorem leavesCore_setLink (a : Form LinkArgs) : LeavesCore s (execSetLink a s) := by
  refine leavesCore_args _ a s fun x t => ?_
  split
  · rfl
  · split
    · rfl
    · simp

theorem leavesCore_setClockStep (a : Form Int) : LeavesCore s (execSetClockStep a s) := by
  refine leavesCore_args _ a s fun x t => ?_
  split
  · simp
  · rfl

theorem leavesCore_tidePoints (a : Form (List TidePoint)) : LeavesCore s (execTidePoints a s) := by
  refine leavesCore_args _ a s fun x t => ?_
  dsimp only
  split
  · rfl
  · split <;> rfl

theorem leavesCore_tideCommitNow (a : Form Unit) : LeavesCore s (execTideCommitNow a s) := by
  refine leavesCore_args _ a s fun x t => ?_
  dsimp only
  split
  · simp
  · rfl

theorem leavesCore_tideSeal (a : Form Unit) : LeavesCore s (execTideSeal a s) := by
  refine leavesCore_args _ a s fun x t => ?_
  dsimp only
  split
  · simp
  · rfl

theorem leavesCore_stopWash (a : Form Nat) : LeavesCore s (execStopWash a s) := by
  refine leavesCore_args _ a s fun x t => ?_
  split
  · rfl
  · exact keepsCore_outsideFallback (fun u => by simp) t

theorem leavesCore_clearScreen (a : Form Nat) : LeavesCore s (execClearScreen a s) := by
  refine leavesCore_args _ a s fun x t => ?_
  split
  · rfl
  · split
    · split
      · rfl
      · simp
    all_goals rfl

theorem leavesCore_setService (a : Form (Nat × Nat)) : LeavesCore s (execSetService a s) := by
  refine leavesCore_args _ a s fun x t => ?_
  split
  · refine keepsCore_outsideFallback (fun u => ?_) t
    dsimp only
    rw [coreFields_settle, coreFields_publishCapacity]
    exact coreFields_ite u (by simp) (by simp)
  · rfl

theorem leavesCore_enablePump (a : Form Nat) : LeavesCore s (execEnablePump a s) := by
  refine leavesCore_args _ a s fun x t => ?_
  split
  · rfl
  · split
    · simp
    all_goals rfl

theorem leavesCore_disablePump (a : Form Nat) : LeavesCore s (execDisablePump a s) := by
  refine leavesCore_args _ a s fun x t => ?_
  split
  · rfl
  · split <;> simp [Answer.refuse]

theorem leavesCore_clearPump (a : Form Nat) : LeavesCore s (execClearPump a s) := by
  refine leavesCore_args _ a s fun x t => ?_
  split
  · rfl
  · split
    · split
      · rfl
      · simp
    all_goals rfl

theorem leavesCore_resetHours (a : Form Nat) : LeavesCore s (execResetHours a s) := by
  refine leavesCore_args _ a s fun x t => ?_
  split <;> rfl

theorem keepsCore_washVerdict (n : ScreenId) (t : State) : (washVerdict n t).KeepsCore t := by
  unfold washVerdict
  split
  iterate 4 trivial
  all_goals split <;> trivial

theorem leavesCore_washScreen (a : Form (Nat × Nat)) : LeavesCore s (execWashScreen a s) := by
  refine leavesCore_args _ a s fun x t => ?_
  split
  · rfl
  · exact keepsCore_outsideFallback
      (keepsCore_deferredRequest _ _ _ _ (keepsCore_washVerdict _) fun m u => coreFields_hostWash u _ _ m) t

theorem keepsCore_startVerdict (p : PumpId) (t : State) : (startVerdict p t).KeepsCore t := by
  unfold startVerdict
  split
  · trivial
  · split
    · rfl
    all_goals trivial

theorem leavesCore_startPump (a : Form Nat) : LeavesCore s (execStartPump a s) := by
  refine leavesCore_args _ a s fun x t => ?_
  split
  · rfl
  · exact keepsCore_outsideFallback
      (keepsCore_deferredRequest _ _ _ _ (keepsCore_startVerdict _) fun m u => coreFields_hostStart u _ m) t

theorem keepsCore_stopVerdict (p : PumpId) (f : Bool) (t : State) : (stopVerdict p f t).KeepsCore t := by
  unfold stopVerdict
  split
  · trivial
  · split
    iterate 4 rfl
    iterate 2 trivial
    split <;> trivial

theorem leavesCore_stopPump (a : Form (Nat × Nat)) : LeavesCore s (execStopPump a s) := by
  refine leavesCore_args _ a s fun x t => ?_
  split
  · exact keepsCore_outsideFallback
      (keepsCore_deferredRequest _ _ _ _ (keepsCore_stopVerdict _ _) fun m u => coreFields_hostStop u _ _ m) t
  · rfl

theorem keepsCore_saveVerdict (t : State) : (saveVerdict t).KeepsCore t := by
  unfold saveVerdict; split <;> trivial

theorem leavesCore_saveConfig (a : Form Unit) : LeavesCore s (execSaveConfig a s) :=
  leavesCore_args _ a s fun _ => keepsCore_deferredRequest _ _ _ _ keepsCore_saveVerdict fun _ _ => rfl

end Requests

/-- The commands of R5 and of start-up: the start of the part, the scan, and the LAU's settings requests. -/
def Instr.touchesLau : Instr → Bool
  | .powerOn _ | .resetNAsserted | .resetNReleased _ | .loadingEnd _ | .replySent _ => true
  | .scanTimerExpiry _ _ | .scanEvent | .setChannel _ | .setDensity _ | .setScan _ | .setSea _ => true
  | _ => false

/-- Every command but those ends in a next state with the phase, the strap, the LAU and the queue as they were. -/
theorem exec_leavesCore (c : Instr) (hc : Instr.touchesLau c = false) (s : State) : LeavesCore s (exec c s) := by
  cases c
  case powerOn | resetNAsserted | resetNReleased | loadingEnd | replySent | scanTimerExpiry | scanEvent | setChannel
    | setDensity | setScan | setSea => cases hc
  case trendTimerExpiry => exact leavesCore_trendTimerExpiry s
  case reminderTimerExpiry => exact leavesCore_reminderTimerExpiry s
  case intakeTimeCount => exact leavesCore_when (by simp)
  case indexPulse n => exact leavesCore_indexPulse s n
  case sjamRising n => exact leavesCore_next (coreFields_jamLevel s n true)
  case sjamFalling n => exact leavesCore_next (coreFields_jamLevel s n false)
  case passTimeout n => exact leavesCore_when (by simp)
  case hdokChange level => exact leavesCore_hdokChange s level
  case headerLossDelayExpiry => exact leavesCore_when (by simp)
  case sluiceRunEnd => exact leavesCore_when (by simp)
  case headerPurgeTimerExpiry => exact leavesCore_when (by simp)
  case headerPurgeComplete => exact leavesCore_when (by simp)
  case purgeOverdue => exact leavesCore_when (by simp)
  case pfbRising p => exact leavesCore_pfbRising s p
  case pfbFalling p => exact leavesCore_pfbFalling s p
  case ptrpActive p level => exact leavesCore_ptrpActive s p level
  case startTimeout p => exact leavesCore_when (by simp)
  case stopTimeout p => exact leavesCore_when (by simp)
  case recoveryTimerExpiry p => exact leavesCore_when (by simp)
  case startSpacingExpiry => exact leavesCore_when (by simp)
  case rotationTimerExpiry => exact leavesCore_rotationTimerExpiry s
  case shedTimerExpiry k => exact leavesCore_shedTimerExpiry s k
  case lowLevelStop p => exact leavesCore_when (by simp)
  case discardTimerExpiry i => exact leavesCore_when (by simp)
  case supervisionTimerExpiry => exact leavesCore_supervisionTimerExpiry s
  case saveConfigEnd e => exact leavesCore_saveConfigEnd s e
  case frameReceived f => exact leavesCore_frameReceived s f
  case framingError => exact leavesCore_when rfl
  case rxGapTimeout => exact leavesCore_when rfl
  case lenAbove120 => exact leavesCore_when rfl
  case batchSent => exact leavesCore_batchSent s
  case noticeBatch => exact leavesCore_when rfl
  case quietTimeExpiry => exact leavesCore_when rfl
  case frameStart => exact leavesCore_when rfl
  case unknownKind k => exact leavesCore_request (keepsCore_refuse _) _ s
  case getStatus a => exact leavesCore_getStatus s a
  case getLevels a => exact leavesCore_args _ a s fun _ => keepsCore_ite (keepsCore_refuse _) fun _ => rfl
  case getTideSummary a => exact leavesCore_args _ a s fun _ _ => rfl
  case getTidePoints a => exact leavesCore_getTidePoints s a
  case getCondition a => exact leavesCore_args _ a s fun _ _ => rfl
  case getScreen a => exact leavesCore_getScreen s a
  case getPump a => exact leavesCore_getPump s a
  case getNotices a => exact leavesCore_args _ a s fun _ _ => rfl
  case getConfig a => exact leavesCore_args _ a s fun _ => keepsCore_ite (fun _ => rfl) (keepsCore_refuse _)
  case setTrend a => exact leavesCore_setTrend s a
  case setBandEntry a => exact leavesCore_setBandEntry s a
  case setBandReminder a => exact leavesCore_args _ a s fun _ t => coreFields_ite t rfl rfl
  case setScreen a => exact leavesCore_setScreen s a
  case setWashTiming a => exact leavesCore_setWashTiming s a
  case setPump a => exact leavesCore_setPump s a
  case setPumpTiming a => exact leavesCore_setPumpTiming s a
  case setDutyOrder a => exact leavesCore_setDutyOrder s a
  case setDutyMode a => exact leavesCore_setDutyMode s a
  case setDemand a => exact leavesCore_setDemand s a
  case setLink a => exact leavesCore_setLink s a
  case setClockAbsolute a => exact leavesCore_args _ a s fun _ t => (coreFields_checkBanks _).trans rfl
  case setClockStep a => exact leavesCore_setClockStep s a
  case tidePoints a => exact leavesCore_tidePoints s a
  case tideCommitNow a => exact leavesCore_tideCommitNow s a
  case tideSeal a => exact leavesCore_tideSeal s a
  case tideClear a => exact leavesCore_args _ a s fun _ _ => rfl
  case stopWash a => exact leavesCore_stopWash s a
  case clearScreen a => exact leavesCore_clearScreen s a
  case setService a => exact leavesCore_setService s a
  case enablePump a => exact leavesCore_enablePump s a
  case disablePump a => exact leavesCore_disablePump s a
  case clearPump a => exact leavesCore_clearPump s a
  case resetHours a => exact leavesCore_resetHours s a
  case ackBand a => exact leavesCore_args _ a s fun _ => keepsCore_ite (keepsCore_refuse _) fun _ => rfl
  case resume a => exact leavesCore_args _ a s fun _ _ => rfl
  case softResetLink a => exact leavesCore_args _ a s fun _ _ => rfl
  case softResetFull a => exact leavesCore_args _ a s fun _ _ => rfl
  case washScreen a => exact leavesCore_washScreen s a
  case startPump a => exact leavesCore_startPump s a
  case stopPump a => exact leavesCore_stopPump s a
  case saveConfig a => exact leavesCore_saveConfig s a

/-- Settles O12: every other command leaves the core. -/
theorem onlyScansAndSettingsTouchTheLau : Obligations.OnlyScansAndSettingsTouchTheLau := by
  intro c s t h
  have hlau : Instr.touchesLau c = false → t.lau = s.lau := by
    intro hc
    obtain ⟨u, hu, hk⟩ := exec_leavesCore c hc s
    obtain rfl : t = u := by simpa [h] using hu
    exact lau_of_coreFields hk
  cases c
  case powerOn | resetNAsserted | resetNReleased | loadingEnd | replySent | scanTimerExpiry | scanEvent | setChannel
    | setDensity | setScan | setSea => trivial
  all_goals exact hlau rfl

end Sys2Proof.Machine
end

section
/-! PROOFS. The settings requests of the LAU (R2..R6): O21. -/

namespace Sys2Proof.Machine

variable {s : State}

/-! ## Requests that are taken -/

/-- A request with arguments, taken now, is answered by its rule. -/
theorem args_takes {α : Type} {i : Instr} (h : s.Takes i) (x : α) (k : α → State → Answer) :
    s.request i (withArgs (.args x) k) = (k x s).state.reply (k x s).code (k x s).data := request_takes h _

/-! ## SET DENSITY, SET SCAN, SET SEA -/

theorem okCode_ne {w v : Nat} : okCode (decide (w ≠ v)) = if w = v then .ok else .okAdjusted := by
  by_cases h : w = v <;> simp [okCode, h]

/-- The data of a reply with one field, sent when the clamp acted. -/
theorem takenData_ne {w v : Nat} (k : Width) :
    takenData (decide (w ≠ v)) [(true, k, (w : Int))] = if w = v then [] else encodeField k w := by
  by_cases h : w = v <;> simp [takenData, encodeFields, h]

theorem Lau.setDensity_eq (l : Lau) (v : Nat) : l.setDensity v =
    if v = l.density then l
    else { l with
      density := v, channels := l.channels.map fun ch => if ch.enabled then { ch with seeded := false } else ch } := by
  have clear (ch : Channel) : ({ ch with seeded := ch.seeded && !ch.enabled } : Channel)
      = if ch.enabled then { ch with seeded := false } else ch := by
    cases ch with | mk enabled => cases enabled <;> simp
  simp only [Lau.setDensity, clear]

theorem setDensity_taken (v : Nat) (h : s.Takes (.setDensity (.args v))) :
    exec (.setDensity (.args v)) s =
      .next ((s.onLau fun l => l.setDensity (heldTo 9900 10400 v)).reply
        (if heldTo 9900 10400 v = v then .ok else .okAdjusted)
        (if heldTo 9900 10400 v = v then [] else encodeField .u16 (heldTo 9900 10400 v))) := by
  show Host.Outcome.next (s.request _ _) = _
  rw [args_takes h]
  simp only [clampNat_eq (show 9900 ≤ 10400 by omega), okCode_ne, takenData_ne]

/-- The interval taken: the nearest multiple of 100 ms, clamped (R2). -/
theorem scanInterval_eq (v : Nat) : scanInterval v = heldTo 100 2000 ((v + 50) / 100 * 100) := by
  have round : (roundDiv v 100).toNat = (v + 50) / 100 := by unfold roundDiv; omega
  rw [scanInterval, round, clampNat_eq (by omega)]

theorem setScan_taken (v : Nat) (h : s.Takes (.setScan (.args v))) :
    exec (.setScan (.args v)) s =
      .next ((s.onLau fun l => { l with interval := heldTo 100 2000 ((v + 50) / 100 * 100) }).reply
        (if heldTo 100 2000 ((v + 50) / 100 * 100) = v then .ok else .okAdjusted)
        (if heldTo 100 2000 ((v + 50) / 100 * 100) = v then []
         else encodeField .u16 (heldTo 100 2000 ((v + 50) / 100 * 100)))) := by
  show Host.Outcome.next (s.request _ _) = _
  rw [args_takes h]
  simp only [scanInterval_eq, okCode_ne, takenData_ne]

/-- The part after SET SEA. -/
def seaTaken (c : SeaArgs) (s : State) : State :=
  s.onLau fun l => { l with
    tolerance := setTo 10 500 l.tolerance c.tolerance, lostLimit := setTo 10 300 l.lostLimit c.lostLimit }

theorem setSea_taken (c : SeaArgs) (h : s.Takes (.setSea (.args c))) (hc : c.tolerance ≠ none ∨ c.lostLimit ≠ none) :
    exec (.setSea (.args c)) s =
      .next ((seaTaken c s).reply (if strays 10 500 c.tolerance || strays 10 300 c.lostLimit then .okAdjusted else .ok)
        (if strays 10 500 c.tolerance || strays 10 300 c.lostLimit then
          carried [(c.tolerance.isSome, .u16, (seaTaken c s).lau.tolerance),
            (c.lostLimit.isSome, .u16, (seaTaken c s).lau.lostLimit)] else [])) := by
  have named : (c.tolerance.isNone && c.lostLimit.isNone) = false := by
    simpa [← Option.ne_none_iff_isSome, imp_iff_not_or] using hc
  show Host.Outcome.next (s.request _ _) = _
  rw [args_takes h]
  simp only [named, Bool.false_eq_true, if_false, taken_clampNat (show 10 ≤ 500 by omega),
    taken_clampNat (show 10 ≤ 300 by omega), adjusted_clampNat (show 10 ≤ 500 by omega),
    adjusted_clampNat (show 10 ≤ 300 by omega), takenData_eq, okCode_eq, seaTaken]

/-! ## SET CHANNEL -/

theorem index0_val {n : Nat} (i : Fin n) : index0 n i.val = some i := by simp [index0]

theorem index0_none {n v : Nat} (h : n ≤ v) : index0 n v = none := by simp [index0]; omega

theorem channelNamed_eq_false {c : ChannelArgs} : channelNamed c = false ↔ c = { channel := c.channel } := by
  obtain ⟨n, en, z, g, e, k⟩ := c
  simp [channelNamed, and_assoc]

theorem yesNo_le {v : Nat} (h : v ≤ 1) : yesNo v = some (v == 1) := by
  obtain rfl | rfl : v = 0 ∨ v = 1 := by omega
  all_goals rfl

theorem yesNo_none {v : Nat} (h : 1 < v) : yesNo v = none := by
  unfold yesNo
  split
  · omega
  · omega
  · rfl

theorem setChannel_refused (c : ChannelArgs) (h : s.Takes (.setChannel (.args c)))
    (hc : 11 < c.channel ∨ (∃ v, c.enabled = some v ∧ 1 < v) ∨ c = { channel := c.channel }) :
    exec (.setChannel (.args c)) s = .next (s.reply .badArgument []) := by
  show Host.Outcome.next (s.request _ _) = _
  rw [args_takes h]
  rcases hc with hc | ⟨v, hv, hv1⟩ | hc
  · rw [index0_none (by omega)]; rfl
  · have bad := yesNo_none hv1
    cases index0 12 c.channel with
    | none => rfl
    | some n => by_cases hn : channelNamed c <;> simp [hv, bad, hn, Answer.refuse]
  · have bad := channelNamed_eq_false.2 hc
    cases index0 12 c.channel with
    | none => rfl
    | some n => simp [bad, Answer.refuse]

/-- The part after SET CHANNEL. -/
def channelTaken (n : ChannelId) (c : ChannelArgs) (s : State) : State :=
  s.onChannel n fun ch => (ch.setEnabled ((c.enabled.map (· == 1)).getD ch.enabled)).calibrate c

theorem setChannel_taken (c : ChannelArgs) (n : ChannelId) (h : s.Takes (.setChannel (.args c))) (hn : c.channel = n.val)
    (hv : ∀ v, c.enabled = some v → v ≤ 1) (hc : c ≠ { channel := c.channel }) :
    exec (.setChannel (.args c)) s =
      .next ((setChannelOn n (c.enabled.map (· == 1)) c s).state.reply (okCode (channelClamped c))
        (setChannelOn n (c.enabled.map (· == 1)) c s).data) := by
  have named : channelNamed c = true := by
    cases k : channelNamed c
    · exact absurd (channelNamed_eq_false.1 k) hc
    · rfl
  show Host.Outcome.next (s.request _ _) = _
  rw [args_takes h, hn, index0_val]
  cases he : c.enabled with
  | none => simp [named, setChannelOn]
  | some v => simp [named, yesNo_le (hv v he), setChannelOn]

theorem channelClamped_eq (c : ChannelArgs) : channelClamped c =
    (strays 0 65535 c.zero || strays 0 65535 c.gain || straysInt (-20000) 20000 c.elevation || strays 0 6 c.shift) := by
  simp only [channelClamped, adjusted_clampNat (Nat.zero_le _), adjusted_clampInt (show (-20000 : Int) ≤ 20000 by omega)]

/-- What the calibration gives, setting by setting (R3). -/
theorem Channel.calibrate_eq (ch : Channel) (c : ChannelArgs) : ch.calibrate c = { ch with
    zero := setTo 0 65535 ch.zero c.zero, gain := setTo 0 65535 ch.gain c.gain
    elevation := setToInt (-20000) 20000 ch.elevation c.elevation, shift := setTo 0 6 ch.shift c.shift
    seeded := ch.seeded && decide (setTo 0 65535 ch.zero c.zero = ch.zero ∧ setTo 0 65535 ch.gain c.gain = ch.gain
      ∧ setToInt (-20000) 20000 ch.elevation c.elevation = ch.elevation) } := by
  simp only [Channel.calibrate, taken_clampNat (Nat.zero_le _), taken_clampInt (show (-20000 : Int) ≤ 20000 by omega)]

theorem Channel.setEnabled_enabled (ch : Channel) (on : Bool) : (ch.setEnabled on).enabled = on := by
  unfold Channel.setEnabled; split_ifs <;> simp_all

/-- A change of enabled (R4). -/
theorem Channel.setEnabled_cases (ch : Channel) (on : Bool) :
    (on = ch.enabled ∧ ch.setEnabled on = ch)
      ∨ (on = true ∧ ch.enabled = false
          ∧ ch.setEnabled on = { ch with enabled := true, health := .under, awaiting := true, seeded := false })
      ∨ (on = false ∧ ch.enabled = true ∧ ch.setEnabled on =
          { ch with enabled := false, health := .disabled, seeded := false, clamped := false, awaiting := false }) := by
  cases on <;> cases h : ch.enabled <;> simp [Channel.setEnabled, h]

/-- Settles O21: each request by its rule, the channel's change of enabled by its three cases. -/
theorem lauSettingsTaken : Obligations.LauSettingsTaken := by
  refine ⟨⟨fun s v h => ?_, fun s v h => setScan_taken v h, fun s c h hc => ⟨_, setSea_taken c h hc, rfl⟩⟩,
    fun s c h => ⟨setChannel_refused c h, fun n hn hv hc => ?_⟩⟩
  · rw [setDensity_taken v h]
    simp only [State.onLau, Lau.setDensity_eq]
  · have channel : (channelTaken n c s).lau.channels[n]
        = (s.lau.channels[n].setEnabled ((c.enabled.map (· == 1)).getD s.lau.channels[n].enabled)).calibrate c := by
      rw [channelTaken, State.channel_onChannel, if_pos rfl]
    refine ⟨channelTaken n c s, ?_, ?_, ?_⟩
    · rw [setChannel_taken c n h hn hv hc, ← channelClamped_eq, ← takenData_eq, ← okCode_eq]; rfl
    · rw [channel]; rfl
    · rw [channel, Channel.calibrate_eq]
      generalize s.lau.channels[n] = ch at *
      refine ⟨?_, ?_⟩
      · dsimp only
        rw [Channel.setEnabled_enabled]
        cases c.enabled <;> rfl
      · generalize (c.enabled.map (· == 1)).getD ch.enabled = en
        rcases ch.setEnabled_cases en with ⟨_, hs⟩ | ⟨_, hoff, hs⟩ | ⟨_, hon, hs⟩ <;> rw [hs]
        · cases ch.enabled <;> simp
        · simp [hoff]
        · simp [hon]

end Sys2Proof.Machine
end

section
/-! PROOFS. Power-on, RESET_N and its release (R192): O13. -/

namespace Sys2Proof.Machine

variable {s : State}

/-! ## The start of start-up -/

theorem abandonSave_eq (s : State) : ∃ m d, s.abandonSave = { s with
    draws := d, slp := { s.slp with memory := m, save := none } } := by
  unfold State.abandonSave
  split
  · exact ⟨s.slp.memory, s.draws, by simp [← ‹s.slp.save = none›]⟩
  · exact ⟨_, _, rfl⟩

theorem screen_startUp (s : State) (strap : Bool) (n : ScreenId) :
    (s.startUp strap).screen n = { jam := (s.screen n).jam } := by
  simp [State.startUp, State.screen]

theorem pump_startUp (s : State) (strap : Bool) (p : PumpId) :
    (s.startUp strap).pump p = { cls := if p.val < 6 then .large else .small
                                 feedback := (s.pump p).feedback, trip := (s.pump p).trip } := by
  have default : ∀ p : PumpId, defaultPumps[p] = { cls := if p.val < 6 then .large else .small } := by decide
  have := default p
  simp_all [State.startUp, State.pump]

theorem startUp_swc (s : State) (strap : Bool) :
    (s.startUp strap).swc = { screens := Vector.ofFn fun n : ScreenId => { jam := (s.screen n).jam }, hdok := s.swc.hdok } := by
  have : (s.startUp strap).swc.screens = Vector.ofFn fun n : ScreenId => { jam := (s.screen n).jam } :=
    screens_ext fun n => (screen_startUp s strap n).trans (by simp)
  rw [← this]; rfl

theorem startUp_pdc (s : State) (strap : Bool) :
    (s.startUp strap).pdc = { pumps := Vector.ofFn fun p : PumpId =>
      { cls := if p.val < 6 then .large else .small, feedback := (s.pump p).feedback, trip := (s.pump p).trip } } := by
  have : (s.startUp strap).pdc.pumps = Vector.ofFn fun p : PumpId =>
      { cls := if p.val < 6 then .large else .small, feedback := (s.pump p).feedback, trip := (s.pump p).trip } :=
    Vector.ext fun i hi => (pump_startUp s strap ⟨i, hi⟩).trans (by simp)
  rw [← this]; rfl

/-- Start-up brings every block to its start-up value. -/
theorem startUp_atStartUp (s : State) (strap : Bool) : (s.startUp strap).AtStartUp := by
  refine ⟨rfl, rfl, ?_, ?_, rfl⟩
  · simp only [screen_startUp]; exact startUp_swc s strap
  · simp only [pump_startUp]; exact startUp_pdc s strap

/-- RESET_N low begins start-up but for the phase. -/
theorem resetHeld_atStartUp (s : State) : ({ s.startUp false with phase := .resetHeld } : State).AtStartUp :=
  startUp_atStartUp s false

theorem resetHeld_outputsOff (s : State) (n : ScreenId) (p : PumpId) :
    (({ s.startUp false with phase := .resetHeld } : State).screen n).drive = false
      ∧ (({ s.startUp false with phase := .resetHeld } : State).pump p).run = false := by
  constructor
  · exact congrArg Screen.drive (screen_startUp s false n)
  · exact congrArg Pump.run (pump_startUp s false p)

theorem resetHeld_outputsAgree (s : State) : ({ s.startUp false with phase := .resetHeld } : State).OutputsAgree := by
  refine ⟨fun n => ?_, fun p => ?_, rfl, rfl⟩
  · show ((s.startUp false).screen n).drive = _ ∧ ((s.startUp false).screen n).spray = _
    have : ((s.startUp false).screen n).state.isWashing = false := by rw [screen_startUp]; rfl
    exact ⟨(congrArg Screen.drive (screen_startUp s false n)).trans this.symm,
      (congrArg Screen.spray (screen_startUp s false n)).trans this.symm⟩
  · have : ((s.startUp false).pump p).state.commanded = false := by rw [pump_startUp]; rfl
    exact (congrArg Pump.run (pump_startUp s false p)).trans this.symm

/-! ## While RESET_N is held low -/

theorem requestIn_resetHeld (h : s.phase = .resetHeld) (i : Instr) (f g : State → Answer) : s.requestIn i f g = s := by
  simp [State.requestIn, h]

theorem listening_resetHeld (h : s.phase = .resetHeld) : s.listening = false := by simp [State.listening, h]

theorem collecting_resetHeld (h : s.phase = .resetHeld) : s.collecting = false := by
  simp [State.collecting, listening_resetHeld h]

/-- No request is taken. -/
theorem exec_request_resetHeld (h : s.phase = .resetHeld) (i : Instr) (hi : (encodeRequest i).isSome = true) :
    exec i s = .next s := by
  cases i
  case powerOn | resetNAsserted | resetNReleased | loadingEnd | scanTimerExpiry | scanEvent | trendTimerExpiry
    | reminderTimerExpiry | intakeTimeCount | indexPulse | sjamRising | sjamFalling | passTimeout | hdokChange
    | headerLossDelayExpiry | sluiceRunEnd | headerPurgeTimerExpiry | headerPurgeComplete | purgeOverdue | pfbRising
    | pfbFalling | ptrpActive | startTimeout | stopTimeout | recoveryTimerExpiry | startSpacingExpiry
    | rotationTimerExpiry | shedTimerExpiry | lowLevelStop | discardTimerExpiry | supervisionTimerExpiry | saveConfigEnd
    | frameReceived | framingError | rxGapTimeout | lenAbove120 | replySent | batchSent | noticeBatch | quietTimeExpiry
    | frameStart => cases hi
  all_goals exact congrArg Host.Outcome.next (requestIn_resetHeld h _ _ _)

/-- Settles O13: start-up leaves the start-up values, and RESET_N low takes no frame and no request. -/
theorem startUpBeginsLoading : Obligations.StartUpBeginsLoading := by
  refine ⟨fun s strap => ?_, fun s f i h => ?_⟩
  · obtain ⟨m, d, hs⟩ := abandonSave_eq s
    refine ⟨⟨_, rfl, ?_⟩, fun hp => ⟨_, congrArg Host.Outcome.next (if_neg hp), ?_⟩,
      fun hp => ⟨congrArg Host.Outcome.next (if_pos hp), _, congrArg Host.Outcome.next (if_pos hp), rfl, rfl, rfl, rfl,
        startUp_atStartUp s strap⟩,
      fun hp => congrArg Host.Outcome.next (if_neg hp)⟩
    · rw [hs]
      refine ⟨rfl, rfl, rfl, rfl, startUp_atStartUp _ _, rfl, fun n => ?_, fun p => ?_⟩
      · rw [screen_startUp]; rfl
      · rw [pump_startUp]; exact ⟨rfl, rfl⟩
    · rw [hs]
      exact ⟨rfl, rfl, resetHeld_atStartUp _, resetHeld_outputsAgree _, fun n => (resetHeld_outputsOff _ n 0).1,
        fun p => (resetHeld_outputsOff _ 0 p).2, rfl, rfl⟩
  · have deaf := listening_resetHeld h
    have idle := collecting_resetHeld h
    exact ⟨by simp [exec, execFrameStart, deaf], by simp [exec, execFrameReceived, idle],
      by simp [exec, execFramingError, deaf], by simp [exec, execRxGapTimeout, idle],
      by simp [exec, execLenAbove120, idle], exec_request_resetHeld h i⟩

end Sys2Proof.Machine
end

section
/-! PROOFS. The channels of a scan dealt with, and the expiry of the scan timer (R1, R5, R12..R15): O19. -/

namespace Sys2Proof.Machine

variable {s t : State}

/-! ## One channel -/

/-- A channel after a scan has dealt with it: sampled when enabled, aged when not (R1). -/
def Channel.dealt (ch : Channel) (density sample elapsed : Nat) : Channel :=
  if ch.enabled then ch.sampled density sample elapsed else { ch with ageMs := ageOn ch.ageMs elapsed }

/-- The notices of an enabled channel dealt with (R13, R14). -/
def dealtNotices (c : ChannelId) (before after : Channel) (elapsed stamp : Nat) : List Notice :=
  if after.health = .ok then
    if before.faulted then
      [⟨.status, .channelRecovered, c.val, 0, after.level, (min (ageOn before.ageMs elapsed / 1000) 32767 : Nat), stamp⟩]
    else []
  else if before.newlyFaulted then [⟨.fault, .channelFault, c.val, 0, after.level, after.health.code, stamp⟩]
  else []

theorem dealtNotices_length (c : ChannelId) (before after : Channel) (elapsed stamp : Nat) :
    (dealtNotices c before after elapsed stamp).length ≤ 1 := by
  unfold dealtNotices; split_ifs <;> simp

/-- A sample's notice touches the notice queue alone. -/
theorem sampleNotice_cases (s : State) (c : ChannelId) (before : Channel) (elapsed : Nat) :
    s.sampleNotice c before elapsed = s
      ∨ ∃ k n u g v w, s.sampleNotice c before elapsed = s.notify k n u g v w := by
  unfold State.sampleNotice
  dsimp only
  split_ifs
  · exact .inr ⟨_, _, _, _, _, _, rfl⟩
  · exact .inl rfl
  · exact .inr ⟨_, _, _, _, _, _, rfl⟩
  · exact .inl rfl

theorem sampleNotice_rest (s : State) (c : ChannelId) (before : Channel) (elapsed : Nat) :
    s.sampleNotice c before elapsed = { s with slp := (s.sampleNotice c before elapsed).slp } := by
  obtain h | ⟨_, _, _, _, _, _, h⟩ := sampleNotice_cases s c before elapsed
  · rw [h]
  · rw [h]; rfl

theorem sampleNotice_link (s : State) (c : ChannelId) (before : Channel) (elapsed : Nat) :
    s.LinkFrame (s.sampleNotice c before elapsed) := by
  obtain h | ⟨_, _, _, _, _, _, h⟩ := sampleNotice_cases s c before elapsed <;> rw [h]
  · exact .refl s
  · exact s.notify_link ..

theorem sampleNotice_notices {s : State} (c : ChannelId) (before : Channel) (elapsed : Nat)
    (h : s.slp.notices.length < 32) : (s.sampleNotice c before elapsed).slp.notices =
      s.slp.notices ++ dealtNotices c before s.lau.channels[c] elapsed s.stamp := by
  unfold State.sampleNotice dealtNotices
  dsimp only
  split_ifs
  · exact s.notify_room _ _ _ _ _ _ h
  · simp
  · exact s.notify_room _ _ _ _ _ _ h
  · simp

theorem dealChannel_rest (s : State) (c : ChannelId) (sample elapsed : Nat) :
    s.dealChannel c sample elapsed = { s with
      lau := { s.lau with
        channels := s.lau.channels.set c (s.lau.channels[c].dealt s.lau.density sample elapsed) }
      slp := (s.dealChannel c sample elapsed).slp } := by
  unfold State.dealChannel Channel.dealt
  dsimp only
  split
  · rw [sampleNotice_rest]; rfl
  · rfl

theorem dealChannel_link (s : State) (c : ChannelId) (sample elapsed : Nat) :
    s.LinkFrame (s.dealChannel c sample elapsed) := by
  unfold State.dealChannel
  dsimp only
  split
  · exact .trans (t := s.onChannel c fun ch => ch.sampled s.lau.density sample elapsed) (.of_eq rfl)
      (sampleNotice_link ..)
  · exact .of_eq rfl

theorem dealChannel_notices {s : State} (c : ChannelId) (sample elapsed : Nat) (h : s.slp.notices.length < 32) :
    (s.dealChannel c sample elapsed).slp.notices = s.slp.notices ++
      if s.lau.channels[c].enabled then
        dealtNotices c s.lau.channels[c] (s.lau.channels[c].dealt s.lau.density sample elapsed) elapsed s.stamp
      else [] := by
  unfold State.dealChannel
  dsimp only
  split
  · rename_i he
    rw [sampleNotice_notices (s := s.onChannel c _) c _ elapsed h, State.channel_onChannel, if_pos rfl]
    simp only [Channel.dealt, he, if_true] <;> rfl
  · simp

/-! ## The channels of a scan, in ascending number -/

theorem dealMany_succ : ∀ (k : Nat) (s : State), State.dealMany (k + 1) s = (State.dealMany k s).dealNext
  | 0, _ => rfl
  | k + 1, s => dealMany_succ k s.dealNext

/-- With every channel dealt with, no more is. -/
theorem dealMany_of_done {sc : Scan} (h : s.lau.scan = some sc) (hn : 12 ≤ sc.next) : ∀ k, State.dealMany k s = s
  | 0 => rfl
  | k + 1 => by
    have : s.dealNext = s := by simp [State.dealNext, h, Nat.not_lt.2 hn]
    rw [State.dealMany, this]
    exact dealMany_of_done h hn k

/-- The notices of the first `k` channels, as `s` stands before the scan. -/
def scanNotices (s : State) (samples : Vector Nat 12) (elapsed k : Nat) : List Notice :=
  (((List.finRange 12).take k).filter fun c => s.lau.channels[c].enabled).flatMap fun c =>
    dealtNotices c s.lau.channels[c] (s.lau.channels[c].dealt s.lau.density samples[c] elapsed) elapsed s.stamp

theorem scanNotices_succ (s : State) (samples : Vector Nat 12) (elapsed : Nat) {k : Nat} (hk : k < 12) :
    scanNotices s samples elapsed (k + 1) = scanNotices s samples elapsed k ++
      if s.lau.channels[(⟨k, hk⟩ : ChannelId)].enabled then
        dealtNotices ⟨k, hk⟩ s.lau.channels[(⟨k, hk⟩ : ChannelId)]
          (s.lau.channels[(⟨k, hk⟩ : ChannelId)].dealt s.lau.density samples[(⟨k, hk⟩ : ChannelId)] elapsed) elapsed s.stamp
      else [] := by
  have next : (List.finRange 12).take (k + 1) = (List.finRange 12).take k ++ [⟨k, hk⟩] := by
    rw [List.take_add_one]
    simp [hk]
  rw [scanNotices, scanNotices, next, List.filter_append, List.flatMap_append, List.filter_singleton]
  cases s.lau.channels[(⟨k, hk⟩ : ChannelId)].enabled
  · rfl
  · rw [cond_true, List.flatMap_singleton, if_pos rfl]

theorem scanNotices_length (s : State) (samples : Vector Nat 12) (elapsed : Nat) :
    ∀ k ≤ 12, (scanNotices s samples elapsed k).length ≤ k
  | 0, _ => by simp [scanNotices]
  | k + 1, hk => by
    rw [scanNotices_succ s samples elapsed (show k < 12 by omega), List.length_append]
    have ih := scanNotices_length s samples elapsed k (by omega)
    split_ifs
    · have := dealtNotices_length ⟨k, by omega⟩ s.lau.channels[(⟨k, by omega⟩ : ChannelId)]
        (s.lau.channels[(⟨k, by omega⟩ : ChannelId)].dealt s.lau.density samples[(⟨k, by omega⟩ : ChannelId)] elapsed)
        elapsed s.stamp
      omega
    · simp; omega

/-- What a scan has left when it has dealt with its first `k` channels, `s` being the part as it started. -/
structure ScanDealt (s : State) (samples : Vector Nat 12) (elapsed k : Nat) (t : State) : Prop where
  others : t.phase = s.phase ∧ t.cfgsrc = s.cfgsrc ∧ t.twu = s.twu ∧ t.swc = s.swc ∧ t.pdc = s.pdc ∧ t.draws = s.draws
  lau : t.lau = { s.lau with channels := t.lau.channels, scan := some ⟨samples, k, elapsed⟩ }
  channels : ∀ c : ChannelId, t.lau.channels[c] =
    if c.val < k then s.lau.channels[c].dealt s.lau.density samples[c] elapsed else s.lau.channels[c]
  notices : s.slp.notices.length + k ≤ 32 → t.slp.notices = s.slp.notices ++ scanNotices s samples elapsed k
  link : s.LinkFrame t

theorem dealNext_of_lt {samples : Vector Nat 12} {k elapsed : Nat} (h : t.lau.scan = some ⟨samples, k, elapsed⟩)
    (hk : k < 12) : t.dealNext = (t.dealChannel ⟨k, hk⟩ samples[(⟨k, hk⟩ : ChannelId)] elapsed).onLau fun l =>
      { l with scan := some ⟨samples, k + 1, elapsed⟩ } := by
  unfold State.dealNext
  rw [h]
  exact dif_pos hk

/-- The next channel dealt with. -/
theorem ScanDealt.dealNext {samples : Vector Nat 12} {elapsed k : Nat} (h : ScanDealt s samples elapsed k t)
    (hk : k < 12) : ScanDealt s samples elapsed (k + 1) t.dealNext := by
  obtain ⟨others, lau, channels, notices, link⟩ := h
  have hscan : t.lau.scan = some ⟨samples, k, elapsed⟩ := by rw [lau]
  have hdensity : t.lau.density = s.lau.density := by rw [lau]
  have hch : t.lau.channels[(⟨k, hk⟩ : ChannelId)] = s.lau.channels[(⟨k, hk⟩ : ChannelId)] := by simp [channels]
  have hdealt := dealChannel_rest t ⟨k, hk⟩ samples[(⟨k, hk⟩ : ChannelId)] elapsed
  have hnext := dealNext_of_lt hscan hk
  rw [hch, hdensity] at hdealt
  refine ⟨?_, ?_, fun c => ?_, fun room => ?_, ?_⟩
  · rw [hnext, hdealt]
    exact others
  · rw [hnext, hdealt, State.onLau]
    dsimp only
    rw [lau]
  · rw [hnext, hdealt]
    have hset : (t.lau.channels.set k (s.lau.channels[(⟨k, hk⟩ : ChannelId)].dealt s.lau.density
        samples[(⟨k, hk⟩ : ChannelId)] elapsed))[c] = _ := Vector.getElem_set ..
    refine hset.trans ?_
    by_cases hc : k = c.val
    · subst hc; simp
    · have lt : (c.val < k + 1) ↔ c.val < k := by omega
      rw [if_neg hc]
      show t.lau.channels[c] = _
      simp only [channels c, lt]
  · have base := notices (by omega)
    have fits := scanNotices_length s samples elapsed k (by omega)
    have free : t.slp.notices.length < 32 := by rw [base, List.length_append]; omega
    rw [hnext]
    show (t.dealChannel ⟨k, hk⟩ samples[(⟨k, hk⟩ : ChannelId)] elapsed).slp.notices = _
    rw [dealChannel_notices _ _ _ free, hch, hdensity, base, scanNotices_succ s samples elapsed hk, link.stamp,
      List.append_assoc]
  · rw [hnext]
    exact link.trans (State.LinkFrame.trans (dealChannel_link ..) (.of_eq rfl))

/-- A scan that has just started deals with its channels one by one. -/
theorem scanDealt_dealMany {samples : Vector Nat 12} {elapsed : Nat} (h : s.lau.scan = some ⟨samples, 0, elapsed⟩) :
    ∀ k ≤ 12, ScanDealt s samples elapsed k (State.dealMany k s)
  | 0, _ => ⟨⟨rfl, rfl, rfl, rfl, rfl, rfl⟩, by rw [← h]; rfl, fun c => by simp [State.dealMany],
      fun _ => by simp [State.dealMany, scanNotices], .refl s⟩
  | k + 1, hk => by
    rw [dealMany_succ]
    exact (scanDealt_dealMany h k (by omega)).dealNext (by omega)

/-! ## The expiry of the scan timer -/

theorem Channel.faulted_iff (ch : Channel) :
    ch.faulted = true ↔ ch.awaiting = false ∧ (ch.health = .under ∨ ch.health = .over) := by
  simp [Channel.faulted, and_comm]

theorem Channel.newlyFaulted_iff (ch : Channel) : ch.newlyFaulted = true ↔ ch.health = .ok ∨ ch.awaiting = true := by
  simp [Channel.newlyFaulted]

theorem Channel.sampled_health (ch : Channel) (density s elapsed : Nat) :
    (ch.sampled density s elapsed).health = sampleHealth s := by
  by_cases h : sampleHealth s = .ok
  · rw [ch.sampled_valid _ _ h, h]
  · rw [ch.sampled_invalid _ _ h]

theorem sampleHealth_code {s : Nat} (h : sampleHealth s ≠ .ok) : (sampleHealth s).code = if s < 9437 then 1 else 2 := by
  unfold sampleHealth at h ⊢
  by_cases low : s < 9437
  · rw [if_pos low, if_pos low, Health.code]
  · have high : 55050 < s := by
      by_contra high
      exact h (by rw [if_neg low, if_neg high])
    rw [if_neg low, if_pos high, if_neg low, Health.code]

theorem take_finRange : ∀ k ≤ 12, (List.finRange 12).take k = (List.finRange 12).filter fun c => c.val < k := by decide

/-- The notices of a channel dealt with, as O19 spells them. -/
theorem dealtNotices_eq (s : State) (samples : Vector Nat 12) (elapsed : Nat) (c : ChannelId)
    (he : s.lau.channels[c].enabled = true) {after : Channel}
    (ha : after = s.lau.channels[c].dealt s.lau.density samples[c] elapsed) :
    dealtNotices c s.lau.channels[c] (s.lau.channels[c].dealt s.lau.density samples[c] elapsed) elapsed s.stamp =
      if after.health = .ok then
        if s.lau.channels[c].awaiting = false
            ∧ (s.lau.channels[c].health = .under ∨ s.lau.channels[c].health = .over) then
          [⟨.status, .channelRecovered, c.val, 0, after.level,
            (min (min (s.lau.channels[c].ageMs + elapsed) 65535000 / 1000) 32767 : Nat), s.stamp⟩]
        else []
      else if s.lau.channels[c].health = .ok ∨ s.lau.channels[c].awaiting = true then
        [⟨.fault, .channelFault, c.val, 0, after.level, if samples[c] < 9437 then 1 else 2, s.stamp⟩]
      else [] := by
  have health : after.health = sampleHealth samples[c] := by
    rw [ha, Channel.dealt, if_pos he, Channel.sampled_health]
  subst ha
  unfold dealtNotices
  simp only [Channel.faulted_iff, Channel.newlyFaulted_iff]
  split_ifs with ok _ _ low
  any_goals rfl
  · rw [health, sampleHealth_code (health ▸ ok), if_pos low]; rfl
  · rw [health, sampleHealth_code (health ▸ ok), if_neg low]; rfl

theorem scanTimerExpiry_acts {samples : Vector Nat 12} {dealt : Nat} (hp : s.phase = .running)
    (ht : s.lau.period ≤ s.lau.timer) (hs : s.lau.scan = none) (hd : dealt ≤ 12) :
    exec (.scanTimerExpiry samples dealt) s =
      .next (State.dealMany dealt (s.onLau fun l => l.startScan samples l.timer)) := by
  simp [exec, execScanTimerExpiry, State.active, hp, ht, hs, hd]

/-- Settles O19: by what a scan that has just started leaves when it has dealt with some of its channels. -/
theorem scanTimerStartsAScan : Obligations.ScanTimerStartsAScan := by
  intro s samples dealt hp ht hs hd
  obtain ⟨others, lau, channels, notices, link⟩ :=
    scanDealt_dealMany (s := s.onLau fun l => l.startScan samples l.timer) (samples := samples) (elapsed := s.lau.timer)
      rfl dealt hd
  refine ⟨_, scanTimerExpiry_acts hp ht hs hd, ?_⟩
  generalize State.dealMany dealt (s.onLau fun l => l.startScan samples l.timer) = t at *
  obtain ⟨phase, cfgsrc, twu, swc, pdc, draws⟩ := others
  have link : s.LinkFrame t := State.LinkFrame.trans (t := s.onLau _) (.of_eq rfl) link
  have taken : ∀ c : ChannelId, c.val < dealt →
      t.lau.channels[c] = s.lau.channels[c].dealt s.lau.density samples[c] s.lau.timer := by
    intro c hc
    rw [channels c, if_pos hc]; rfl
  refine ⟨by rw [lau]; rfl, by rw [lau]; rfl, by rw [lau]; rfl, by rw [lau], by rw [lau]; rfl, by rw [lau]; rfl,
    by rw [lau]; rfl, by rw [lau]; rfl, by rw [lau]; rfl, channels, fun room => ?_, phase, cfgsrc, twu, swc, pdc, draws,
    link⟩
  refine (notices room).trans (congrArg (s.slp.notices ++ ·) ?_)
  rw [scanNotices, take_finRange dealt hd, List.filter_filter]
  have same : ((List.finRange 12).filter fun c : ChannelId => s.lau.channels[c].enabled && decide (c.val < dealt))
      = (List.finRange 12).filter fun c => c.val < dealt ∧ s.lau.channels[c].enabled = true := by
    refine List.filter_congr fun c _ => ?_
    rw [Bool.and_comm, Bool.decide_and, Bool.decide_eq_true]
  refine (congrArg (List.flatMap _) same).trans (List.flatMap_congr fun c hc => ?_)
  obtain ⟨hc, he⟩ : c.val < dealt ∧ s.lau.channels[c].enabled = true := by simpa using hc
  exact dealtNotices_eq s samples s.lau.timer c he (taken c hc)

end Sys2Proof.Machine
end

section
/-! PROOFS. The data of the GET requests (R23, R45, R64, R91, R137, R168, R169): O50. -/

namespace Sys2Proof.Machine

variable {s : State}

/-! ## The tables of the plant, and fields -/

theorem allScreens_eq : allScreens = List.finRange 6 := by decide
theorem allPumps_eq : allPumps = List.finRange 8 := by decide
theorem allBays_eq : allBays = List.finRange 3 := by decide
theorem allBands_eq : allBands = List.finRange 8 := by decide
theorem allScopes_eq : allScopes = List.finRange 4 := by decide
theorem allSlots_eq : allSlots = List.finRange 4 := by decide

theorem encodeFields_cons (f : Width × Int) (fs : List (Width × Int)) :
    encodeFields (f :: fs) = encodeField f.1 f.2 ++ encodeFields fs := rfl

theorem encodeFields_nil : encodeFields [] = [] := rfl

theorem limited_eq (v : Int) : limited v = max (-32767) (min 32767 v) := clampInt_eq (by omega) v

/-- A group that a condition makes absent. -/
theorem group_ite {α : Type} (f : α → List Byte) (c : Prop) [Decidable c] (a : α) :
    group f (if c then some a else none) = if c then 0x01#8 :: f a else [0x00#8] := by split <;> rfl

/-- A GET request with arguments that are in order is answered OK with its data. -/
theorem get_answered {α : Type} {i : Instr} (h : s.Takes i) (x : α) {k : α → State → Answer} {d : List Byte}
    (hk : k x s = ⟨s, .ok, d⟩) :
    Host.Outcome.next (ρ := Refusal) (φ := Fault) (s.request i (withArgs (.args x) k)) = .next (s.reply .ok d) := by
  rw [args_takes h, hk]

theorem get_refused {α : Type} {i : Instr} (h : s.Takes i) (x : α) {k : α → State → Answer}
    (hk : k x s = .refuse s .badArgument) :
    Host.Outcome.next (ρ := Refusal) (φ := Fault) (s.request i (withArgs (.args x) k)) =
      .next (s.reply .badArgument []) := by
  rw [args_takes h, hk]; rfl

/-! ## GET STATUS -/

theorem heldByHeader_iff (p : PumpId) : s.heldByHeader p = true ↔ ∃ k : ScopeId, s.pdc.scopes[k].due = .held p := by
  simp only [State.heldByHeader, List.any_eq_true, decide_eq_true_eq, allScopes_eq, List.mem_finRange, true_and]

theorem getStatus_answered (h : s.Takes (.getStatus (.args ()))) :
    exec (.getStatus (.args ())) s = .next (s.reply .ok s.statusData) :=
  congrArg Host.Outcome.next (requestIn_takes h _ _)

theorem capCode_eq (c : Option Nat) : capCode c = c.getD 255 := by cases c <;> rfl

theorem flag_ne_cast {α : Type} [DecidableEq α] (a b : α) :
    ((flag (decide (a ≠ b)) : Nat) : Int) = if a = b then 0 else 1 := by
  by_cases h : a = b <;> simp [flag, h]

theorem DueStop.code_cast (d : DueStop) :
    ((d.code : Nat) : Int) = (match d with | .none => 0 | .waiting => 1 | .held _ => 2 : Int) := by
  cases d <;> rfl

theorem slotBytes_eq : slotBytes = fun sl => encodeFields
    [(.u8, sl.kind.code), (.u8, sl.target.number), (.u8, if sl.state = .inProgress then 0 else 1)] := by
  funext sl; rw [slotBytes, flag_ne_cast]

/-! ## GET LEVELS -/

theorem levelsPart_eq (part : Nat) (hp : part ≤ 1) : (allChannels.filter fun c => c.val / 6 = part)
    = (List.finRange 12).filter fun c => 6 * part ≤ c.val ∧ c.val < 6 * part + 6 := by
  obtain rfl | rfl : part = 0 ∨ part = 1 := by omega
  all_goals decide

theorem secs_cast (ms : Nat) : ((secs ms : Nat) : Int) = min ((ms : Int) / 1000) 65535 := by
  simp [secs]

/-! ## GET TIDE -/

theorem pointBytes_eq : pointBytes = fun p => encodeField .u32 p.time ++ encodeField .s16 p.level := by
  funext p; simp [pointBytes, encodeFields]

/-! ## GET CONDITION -/

theorem bandNumber_cast (b : Option BandId) :
    ((bandNumber b : Nat) : Int) = (match b with | some b => (b.val : Int) + 1 | none => 0 : Int) := by
  cases b <;> rfl

theorem capCode_cast (c : Option Nat) :
    ((capCode c : Nat) : Int) = (match c with | some c => (c : Int) | none => 255 : Int) := by
  cases c <;> rfl

/-- The first of the three quantities that the band claims. -/
theorem claimedBy_cast (w : Twu) (b : BandId) : ((w.claimedBy b : Nat) : Int) =
    if w.claims.level = some b then 0 else if w.claims.residual = some b then 1
    else if w.claims.rate = some b then 2 else 255 := by
  simp only [Twu.claimedBy, List.find?_cons, List.find?_nil, Claims.of]
  by_cases hl : w.claims.level = some b
  · simp [hl, Quantity.code]
  · by_cases hr : w.claims.residual = some b
    · simp [hl, hr, Quantity.code]
    · by_cases ht : w.claims.rate = some b <;> simp [hl, hr, ht, Quantity.code]

/-! ## GET SCREEN -/

theorem ready_iff (sc : Screen) : sc.ready = true ↔ sc.state = .idle ∨ sc.state = .queued
    ∨ ((sc.state = .washing ∨ sc.state = .finishing) ∧ sc.staged = none) := by
  unfold Screen.ready
  split <;> simp_all

theorem pendingResult_eq_false (r : Option WashResult) :
    pendingResult r = false ↔ ∀ x, r = some x → x.pending = false := by
  cases r <;> simp [pendingResult]

theorem settled_iff (sc : Screen) : sc.settled = true ↔ (∀ r, sc.current = some r → r.pending = false)
    ∧ ∀ r, sc.previous = some r → r.pending = false := by
  simp only [Screen.settled, Bool.and_eq_true, Bool.not_eq_true', pendingResult_eq_false]

theorem isWashing_iff (st : ScreenState) : st.isWashing = true ↔ st = .washing ∨ st = .finishing := by
  cases st <;> simp [ScreenState.isWashing]

/-- The entry of a queued screen, with the screen's own number. -/
theorem queuedEntry_bytes (q : List QueueEntry) (n : ScreenId) :
    group queueBytes (q.find? fun e => e.screen = n) =
      group (fun e => encodeFields [(.u8, n.val + 1), (.u8, e.cls.code), (.u16, e.passes), (.u8, flag e.mark.isSome),
        (.u16, secs e.ageMs)]) (q.filter fun e => e.screen = n).head? := by
  rw [List.head?_filter]
  cases h : q.find? fun e => decide (e.screen = n) with
  | none => rfl
  | some e =>
    have hn : e.screen = n := by simpa using List.find?_some h
    simp only [group, queueBytes, hn]

/-! ## GET PUMP -/

theorem stopOrigin_cast (o : Option StopOrigin) : (((o.map StopOrigin.code).getD 255 : Nat) : Int)
    = (match o with | some o => (o.code : Int) | none => 255 : Int) := by
  cases o <;> rfl

theorem roundedUp_cast (ms : Nat) : (((ms + 999) / 1000 : Nat) : Int) = ((ms : Int) + 999) / 1000 := by omega

theorem placeIn_of_split {α : Type} {f : α → Bool} {l before after : List α} {a : α} (h : l = before ++ a :: after)
    (ha : f a = true) (hb : ∀ x ∈ before, f x = false) : placeIn f l = before.length + 1 := by
  have : l.findIdx? f = some before.length := by
    rw [h, List.findIdx?_append, List.findIdx?_eq_none_iff.2 hb]
    simp [List.findIdx?_cons, ha]
  simp [placeIn, this]

theorem placeIn_absent {α : Type} {f : α → Bool} {l : List α} (h : ∀ x ∈ l, f x = false) : placeIn f l = 0 := by
  simp [placeIn, List.findIdx?_eq_none_iff.2 h]

/-! ## The requests -/

theorem reply_data {s : State} {c : Code} {d e : List Byte} (h : d = e) :
    Host.Outcome.next (φ := Fault) (ρ := Refusal) (s.reply c d) = .next (s.reply c e) := by rw [h]

/-- Settles O50: each request by its rule, its data field by field. -/
theorem getRequestsReport : Obligations.GetRequestsReport := by
  intro s
  refine ⟨fun h held limit purgeMs hheld hlimit hpurge => ⟨fun p => heldByHeader_iff p, ?_⟩,
    fun part h => ⟨fun hp => ?_, fun hp => ?_, fun hp => ?_⟩, fun h point hpoint => ?_,
    fun b x h => ⟨fun hb => ?_, fun n hn => ⟨fun hx => ?_, fun hx => ?_⟩⟩, fun h => ?_,
    fun v h => ⟨fun hv => ?_, fun n wash result entry hn hwash hresult hentry => ?_⟩,
    fun v h => ⟨fun hv => ?_, fun p hp => ?_⟩, fun x i h => ⟨fun hx => ?_, fun hx hi => ?_⟩⟩
  · rw [getStatus_answered h]
    refine reply_data ?_
    subst hheld hlimit hpurge
    simp only [State.statusData, State.linkFigures, listBytes, Scope.bytes, slotBytes_eq, allScopes_eq, allPumps_eq,
      allSlots_eq, capCode_eq, DueStop.code_cast, group_ite, encodeFields_cons, encodeFields_nil,
      List.append_assoc] <;> rfl
  · exact get_refused h part (if_pos hp)
  · refine (get_answered h part (if_neg (by omega))).trans (reply_data ?_)
    simp only [State.levelsData, show part < 2 by omega, if_true, levelsPart_eq part hp, channelData, secs_cast]
  · subst hp
    refine (get_answered h 2 (if_neg (by omega))).trans (reply_data ?_)
    simp only [State.levelsData, Nat.lt_irrefl, if_false, allScreens_eq, allBays_eq, allPumps_eq, limited_eq, group_ite]
  · refine (get_answered h () rfl).trans (reply_data ?_)
    have points : pointBytes = point := pointBytes_eq.trans (funext fun p => (hpoint p).symm)
    have banks : List.finRange 2 = [(0 : BankId), 1] := rfl
    simp only [Twu.summaryData, Twu.bankSummary, points, available, flag_ne_cast, banks, List.flatMap_cons,
      List.flatMap_nil, List.append_assoc, List.append_nil]
  · refine get_refused h (b, x) ?_
    dsimp only
    rw [index1_none (by omega)]
  · refine get_refused h (b, x) ?_
    dsimp only
    rw [hn, index1_succ]
    exact if_neg (by omega)
  · refine (congrArg Host.Outcome.next (args_takes h (b, x) _)).trans ?_
    simp only [hn, index1_succ, hx, if_true, List.length_take, List.length_drop, pointBytes_eq]
  · refine (get_answered h () rfl).trans (reply_data ?_)
    simp only [Twu.conditionData, allBands_eq, bandNumber_cast, capCode_cast, claimedBy_cast] <;> rfl
  · refine get_refused h v ?_
    rw [index1_none hv]
  · refine ⟨(s.screen n).ready, (s.screen n).settled,
      (get_answered h v (d := s.screenData n) ?_).trans (reply_data ?_), ?_, ?_⟩
    · rw [hn, index1_succ]
    · have results : resultBytes = result := by
        funext r; rw [hresult]; rfl
      subst hwash hentry
      simp only [State.screenData, limited_eq, isWashing_iff, results, queuedEntry_bytes] <;> rfl
    · exact ready_iff _
    · exact settled_iff _
  · refine get_refused h v ?_
    rw [index1_none hv]
  · refine ⟨placeIn (fun x => x = p) s.pdc.order.toList, placeIn (fun e => e.pump = p) s.pdc.queue,
      (get_answered h v (d := s.pumpData p) ?_).trans (reply_data ?_), ?_, ?_, ?_⟩
    · rw [hp, index1_succ]
    · simp only [State.pumpData, group_ite, timerBytes, limited_eq, stopOrigin_cast, roundedUp_cast] <;> rfl
    · intro before after hl hb
      refine placeIn_of_split hl (by simp) fun x hx => ?_
      have : x ≠ p := fun e => hb (e ▸ hx)
      simpa using this
    · intro before e after hl he hb
      exact placeIn_of_split hl (by simpa using he) fun x hx => by simpa using hb x hx
    · intro ha
      exact placeIn_absent fun x hx => by simpa using ha x hx
  · refine get_refused h (x, i) (if_neg ?_)
    rcases hx with hx | hx <;> simp [hx]
  · exact get_answered h (x, i) (if_pos ⟨hx, hi⟩)

end Sys2Proof.Machine
end

section
/-! PROOFS. The scan event (R16..R22, R28, R42..R44, R98, R111, R143, R150): O20. -/

namespace Sys2Proof.Machine

variable {s t u : State}

/-! ## Settings kept -/

/-- Every setting of `t` is as in `s`; the pump counters are not spoken of. -/
structure State.SameSettings (s t : State) : Prop where
  channels : ∀ c : ChannelId, t.lau.channels[c].values = s.lau.channels[c].values
  levels : t.sectionValues 1 0 = s.sectionValues 1 0
  trend : t.twu.trendInterval = s.twu.trendInterval
  bands : ∀ b : BandId, t.twu.bands[b].values = s.twu.bands[b].values
  reminder : t.twu.reminderInterval = s.twu.reminderInterval
  screens : ∀ n, (t.screen n).values = (s.screen n).values
  wash : t.swc.timings = s.swc.timings
  pumps : ∀ p, (t.pump p).values = (s.pump p).values
  duty : t.pdc.timings = s.pdc.timings
  order : t.pdc.order = s.pdc.order
  link : t.sectionValues 10 0 = s.sectionValues 10 0

theorem itemValues_congr {α : Type} {n : Nat} {v w : Vector α n} {f : α → List Int} (h : ∀ k : Fin n, f w[k] = f v[k])
    (i : Nat) : itemValues w i f = itemValues v i f := by
  unfold itemValues
  cases index1 n i with
  | none => rfl
  | some k => exact h k

/-- The sections read the settings and, section 11, the pump counters. -/
theorem State.SameSettings.sectionValues (h : s.SameSettings t) (x i : Nat)
    (counters : x = 11 → ∀ p, (t.pump p).counters = (s.pump p).counters) :
    t.sectionValues x i = s.sectionValues x i := by
  match x with
  | 0 => exact itemValues_congr h.channels _
  | 1 => exact h.levels
  | 2 => exact congrArg (fun v : Nat => [(v : Int)]) h.trend
  | 3 => exact itemValues_congr h.bands i
  | 4 => exact congrArg (fun v : Nat => [(v : Int)]) h.reminder
  | 5 => exact itemValues_congr h.screens i
  | 6 => exact congrArg (List.map Int.ofNat) h.wash
  | 7 => exact itemValues_congr h.pumps i
  | 8 => exact congrArg (List.map Int.ofNat) h.duty
  | 9 => exact congrArg (fun o : Vector PumpId 8 => o.toList.map fun p => ((p.val + 1 : Nat) : Int)) h.order
  | 10 => exact h.link
  | 11 => exact itemValues_congr (counters rfl) i
  | _ + 12 => rfl

/-! ## The frame of the readers of a record -/

/-- The TWU without what it forms from a record: its settings and its banks. -/
def Twu.sansHands (t : Twu) : Twu :=
  { t.sansClaims with
    trendTimer := 0, ring := [], rate := none, prediction := none, residual := none, formedScan := 0, formedTime := 0
    handed := {} }

/-- A screen without its wash, verdict and capacity flag: its settings and SJAM. -/
def Screen.sansFlags (sc : Screen) : Screen := { sc.sansWash with verdict := false, counts := false }

/-- What the readers of a record may change. -/
structure State.ReadFrame (s t : State) : Prop where
  core : s.SameCore t
  twu : t.twu.sansHands = s.twu.sansHands
  swc : t.swc.sansWashes = s.swc.sansWashes
  screens : ∀ n, (t.screen n).sansFlags = (s.screen n).sansFlags
  pdc : t.pdc.sansDuty = s.pdc.sansDuty
  pumps : ∀ p, (t.pump p).sansMotion = (s.pump p).sansMotion
  link : s.LinkFrame t

theorem State.ReadFrame.refl (s : State) : s.ReadFrame s := ⟨.refl s, rfl, rfl, fun _ => rfl, rfl, fun _ => rfl, .refl s⟩

theorem State.ReadFrame.trans (h : s.ReadFrame t) (k : t.ReadFrame u) : s.ReadFrame u :=
  ⟨h.core.trans k.core, k.twu.trans h.twu, k.swc.trans h.swc, fun n => (k.screens n).trans (h.screens n),
    k.pdc.trans h.pdc, fun p => (k.pumps p).trans (h.pumps p), h.link.trans k.link⟩

theorem Screen.sansFlags_of_sansWash {a b : Screen} (h : a.sansWash = b.sansWash) : a.sansFlags = b.sansFlags := by
  rw [Screen.sansFlags, Screen.sansFlags, h]

theorem Twu.sansHands_of_sansClaims {a b : Twu} (h : a.sansClaims = b.sansClaims) : a.sansHands = b.sansHands := by
  rw [Twu.sansHands, Twu.sansHands, h]

theorem State.ClaimFrame.read (h : s.ClaimFrame t) : s.ReadFrame t :=
  ⟨h.core, Twu.sansHands_of_sansClaims h.twu, h.swc, fun n => Screen.sansFlags_of_sansWash (h.screens n), h.pdc, h.pumps,
    h.link⟩

/-- A change of the TWU within what it forms from a record. -/
theorem State.onTwu_read (f : Twu → Twu) (s : State) (h : (f s.twu).sansHands = s.twu.sansHands) :
    s.ReadFrame (s.onTwu f) :=
  ⟨⟨rfl, rfl, rfl, rfl⟩, h, rfl, fun _ => rfl, rfl, fun _ => rfl, .of_eq rfl⟩

section Kept
variable (h : s.ReadFrame t)
include h

theorem State.ReadFrame.banks : t.twu.banks = s.twu.banks := (congrArg Twu.banks h.twu :)
theorem State.ReadFrame.loading : t.twu.loading = s.twu.loading := (congrArg Twu.loading h.twu :)
theorem State.ReadFrame.blind (n : ScreenId) : (t.screen n).blind = (s.screen n).blind :=
  (congrArg Screen.blind (h.screens n) :)

theorem State.ReadFrame.predicted : t.predicted = s.predicted := by
  have time : t.slp.time = s.slp.time := (congrArg Slp.time h.link.slp :)
  have timeSet : t.slp.timeSet = s.slp.timeSet := (congrArg Slp.timeSet h.link.slp :)
  have bank : t.twu.banks[t.twu.standing] = s.twu.banks[s.twu.standing] := by
    simp only [Twu.standing, h.loading, h.banks]
  unfold State.predicted
  rw [bank, time, timeSet]

theorem State.ReadFrame.bandValues (b : BandId) : t.twu.bands[b].values = s.twu.bands[b].values := by
  have e : t.twu.bands.map Band.sansLatch = s.twu.bands.map Band.sansLatch := (congrArg Twu.bands h.twu :)
  have eb := congrArg (fun v : Vector Band 8 => v[b].values) e
  simpa [Band.values, Band.sansLatch] using eb

theorem State.ReadFrame.sameSettings : s.SameSettings t where
  channels c := by rw [h.core.lau]
  levels := by simp only [State.sectionValues, h.core.lau]
  trend := (congrArg Twu.trendInterval h.twu :)
  bands := h.bandValues
  reminder := (congrArg Twu.reminderInterval h.twu :)
  screens n := (congrArg Screen.values (h.screens n) :)
  wash := (congrArg Swc.timings h.swc :)
  pumps p := (congrArg Pump.values (h.pumps p) :)
  duty := (congrArg Pdc.timings h.pdc :)
  order := (congrArg Pdc.order h.pdc :)
  link := (congrArg (fun l : Slp => [(l.rate : Int), l.threshold, l.batchTimeout, l.supervision, l.discard]) h.link.slp :)

end Kept

/-! ## What a reader has done -/

/-- What the TWU has of the record: the prediction, the residual and the sea level handed to the bands, and, the sea being
back from LOST, an empty ring and no rate (R28, R42..R44). -/
structure State.HandsFormed (before : SeaClass) (s t : State) : Prop where
  level : t.twu.handed.level = s.lau.record.seaLevel
  scan : t.twu.formedScan = s.lau.record.scan
  prediction : t.twu.prediction = s.predicted
  residual : t.twu.residual = residualOf s.predicted s.lau.record.seaLevel
  handedResidual : t.twu.handed.residual = t.twu.residual
  ring : before = .lost → s.lau.record.cls ≠ .lost → t.twu.ring = [] ∧ t.twu.rate = none

/-- What readers of the record have done, `sea` saying whether the TWU is among them and `screens` whether the SWC is. -/
structure State.Reads (sea screens : Bool) (before : SeaClass) (s t : State) : Prop where
  frame : s.ReadFrame t
  hands : sea = true → s.HandsFormed before t
  claims : sea = false → t.twu.sansClaims = s.twu.sansClaims
  verdicts : ∀ n, (t.screen n).verdict =
    if screens && !s.lau.record.heads[n].unknown then decide (s.lau.record.heads[n].loss < (s.screen n).blind)
    else (s.screen n).verdict

variable {before : SeaClass}

/-- The hands formed depend on the record and on what a prediction is made of alone. -/
theorem State.HandsFormed.of_frame (h : s.ReadFrame t) (k : t.HandsFormed before u) : s.HandsFormed before u := by
  obtain ⟨level, scan, prediction, residual, handed, ring⟩ := k
  rw [h.core.lau] at level scan residual ring
  rw [h.predicted] at prediction residual
  exact ⟨level, scan, prediction, residual, handed, ring⟩

/-- Work that keeps the TWU but for its claims keeps the hands formed. -/
theorem State.HandsFormed.keep (h : s.HandsFormed before t) (k : u.twu.sansClaims = t.twu.sansClaims) :
    s.HandsFormed before u := by
  have handed : u.twu.handed = t.twu.handed := (congrArg Twu.handed k :)
  have residual : u.twu.residual = t.twu.residual := (congrArg Twu.residual k :)
  exact ⟨by rw [handed, h.level], (congrArg Twu.formedScan k :).trans h.scan,
    (congrArg Twu.prediction k :).trans h.prediction, by rw [residual, h.residual],
    by rw [handed, residual, h.handedResidual],
    fun hb hc => ⟨(congrArg Twu.ring k :).trans (h.ring hb hc).1, (congrArg Twu.rate k :).trans (h.ring hb hc).2⟩⟩

/-- Readers one after the other, of which one at most is the TWU and one at most the SWC. -/
theorem State.Reads.trans {a b a' b' : Bool} (h : State.Reads a b before s t) (k : State.Reads a' b' before t u)
    (ha : (a && a') = false) (hb : (b && b') = false) : State.Reads (a || a') (b || b') before s u := by
  refine ⟨h.frame.trans k.frame, fun ho => ?_, fun ho => ?_, fun n => ?_⟩
  · cases a with
    | true => exact (h.hands rfl).keep (k.claims (by simpa using ha))
    | false => exact .of_frame h.frame (k.hands (by simpa using ho))
  · obtain ⟨rfl, rfl⟩ : a = false ∧ a' = false := by simpa using ho
    exact (k.claims rfl).trans (h.claims rfl)
  · rw [k.verdicts, h.frame.core.lau, h.frame.blind, h.verdicts]
    cases b with
    | true => obtain rfl : b' = false := by simpa using hb
              simp
    | false => simp

/-- Work of the SWC or of the PDC that forms no verdict. -/
theorem State.WorkFrame.reads {W : ScreenId → Prop} {P : PumpId → Prop} (h : s.WorkFrame W P t) :
    State.Reads false false before s t :=
  ⟨h.claim.read, nofun, fun _ => h.claim.twu, fun n => by simpa using h.claim.verdict n⟩

/-! ## The SWC and the PDC -/

theorem State.publishCapacity_verdict (s : State) (n : ScreenId) :
    (s.publishCapacity.screen n).verdict = (s.screen n).verdict := by
  unfold State.publishCapacity
  dsimp only
  split <;> simp [State.screen, State.evaluationFollows]

theorem State.publishCapacity_read (s : State) : s.ReadFrame s.publishCapacity := by
  have h : s.ReadFrame (s.onSwc fun w => { w with screens := w.screens.map fun sc => { sc with counts := sc.counting } }) :=
    ⟨⟨rfl, rfl, rfl, rfl⟩, rfl, rfl, fun n => by simp [State.screen, Screen.sansFlags, Screen.sansWash], rfl,
      fun _ => rfl, .of_eq rfl⟩
  unfold State.publishCapacity
  dsimp only
  split
  · exact h
  · exact h.trans (State.evaluationFollows_duty _ fun _ => False).claim.read

/-- What the verdicts and capacity flags of a scan event are formed by (R111). -/
theorem State.formVerdicts_reads (s : State) : State.Reads false true before s s.formVerdicts := by
  have verdicts : s.ReadFrame (s.onSwc fun w => { w with
      screens := Vector.ofFn fun n : ScreenId =>
        let sc := w.screens[n]
        let hd := s.lau.record.heads[n]
        if hd.unknown then sc else { sc with verdict := decide (hd.loss < sc.blind) } }) :=
    ⟨⟨rfl, rfl, rfl, rfl⟩, rfl, rfl, fun n => by
      simp only [State.screen, State.onSwc_swc, Fin.getElem_fin, Vector.getElem_ofFn]
      split <;> rfl, rfl, fun _ => rfl, .of_eq rfl⟩
  refine ⟨verdicts.trans (State.publishCapacity_read _), nofun, fun _ => ?_, fun n => ?_⟩
  · unfold State.formVerdicts State.publishCapacity
    dsimp only
    split <;> rfl
  · refine (State.publishCapacity_verdict _ n).trans ?_
    simp only [State.screen, State.onSwc_swc, Fin.getElem_fin, Vector.getElem_ofFn, Bool.true_and]
    cases s.lau.record.heads[n.val].unknown <;> rfl

theorem State.swcReads_reads (s : State) : State.Reads false true before s s.swcReads := by
  have triggers := (s.evaluateTriggers_work fun _ => False).reads (before := before)
  have settle := (State.settle_work s.evaluateTriggers.formVerdicts (fun _ => False) fun _ => False).reads
    (before := before)
  exact (triggers.trans (State.formVerdicts_reads _) rfl rfl).trans settle rfl rfl

theorem State.marginPeriod_duty (s : State) (p : PumpId) : s.DutyFrame (fun _ => True) (s.marginPeriod p) :=
  s.onPump_duty p _ trivial fun _ => rfl

theorem State.pdcReads_reads (s : State) : State.Reads false false before s s.pdcReads := by
  have periods := State.foldl_duty State.marginPeriod _ State.marginPeriod_duty allPumps s
  have h := (periods.trans (State.evaluationFollows_duty _ _)).trans (State.settle_duty _ _)
  exact (h.work fun _ => False).reads

/-! ## The TWU -/

/-- The values that a scan event forms and hands (R42..R44). -/
def State.formHands (s : State) : State :=
  s.onTwu fun t =>
    { t with
      prediction := s.predicted, residual := residualOf s.predicted s.lau.record.seaLevel
      formedScan := s.lau.record.scan, formedTime := s.stamp
      handed := { t.handed with
        level := s.lau.record.seaLevel, residual := residualOf s.predicted s.lau.record.seaLevel } }

/-- The ring emptied, with the rate that an empty ring has (R28, R29). -/
def State.dropRing (s : State) : State :=
  s.onTwu fun t => { t with ring := [], trendTimer := 0, rate := none, handed := { t.handed with rate := none } }

theorem State.handLevels_claim (s : State) : s.formHands.ClaimFrame s.handLevels :=
  (((State.evaluateClaim_claim _ _).trans (State.evaluateClaim_claim _ _)).trans (State.recompute_claim _)).trans
    (State.settle_claim _)

theorem State.emptyRing_claim (s : State) : s.dropRing.ClaimFrame s.emptyRing :=
  ((State.evaluateClaim_claim _ _).trans (State.recompute_claim _)).trans (State.settle_claim _)

theorem State.formHands_read (s : State) : s.ReadFrame s.formHands := s.onTwu_read _ rfl

theorem State.dropRing_read (s : State) : s.ReadFrame s.dropRing := s.onTwu_read _ rfl

/-- The hands formed, the ring being empty already wherever it has to be. -/
theorem State.formHands_formed (s : State)
    (ring : before = .lost → s.lau.record.cls ≠ .lost → s.twu.ring = [] ∧ s.twu.rate = none) :
    s.HandsFormed before s.formHands :=
  ⟨rfl, rfl, rfl, rfl, rfl, ring⟩

theorem State.handLevels_reads (s : State)
    (ring : before = .lost → s.lau.record.cls ≠ .lost → s.twu.ring = [] ∧ s.twu.rate = none) :
    State.Reads true false before s s.handLevels :=
  ⟨s.formHands_read.trans s.handLevels_claim.read, fun _ => (s.formHands_formed ring).keep s.handLevels_claim.twu, nofun,
    fun n => s.handLevels_claim.verdict n⟩

/-- The ring emptied after the hands were formed (the other order of R28's two pieces of work). -/
theorem State.emptyRing_reads (h : State.Reads true false .agree s t) :
    State.Reads true false before s t.emptyRing := by
  refine ⟨h.frame.trans (t.dropRing_read.trans t.emptyRing_claim.read), fun _ => ?_, nofun,
    fun n => (t.emptyRing_claim.verdict n).trans (h.verdicts n)⟩
  have formed := h.hands rfl
  refine State.HandsFormed.keep ?_ t.emptyRing_claim.twu
  exact ⟨formed.level, formed.scan, formed.prediction, formed.residual, formed.handedResidual, fun _ _ => ⟨rfl, rfl⟩⟩

theorem State.drawn_reads (s : State) : State.Reads false false before s s.drawn :=
  (s.drawn_work (fun _ => False) fun _ => False).reads

theorem State.twuReads_reads (s : State) : State.Reads true false before s (s.twuReads before) := by
  unfold State.twuReads
  split
  · have drawn := s.drawn_reads (before := before)
    split
    · have dropped : State.ReadFrame s.drawn s.drawn.emptyRing :=
        s.drawn.dropRing_read.trans s.drawn.emptyRing_claim.read
      have hands : State.Reads true false before s.drawn.emptyRing s.drawn.emptyRing.handLevels :=
        s.drawn.emptyRing.handLevels_reads fun _ _ => ⟨s.drawn.emptyRing_claim.ring, s.drawn.emptyRing_claim.rate⟩
      refine ⟨(drawn.frame.trans dropped).trans hands.frame,
        fun _ => .of_frame (drawn.frame.trans dropped) (hands.hands rfl), nofun, fun n => ?_⟩
      exact (hands.verdicts n).trans (s.drawn.emptyRing_claim.verdict n)
    · exact drawn.trans (State.emptyRing_reads (s.drawn.handLevels_reads nofun)) rfl rfl
  · next h => exact s.handLevels_reads fun hb hc => absurd ⟨hb, hc⟩ h

/-- The three readers of a record, in whatever order they act (R22). -/
theorem State.read_reads (s : State) (k : Nat) : State.Reads true true before s (State.read before k s) := by
  have twu (s : State) : State.Reads true false before s (s.twuReads before) := s.twuReads_reads
  have swc (s : State) : State.Reads false true before s s.swcReads := s.swcReads_reads
  have pdc (s : State) : State.Reads false false before s s.pdcReads := s.pdcReads_reads
  unfold State.read
  split
  · exact ((twu _).trans (swc _) rfl rfl).trans (pdc _) rfl rfl
  · exact ((twu _).trans (pdc _) rfl rfl).trans (swc _) rfl rfl
  · exact ((swc _).trans (twu _) rfl rfl).trans (pdc _) rfl rfl
  · exact ((swc _).trans (pdc _) rfl rfl).trans (twu _) rfl rfl
  · exact ((pdc _).trans (twu _) rfl rfl).trans (swc _) rfl rfl
  · exact ((pdc _).trans (swc _) rfl rfl).trans (twu _) rfl rfl

end Sys2Proof.Machine
end

section
/-! PROOFS. The record of a scan event and its publication (R16..R22): O20. -/

namespace Sys2Proof.Machine

variable {s t : State}

/-! ## The record formed -/

theorem State.seaLevels_eq (s : State) :
    s.seaLevels = (([0, 1, 2] : List ChannelId).filter fun c => s.lau.channels[c].health = .ok).map
      fun c => s.lau.channels[c].level := by
  rw [← List.filterMap_eq_map, ← List.filterMap_eq_filter, List.filterMap_filterMap]
  refine List.filterMap_congr fun c _ => ?_
  simp only [Option.guard, decide_eq_true_eq]
  split <;> rfl

theorem State.formRecord_voted (s : State) :
    s.formRecord.voted = (s.lau.record.voted || decide (s.seaLevels ≠ [])) := by
  cases h : s.seaLevels <;> simp [State.formRecord, h]

theorem State.formRecord_channel (s : State) (c : ChannelId) :
    s.formRecord.channels[c] = ⟨s.lau.channels[c].level, s.lau.channels[c].health, s.lau.channels[c].clamped⟩ := by
  simp [State.formRecord]

theorem State.formRecord_head (s : State) (n : ScreenId) (c : ChannelId) (hc : c.val = n.val + 3) :
    s.formRecord.heads[n] =
      if s.lau.channels[c].health = .ok ∧ s.formRecord.voted = true then
        ⟨max 0 (s.formRecord.sea - s.lau.channels[c].level), false⟩
      else ⟨s.lau.record.heads[n].loss, true⟩ := by
  obtain rfl : c = chamberOf n := Fin.ext hc
  simp [State.formRecord, formHead]

theorem State.formRecord_well (s : State) (b : BayId) (c : ChannelId) (hc : c.val = b.val + 9) :
    s.formRecord.wells[b] = ⟨s.lau.channels[c].level, decide (s.lau.channels[c].health ≠ .ok)⟩ := by
  obtain rfl : c = wellChannel b := Fin.ext hc
  simp [State.formRecord, formWell]

theorem bayOfPump_eq (p : PumpId) (b : BayId) (h : b.val = p.val / 3) : bayOfPump p = b := by
  unfold bayOfPump
  refine Fin.ext ?_
  split
  · simp; omega
  · split <;> simp <;> omega

theorem State.formRecord_margin (s : State) (p : PumpId) (b : BayId) (h : b.val = p.val / 3) :
    s.formRecord.margins[p] = s.formRecord.wells[b].level - ((s.pump p).inlet + (s.pump p).submergence) := by
  obtain rfl := bayOfPump_eq p b h
  simp [State.formRecord, marginOf]

/-! ## Its publication -/

/-- The LAU with the record formed, its scan at an end (R22). -/
def State.recorded (s : State) : State :=
  s.onLau fun l => { l with record := s.formRecord, lostMs := l.lostTime s.formRecord.cls, scan := none }

/-- Publication adds a notice to that, at most. -/
theorem State.publishRecord_duty (s : State) (P : PumpId → Prop) : s.recorded.DutyFrame P s.publishRecord := by
  unfold State.publishRecord
  dsimp only
  split
  · exact .refl _ _
  · exact State.notify_duty _ _ _ _ _ _ _ _

/-- The notice of a sea class that is LOST or DIVERGED and was not before (R17). -/
theorem State.publishRecord_notice (s : State) (hc : s.formRecord.cls ≠ s.lau.record.cls)
    (hu : s.formRecord.cls = .lost ∨ s.formRecord.cls = .diverged) (room : s.slp.notices.length < 32) :
    ⟨.fault, .seaClassChanged, s.formRecord.cls.code, 0, s.formRecord.sea, s.lau.record.cls.code, s.stamp⟩ ∈
      s.publishRecord.slp.notices := by
  have cls : (if s.formRecord.cls = .lost || s.formRecord.cls = .diverged then NoticeClass.fault else .status) = .fault :=
    if_pos (by simpa using hu)
  unfold State.publishRecord
  dsimp only
  rw [if_neg hc, cls]
  have queued := State.notify_room s.recorded .fault .seaClassChanged s.formRecord.cls.code 0 s.formRecord.sea
    s.lau.record.cls.code room
  exact queued ▸ List.mem_concat_self

/-- The settings are no part of what a record replaces. -/
theorem State.recorded_sameSettings (s : State) : s.SameSettings s.recorded :=
  ⟨fun _ => rfl, rfl, rfl, fun _ => rfl, rfl, fun _ => rfl, rfl, fun _ => rfl, rfl, rfl, rfl⟩

/-- The three readers have the record that was formed, and act on nothing else new (R22). -/
theorem State.scanEnd_reads (s : State) : State.Reads true true s.lau.record.cls s.recorded s.scanEnd := by
  have published := (s.publishRecord_duty (fun _ => False)).work (fun _ => False)
  have drawn := State.drawn_work s.publishRecord (fun _ => False) fun _ => False
  exact (published.trans drawn).reads.trans (State.read_reads _ _) rfl rfl

theorem State.scanEnd_notices (s : State) (m : Notice) (hm : m ∈ s.publishRecord.slp.notices)
    (hu : m.cls.urgent = true) : m ∈ s.scanEnd.slp.notices := by
  have drawn := State.drawn_reads (before := s.lau.record.cls) s.publishRecord
  exact (drawn.frame.link.trans (State.read_reads _ _).frame.link).notices m hm hu

theorem scanEvent_ends {sc : Scan} (hp : s.phase = .running) (hs : s.lau.scan = some sc) (hn : sc.next = 12) :
    exec .scanEvent s = .next s.scanEnd := by
  have dealt : State.dealMany 12 s = s := dealMany_of_done hs (by omega) 12
  show execScanEvent s = _
  simp [execScanEvent, State.active, hp, hs, dealt]

/-- The levels that a residual is the difference of (R43). -/
theorem residualOf_eq (p v : Option Int) :
    residualOf p v = (match p, v with | some p, some v => some (max (-30000) (min 30000 (v - p))) | _, _ => none) := by
  cases p <;> cases v <;> simp [residualOf, clampInt_eq]

/-- Settles O20: the scan that ends has its record formed and published, and the readers' frame says what they do with it
in whatever order they act. -/
theorem scanEventPublishesTheRecord : Obligations.ScanEventPublishesTheRecord := by
  unfold Obligations.ScanEventPublishesTheRecord
  intro s sc hp hs hn
  have reads := s.scanEnd_reads
  have hands := reads.hands rfl
  have lau : s.scanEnd.lau = s.recorded.lau := reads.frame.core.lau
  refine ⟨s.scanEnd, s.formRecord, scanEvent_ends hp hs hn, ?_, rfl, s.formRecord_channel,
    ⟨s.seaLevels, s.seaLevels_eq, rfl, rfl, s.formRecord_voted⟩, ?_, ?_, s.formRecord_head, s.formRecord_well,
    s.formRecord_margin, fun n => ?_, hands.level, hands.scan, hands.prediction, hands.handedResidual, ?_, hands.ring,
    fun hc hu room => ?_, fun x i hx => ?_, ?_, reads.frame.core.phase, reads.frame.banks, reads.frame.loading⟩
  · rw [lau]; rfl
  · rw [lau]; simp [State.recorded, Lau.lostTime]
  · rw [lau]; rfl
  · refine (reads.verdicts n).trans ?_
    show (if true && !s.formRecord.heads[n].unknown then _ else _) = _
    cases s.formRecord.heads[n].unknown <;> rfl
  · rw [hands.residual, ← hands.level]
    exact residualOf_eq _ _
  · exact s.scanEnd_notices _ (s.publishRecord_notice hc hu room) rfl
  · rw [reads.frame.sameSettings.sectionValues x i fun h => absurd h hx]
    exact s.recorded_sameSettings.sectionValues x i fun h => absurd h hx
  · have recorded : s.LinkFrame s.recorded := .of_eq rfl
    exact recorded.trans reads.frame.link

end Sys2Proof.Machine
end

section
/-! PROOFS. The start states of the blocks at the end of LOADING (R1, R5, R95, R139, R174, R189, R192). -/

namespace Sys2Proof.Machine

variable {s t u : State}

/-! ## Folds over a table -/

/-- Work on each item of a table in turn, each piece of it changing its own item. -/
theorem foldl_each {ι α : Type} [DecidableEq ι] (get : State → ι → α) (f : State → ι → State) (g : α → α)
    (h : ∀ s n m, get (f s n) m = if n = m then g (get s m) else get s m) :
    ∀ (l : List ι), l.Nodup → ∀ s m, get (l.foldl f s) m = if m ∈ l then g (get s m) else get s m
  | [], _, s, m => by simp
  | n :: l, hd, s, m => by
    obtain ⟨hn, hl⟩ := List.nodup_cons.1 hd
    rw [List.foldl_cons, foldl_each get f g h l hl, h]
    by_cases e : n = m
    · subst e; simp [hn]
    · simp [e, Ne.symm e]

/-- Work that keeps a value keeps it over a whole table. -/
theorem foldl_keeps {ι α : Type} (get : State → α) (f : State → ι → State) (h : ∀ s n, get (f s n) = get s)
    (l : List ι) (s : State) : get (l.foldl f s) = get s :=
  List.foldlRecOn (motive := fun t => get t = get s) l f rfl fun t ht n _ => (h t n).trans ht

/-! ## Screens -/

/-- A screen at its start state (R95). -/
def Screen.started (sc : Screen) : Screen :=
  { sc with
    state := if sc.inService then if sc.jam then .jammed else .idle else .outOfService, drive := false, spray := false }

theorem screen_startScreen (s : State) (n m : ScreenId) :
    (s.startScreen n).screen m = if n = m then (s.screen m).started else s.screen m := by
  have entered (st : ScreenState) (h : st.isWashing = false) (hs : (s.screen n).started.state = st) :
      (s.enterScreen n st).screen m = if n = m then (s.screen m).started else s.screen m := by
    rw [State.screen_enterScreen, h]
    split
    · next e => subst e; simp only [Screen.started] at hs ⊢; rw [hs]
    · rfl
  unfold State.startScreen
  split
  · next hin =>
    split
    · next hj => exact entered .jammed rfl (by simp [Screen.started, hin, hj])
    · next hj => exact entered .idle rfl (by simp [Screen.started, hin, hj])
  · next hin => exact entered .outOfService rfl (by simp [Screen.started, hin])

theorem startScreen_work (s : State) (n : ScreenId) :
    s.WorkFrame (fun _ => True) (fun _ => False) (s.startScreen n) := by
  have entered (st : ScreenState) := s.enterScreen_work (W := fun _ => True) (n := n) st (fun _ => False) trivial
  unfold State.startScreen State.foundJammed
  exact State.ite_work (State.ite_work ((entered _).trans (State.notify_work _ _ _ _ _ _ _ _ _)) (entered _)) (entered _)

/-- What of the SWC stands outside the screens and follows a state of its own. -/
def Swc.header (w : Swc) : Bool × Bool × PurgeState × Bool := (w.sluicing, w.sluv, w.purge, w.hprg)

theorem startScreen_header (s : State) (n : ScreenId) : (s.startScreen n).swc.header = s.swc.header := by
  unfold State.startScreen
  split
  · split <;> rfl
  · rfl

/-- A screen found jammed puts one notice at the end of a queue that has room. -/
theorem startScreen_notices (s : State) (n : ScreenId) (room : s.slp.notices.length < 32) :
    ∃ q, (s.startScreen n).slp.notices = s.slp.notices ++ q ∧ q.length ≤ 1 := by
  unfold State.startScreen
  split
  · split
    · exact ⟨_, (State.notify_room (s.enterScreen n .jammed) _ _ _ _ _ _ room :), by simp⟩
    · exact ⟨[], (List.append_nil _).symm, by simp⟩
  · exact ⟨[], (List.append_nil _).symm, by simp⟩

theorem startScreens_notices : ∀ (l : List ScreenId) (s : State), s.slp.notices.length + l.length ≤ 32 →
    ∃ q, (l.foldl State.startScreen s).slp.notices = s.slp.notices ++ q
  | [], s, _ => ⟨[], by simp⟩
  | n :: l, s, room => by
    rw [List.length_cons] at room
    obtain ⟨q, hq, one⟩ := startScreen_notices s n (by omega)
    obtain ⟨q', hq'⟩ := startScreens_notices l (s.startScreen n) (by rw [hq, List.length_append]; omega)
    exact ⟨q ++ q', by rw [List.foldl_cons, hq', hq, List.append_assoc]⟩

/-- Screens leave the PDC alone. -/
theorem startScreen_pdc (s : State) (n : ScreenId) : (s.startScreen n).pdc = s.pdc := by
  unfold State.startScreen
  split
  · split <;> rfl
  · rfl

/-! ## Pumps -/

/-- A pump at its start state, given the recovery times of the classes (R139). -/
def Pump.started (time : PumpClass → Nat) (q : Pump) : Pump :=
  if q.enabled then
    { q with
      state := if time q.cls * 1000 = 0 then .stopped else .recovering, run := false, lowMargin := none
      recovery := time q.cls * 1000 }
  else { q with state := .disabled, run := false, lowMargin := none }

theorem pump_startPump (s : State) (p q : PumpId) :
    (s.startPump p).pump q = if p = q then (s.pump q).started s.pdc.recoveryTime else s.pump q := by
  unfold State.startPump
  by_cases e : p = q
  · subst e
    split
    · next he =>
      rw [State.rest, State.pump_enterPump_self, State.pump_onPump]
      simp only [if_true, Pump.started, he]
      split <;> rfl
    · next he => rw [State.pump_enterPump_self]; simp [Pump.started, he, PumpState.commanded]
  · split
    · rw [State.rest, State.pump_enterPump, State.pump_onPump]; simp [e]
    · rw [State.pump_enterPump, if_neg e]

theorem startPump_duty (s : State) (p : PumpId) : s.DutyFrame (fun _ => True) (s.startPump p) := by
  unfold State.startPump
  split
  · refine State.DutyFrame.trans (s.onPump_duty p _ trivial ?_) (State.rest_duty _ trivial)
    exact fun _ => rfl
  · exact s.enterPump_duty _ trivial

theorem startPump_recoveryTime (s : State) (p : PumpId) : (s.startPump p).pdc.recoveryTime = s.pdc.recoveryTime := by
  unfold State.startPump
  split <;> rfl

theorem startPump_rest (s : State) (p : PumpId) : (s.startPump p).swc = s.swc ∧ (s.startPump p).slp = s.slp := by
  unfold State.startPump
  split <;> exact ⟨rfl, rfl⟩

/-! ## The blocks together -/

/-- The screens at their start states. -/
def State.startScreens (s : State) : State := allScreens.foldl State.startScreen s

/-- The pumps at their start states. -/
def State.startPumps (s : State) : State := allPumps.foldl State.startPump s

theorem startScreens_screen (s : State) (n : ScreenId) : s.startScreens.screen n = (s.screen n).started := by
  have h := foldl_each State.screen State.startScreen Screen.started screen_startScreen allScreens (by decide) s n
  rwa [if_pos (by simp [allScreens_eq])] at h

theorem startScreens_pdc (s : State) : s.startScreens.pdc = s.pdc :=
  foldl_keeps State.pdc State.startScreen startScreen_pdc allScreens s

theorem startScreens_header (s : State) : s.startScreens.swc.header = s.swc.header :=
  foldl_keeps (fun s => s.swc.header) State.startScreen startScreen_header allScreens s

theorem startScreens_claim (s : State) : s.ClaimFrame s.startScreens :=
  (State.foldl_work State.startScreen startScreen_work allScreens s).claim

theorem startPumps_swc (s : State) : s.startPumps.swc = s.swc :=
  foldl_keeps State.swc State.startPump (fun s p => (startPump_rest s p).1) allPumps s

theorem startPumps_slp (s : State) : s.startPumps.slp = s.slp :=
  foldl_keeps State.slp State.startPump (fun s p => (startPump_rest s p).2) allPumps s

theorem startPumps_pump (s : State) (p : PumpId) : s.startPumps.pump p = (s.pump p).started s.pdc.recoveryTime := by
  have each (s : State) (p q : PumpId) : ((s.startPump p).pump q, (s.startPump p).pdc.recoveryTime) =
      if p = q then ((s.pump q).started s.pdc.recoveryTime, s.pdc.recoveryTime)
      else (s.pump q, s.pdc.recoveryTime) := by
    rw [pump_startPump, startPump_recoveryTime]; split <;> rfl
  have h := foldl_each (fun s p => (s.pump p, s.pdc.recoveryTime)) State.startPump (fun x => (x.1.started x.2, x.2))
    each allPumps (by decide) s p
  rw [if_pos (by simp [allPumps_eq])] at h
  exact (Prod.mk.inj h).1

theorem startPumps_claim (s : State) : s.ClaimFrame s.startPumps :=
  (State.foldl_duty State.startPump _ startPump_duty allPumps s).claim

/-- RUNNING begins: HDOK's false period, the pending evaluation and the link have their start states. -/
def State.begun (s : State) : State :=
  ({ s with phase := .running }.onSwc fun w => { w with falsePeriod := if w.hdok then none else some 0 })
    |>.onPdc (fun d => { d with evaluationDue := false })
    |>.onSlp Slp.start

variable {samples : Vector Nat 12}

theorem startBlocks_eq : s.startBlocks samples = (s.startLau samples).startScreens.startPumps.begun := rfl

theorem startLau_swc (s : State) : (s.startLau samples).swc = s.swc := rfl
theorem startLau_pdc (s : State) : (s.startLau samples).pdc = s.pdc := rfl
theorem startLau_slp (s : State) : (s.startLau samples).slp = s.slp := rfl

theorem begun_lau (s : State) : s.begun.lau = s.lau := rfl
theorem begun_screen (s : State) (n : ScreenId) : s.begun.screen n = s.screen n := rfl
theorem begun_pump (s : State) (p : PumpId) : s.begun.pump p = s.pump p := rfl
theorem begun_header (s : State) : s.begun.swc.header = s.swc.header := rfl
theorem begun_slp (s : State) : s.begun.slp = s.slp.start := rfl

/-! ## What RUNNING begins with -/

theorem startBlocks_claim : (s.startLau samples).ClaimFrame (s.startLau samples).startScreens.startPumps :=
  (startScreens_claim _).trans (startPumps_claim _)

theorem startBlocks_phase : (s.startBlocks samples).phase = .running := rfl

theorem startBlocks_lau : (s.startBlocks samples).lau = (s.startLau samples).lau := by
  rw [startBlocks_eq, begun_lau, startBlocks_claim.lau]

theorem startBlocks_screen (n : ScreenId) : (s.startBlocks samples).screen n = (s.screen n).started := by
  rw [startBlocks_eq, begun_screen, State.screen, startPumps_swc]
  exact startScreens_screen _ n

theorem startBlocks_pump (p : PumpId) : (s.startBlocks samples).pump p = (s.pump p).started s.pdc.recoveryTime := by
  rw [startBlocks_eq, begun_pump, startPumps_pump, startScreens_pdc, State.pump, startScreens_pdc]
  rfl

theorem startBlocks_header : (s.startBlocks samples).swc.header = s.swc.header := by
  rw [startBlocks_eq, begun_header, startPumps_swc, startScreens_header, startLau_swc]

theorem startBlocks_slp : (s.startBlocks samples).slp = (s.startLau samples).startScreens.slp.start := by
  rw [startBlocks_eq, begun_slp, startPumps_slp]

theorem Slp.start_notices (l : Slp) : l.start.notices = l.notices := by
  unfold Slp.start; dsimp only; split <;> rfl

theorem Slp.start_configDefaults (l : Slp) : l.start.configDefaults = l.configDefaults := by
  unfold Slp.start; dsimp only; split <;> rfl

theorem Slp.start_supervising (l : Slp) :
    l.start.supervising = decide (l.supervision ≠ 0) ∧ l.start.supervisionMs = 0 := by
  unfold Slp.start; dsimp only; split <;> exact ⟨rfl, rfl⟩

/-- The transmitter being free, the rate of the settings applies at once (R174). -/
theorem Slp.start_rate (l : Slp) (h : l.tx = .free) : l.start.rateInForce = l.rate := by
  unfold Slp.start; dsimp only; rw [if_pos h]; rfl

theorem State.SameSettings.trans (h : s.SameSettings t) (k : t.SameSettings u) : s.SameSettings u :=
  ⟨fun c => (k.channels c).trans (h.channels c), k.levels.trans h.levels, k.trend.trans h.trend,
    fun b => (k.bands b).trans (h.bands b), k.reminder.trans h.reminder, fun n => (k.screens n).trans (h.screens n),
    k.wash.trans h.wash, fun p => (k.pumps p).trans (h.pumps p), k.duty.trans h.duty, k.order.trans h.order,
    k.link.trans h.link⟩

theorem startLau_sameSettings : s.SameSettings (s.startLau samples) :=
  ⟨fun c => by simp [State.startLau, Channel.values, Channel.start], rfl, rfl, fun _ => rfl, rfl, fun _ => rfl, rfl,
    fun _ => rfl, rfl, rfl, rfl⟩

theorem Slp.start_settings (l : Slp) : (l.start.rate, l.start.threshold, l.start.batchTimeout, l.start.supervision,
    l.start.discard) = (l.rate, l.threshold, l.batchTimeout, l.supervision, l.discard) := by
  unfold Slp.start; dsimp only; split <;> rfl

theorem begun_sameSettings (s : State) : s.SameSettings s.begun :=
  ⟨fun _ => rfl, rfl, rfl, fun _ => rfl, rfl, fun _ => rfl, rfl, fun _ => rfl, rfl, rfl,
    congrArg (fun x : Nat × Nat × Nat × Nat × Nat => [(x.1 : Int), x.2.1, x.2.2.1, x.2.2.2.1, x.2.2.2.2])
      s.slp.start_settings⟩

theorem Pump.started_counters (time : PumpClass → Nat) (q : Pump) : (q.started time).counters = q.counters := by
  unfold Pump.started; split <;> rfl

/-- The start states keep every setting and every pump counter. -/
theorem startBlocks_sectionValues (x i : Nat) : (s.startBlocks samples).sectionValues x i = s.sectionValues x i := by
  have settings := (startLau_sameSettings.trans (startBlocks_claim (s := s)).read.sameSettings).trans
    (begun_sameSettings (s.startLau samples).startScreens.startPumps)
  rw [← startBlocks_eq] at settings
  exact settings.sectionValues x i fun _ p => by rw [startBlocks_pump, Pump.started_counters]

/-- The notices of the queue stay in front of those of the screens found jammed, there being room for these. -/
theorem startBlocks_notices (room : s.slp.notices.length ≤ 26) :
    ∃ q, (s.startBlocks samples).slp.notices = s.slp.notices ++ q := by
  rw [startBlocks_slp, Slp.start_notices, State.startScreens]
  have six : allScreens.length = 6 := rfl
  exact startScreens_notices allScreens (s.startLau samples) (by rw [startLau_slp]; omega)

/-- Settings and flags of the link that no notice and no outcome changes. -/
theorem startBlocks_link : ∃ l : Slp, (s.startBlocks samples).slp = l.start ∧ l.sansNews = s.slp.sansNews :=
  ⟨_, startBlocks_slp, (startScreens_claim _).link.slp⟩

theorem Pump.started_run (time : PumpClass → Nat) (q : Pump) :
    (q.started time).run = (q.started time).state.commanded := by
  unfold Pump.started
  split
  · dsimp only; split <;> rfl
  · rfl

theorem Screen.started_idle (sc : Screen) : sc.started.state.isWashing = false := by
  cases hin : sc.inService <;> cases hj : sc.jam <;> simp [Screen.started, hin, hj, ScreenState.isWashing]

/-- No screen is washing and no pump runs at the beginning; the header is as it was. -/
theorem startBlocks_outputsAgree (h : s.swc.sluv = s.swc.sluicing) (k : s.swc.hprg = decide (s.swc.purge = .active)) :
    (s.startBlocks samples).OutputsAgree := by
  have header := startBlocks_header (s := s) (samples := samples)
  simp only [Swc.header, Prod.mk.injEq] at header
  obtain ⟨sluicing, sluv, purge, hprg⟩ := header
  refine ⟨fun n => ?_, fun p => ?_, by rw [sluicing, sluv, h], by rw [hprg, purge, k]⟩
  · rw [startBlocks_screen, Screen.started_idle]
    exact ⟨rfl, rfl⟩
  · rw [startBlocks_pump, Pump.started_run]

end Sys2Proof.Machine
end

section
/-! PROOFS. The end of LOADING with the defaults (R192..R194): O14. -/

namespace Sys2Proof.Machine

variable {s v : State} {answers : Bool} {samples : Vector Nat 12} {e : ImageError}

/-! ## The settings taken -/

/-- No save being carried over, the settings are taken and the blocks start. -/
theorem loadingEnd_starts (hp : s.phase = .loading) (hs : s.slp.save = none) :
    exec (.loadingEnd ⟨answers, samples⟩) s = .next ((s.takeSettings answers).startBlocks samples) := by
  have kept : s.onSlp Slp.finishSave = s := by simp [State.onSlp, Slp.finishSave, hs]
  show execLoadingEnd _ s = _
  rw [execLoadingEnd, if_pos hp, kept]

theorem takeSettings_strap (h : s.slp.fromImage = false) : s.takeSettings answers = s := by
  simp [State.takeSettings, h]

theorem takeSettings_image (h : s.slp.fromImage = true) : s.takeSettings answers = s.loadImage answers := if_pos h

theorem loadImage_error (h : readImage s.slp.memory answers = .error e) :
    s.loadImage answers = s.notify .fault .configImageBad 0 0 (e.code : Nat) e.sec := by
  simp [State.loadImage, h]

theorem readImage_noAnswer (m : List Byte) : readImage m false = .error ⟨1, -1⟩ := rfl

theorem readImage_format {m : List Byte} (h : byteAt m 0 ≠ 0x01#8) : readImage m true = .error ⟨2, -1⟩ := by
  simp [readImage, h]

theorem readImage_length {m : List Byte} (h : byteAt m 0 = 0x01#8) (hl : 2048 < numberOf (bytesAt m 1 2)) :
    readImage m true = .error ⟨3, -1⟩ := by
  simp [readImage, h, hl]

theorem numberOf_pair (m : List Byte) :
    numberOf (bytesAt m 1 2) = (m.getD 1 0xFF#8).toNat * 256 + (m.getD 2 0xFF#8).toNat := by
  simp [bytesAt, List.range', numberOf, byteAt]

/-! ## The defaults -/

/-- The blocks are as they were but for a notice at the front of the queue: the settings stand at the defaults. -/
structure State.Defaulted (s v : State) : Prop where
  lau : v.lau = s.lau
  swc : v.swc = s.swc
  pdc : v.pdc = s.pdc
  link : v.slp.sansNews = s.slp.sansNews
  settings : ∀ x i, v.sectionValues x i = s.sectionValues x i
  few : v.slp.notices.length ≤ 1

theorem atStartUp_news (h : s.AtStartUp) : s.slp.notices = [] ∧ s.stamp = 0 := by
  obtain ⟨-, -, -, -, hl⟩ := h
  have unset : s.slp.timeSet = false := (congrArg Slp.timeSet hl :)
  exact ⟨(congrArg Slp.notices hl :), by simp [State.stamp, unset]⟩

theorem defaulted_refl (h : s.AtStartUp) : s.Defaulted s :=
  ⟨rfl, rfl, rfl, rfl, fun _ _ => rfl, by rw [(atStartUp_news h).1]; exact Nat.zero_le 1⟩

theorem notify_front (h : s.AtStartUp) (x y : Int) :
    (s.notify .fault .configImageBad 0 0 x y).slp.notices = [⟨.fault, .configImageBad, 0, 0, x, y, 0⟩] := by
  obtain ⟨empty, stamp⟩ := atStartUp_news h
  rw [State.notify_room _ _ _ _ _ _ _ (by rw [empty]; decide), empty, stamp]
  rfl

theorem defaulted_notify (h : s.AtStartUp) (x y : Int) : s.Defaulted (s.notify .fault .configImageBad 0 0 x y) := by
  have claim := (State.notify_duty s .fault .configImageBad 0 0 x y fun _ => False).claim
  exact ⟨rfl, rfl, rfl, claim.link.slp, fun x i => claim.read.sameSettings.sectionValues x i fun _ _ => rfl,
    by rw [notify_front h]; exact Nat.le_refl 1⟩

/-! ## The blocks of a part with the defaults -/

theorem atStartUp_screen (h : s.AtStartUp) (n : ScreenId) : s.screen n = { jam := (s.screen n).jam } := by
  obtain ⟨-, -, hw, -, -⟩ := h
  exact (congrArg (fun w : Swc => w.screens[n]) hw).trans (by simp)

theorem atStartUp_pump (h : s.AtStartUp) (p : PumpId) :
    s.pump p = { cls := if p.val < 6 then .large else .small
                 feedback := (s.pump p).feedback, trip := (s.pump p).trip } := by
  obtain ⟨-, -, -, hd, -⟩ := h
  exact (congrArg (fun d : Pdc => d.pumps[p]) hd).trans (by simp)

/-- The LAU begins a scan whatever settings it has taken (R1). -/
theorem startLau_scan (v : State) : (v.startLau samples).lau.timer = 0
    ∧ (v.startLau samples).lau.period = v.lau.interval ∧ (v.startLau samples).lau.interval = v.lau.interval
    ∧ (v.startLau samples).lau.scan = some ⟨samples, 0, 0⟩ ∧ (v.startLau samples).lau.record.scan = 0 :=
  ⟨rfl, rfl, rfl, rfl, rfl⟩

theorem startLau_margin (h : s.AtStartUp) (d : s.Defaulted v) (p : PumpId) :
    (v.startLau samples).lau.record.margins[p] = 1400 := by
  have pump : v.pump p = s.pump p := by simp [State.pump, d.pdc]
  have margin : (v.startLau samples).lau.record.margins[p] = marginOf 0 (v.pump p) := by simp [State.startLau]
  rw [margin, pump, atStartUp_pump h]
  rfl

theorem startLau_channel (h : s.AtStartUp) (d : s.Defaulted v) (c : ChannelId) :
    (v.startLau samples).lau.channels[c].health = .under ∧ (v.startLau samples).lau.channels[c].awaiting = true := by
  obtain ⟨hl, -⟩ := h
  have default : ∀ c : ChannelId, ({} : Lau).channels[c].enabled = true := by decide
  have enabled : v.lau.channels[c].enabled = true := by rw [d.lau, hl]; exact default c
  have started : (v.startLau samples).lau.channels[c] = v.lau.channels[c].start := by simp [State.startLau]
  rw [started, Channel.start, if_pos enabled, enabled]
  exact ⟨rfl, rfl⟩

theorem started_pump (h : s.AtStartUp) (d : s.Defaulted v) (p : PumpId) :
    ((v.pump p).started v.pdc.recoveryTime).state = .recovering
      ∧ ((v.pump p).started v.pdc.recoveryTime).recovery = if p.val < 6 then 600000 else 180000 := by
  have pump : v.pump p = s.pump p := by simp [State.pump, d.pdc]
  have times : v.pdc.recoveryTime .large = 600 ∧ v.pdc.recoveryTime .small = 180 := by
    obtain ⟨-, -, -, hd, -⟩ := h
    rw [d.pdc, hd]
    exact ⟨rfl, rfl⟩
  rw [pump, atStartUp_pump h]
  by_cases hp : p.val < 6 <;> simp [Pump.started, hp, times]

theorem started_screen (h : s.AtStartUp) (d : s.Defaulted v) (n : ScreenId) :
    (v.screen n).started.state = if (s.screen n).jam then .jammed else .idle := by
  have screen : v.screen n = s.screen n := by simp [State.screen, d.swc]
  rw [screen, atStartUp_screen h]
  rfl

theorem State.ClaimFrame.mode (h : s.ClaimFrame v) : v.pdc.mode = s.pdc.mode := (congrArg Pdc.mode h.pdc :)
theorem State.ClaimFrame.demand (h : s.ClaimFrame v) : v.pdc.demand = s.pdc.demand := (congrArg Pdc.demand h.pdc :)

theorem begun_mode (s : State) : s.begun.pdc.mode = s.pdc.mode := rfl
theorem begun_demand (s : State) : s.begun.pdc.demand = s.pdc.demand := rfl
theorem begun_due (s : State) : s.begun.pdc.evaluationDue = false := rfl

theorem startBlocks_duty (h : s.AtStartUp) (d : s.Defaulted v) : (v.startBlocks samples).pdc.mode = .auto
    ∧ (v.startBlocks samples).pdc.demand = 0 ∧ (v.startBlocks samples).pdc.evaluationDue = false := by
  have claim := startBlocks_claim (s := v) (samples := samples)
  have start : v.pdc.mode = .auto ∧ v.pdc.demand = 0 := by
    obtain ⟨-, -, -, hd, -⟩ := h
    rw [d.pdc, hd]
    exact ⟨rfl, rfl⟩
  rw [startBlocks_eq, begun_mode, begun_demand, begun_due]
  rw [claim.mode, claim.demand, startLau_pdc]
  exact ⟨start.1, start.2, rfl⟩

theorem startBlocks_timers (h : s.AtStartUp) (d : s.Defaulted v) : (v.startBlocks samples).slp.configDefaults = true
    ∧ (v.startBlocks samples).slp.supervising = true ∧ (v.startBlocks samples).slp.supervisionMs = 0
    ∧ (s.slp.tx = .free → (v.startBlocks samples).slp.rateInForce = 1) := by
  obtain ⟨l, started, hl⟩ := startBlocks_link (s := v) (samples := samples)
  have link := hl.trans d.link
  obtain ⟨-, -, -, -, start⟩ := h
  have flag : l.configDefaults = true := (congrArg Slp.configDefaults link :).trans (congrArg Slp.configDefaults start :)
  have supervision : l.supervision = 30 := (congrArg Slp.supervision link :).trans (congrArg Slp.supervision start :)
  have rate : l.rate = 1 := (congrArg Slp.rate link :).trans (congrArg Slp.rate start :)
  have tx : l.tx = s.slp.tx := (congrArg Slp.tx link :)
  obtain ⟨running, zero⟩ := l.start_supervising
  rw [started]
  exact ⟨l.start_configDefaults.trans flag, by rw [running, supervision]; rfl, zero,
    fun free => (l.start_rate (tx.trans free)).trans rate⟩

theorem defaulted_outputsAgree (h : s.AtStartUp) (d : s.Defaulted v) : (v.startBlocks samples).OutputsAgree := by
  obtain ⟨-, -, hw, -, -⟩ := h
  exact startBlocks_outputsAgree (by rw [d.swc, hw]) (by rw [d.swc, hw]; rfl)

/-- What LOADING ends with, the settings standing at their defaults. -/
theorem startBlocks_settings (d : s.Defaulted v) (x i : Nat) :
    (v.startBlocks samples).sectionValues x i = s.sectionValues x i :=
  (startBlocks_sectionValues x i).trans (d.settings x i)

/-- The notice of a bad image stands before those of the screens found jammed. -/
theorem startBlocks_head (h : s.AtStartUp) (x y : Int) :
    ((s.notify .fault .configImageBad 0 0 x y).startBlocks samples).slp.notices.head? =
      some ⟨.fault, .configImageBad, 0, 0, x, y, 0⟩ := by
  obtain ⟨q, hq⟩ := startBlocks_notices (s := s.notify .fault .configImageBad 0 0 x y) (samples := samples)
    (by rw [notify_front h, List.length_singleton]; omega)
  rw [hq, notify_front h]
  rfl

/-- Settles O14: the settings taken are the defaults, with a notice or without, and the blocks start from these. -/
theorem loadingEnds : Obligations.LoadingEnds := by
  unfold Obligations.LoadingEnds
  refine ⟨fun s answers samples hp h htx hs hc => ?_, fun s answers samples e hp h hi hs he => ?_⟩
  · have front (hi : s.slp.fromImage = true) :
        s.takeSettings answers = s.notify .fault .configImageBad 0 0 1 (-1) := by
      obtain rfl : answers = false := hc.resolve_left (by simp [hi])
      exact (takeSettings_image hi).trans (loadImage_error (readImage_noAnswer _))
    have d : s.Defaulted (s.takeSettings answers) := by
      cases hi : s.slp.fromImage with
      | false => rw [takeSettings_strap hi]; exact defaulted_refl h
      | true => rw [front hi]; exact defaulted_notify h _ _
    obtain ⟨mode, demand, due⟩ := startBlocks_duty (samples := samples) h d
    obtain ⟨flag, supervising, zero, rate⟩ := startBlocks_timers (samples := samples) h d
    obtain ⟨timer, period, interval, scan, number⟩ := startLau_scan (samples := samples) (s.takeSettings answers)
    have default : (s.takeSettings answers).lau.interval = 500 := by rw [d.lau, h.1]
    refine ⟨_, loadingEnd_starts hp hs, rfl, ?_⟩
    rw [startBlocks_lau]
    refine ⟨timer, period.trans default, interval.trans default, scan, number, startLau_margin h d, startLau_channel h d,
      fun p => ?_, fun n => ?_, flag, rate htx, supervising, zero, mode, demand, due, defaulted_outputsAgree h d,
      fun hi => ?_, startBlocks_settings d⟩
    · rw [startBlocks_pump]; exact started_pump h d p
    · rw [startBlocks_screen]; exact started_screen h d n
    · rw [front hi]; exact startBlocks_head h 1 (-1)
  · have front : s.takeSettings answers = s.notify .fault .configImageBad 0 0 (e.code : Nat) e.sec :=
      (takeSettings_image hi).trans (loadImage_error he)
    have d := defaulted_notify h (e.code : Nat) e.sec
    obtain ⟨timer, period, interval, scan, -⟩ :=
      startLau_scan (samples := samples) (s.notify .fault .configImageBad 0 0 (e.code : Nat) e.sec)
    have code {e' : ImageError} (k : readImage s.slp.memory answers = .error e') : e = e' :=
      Except.error.inj (he.symm.trans k)
    refine ⟨_, loadingEnd_starts hp hs, rfl, ?_⟩
    rw [front, startBlocks_lau]
    refine ⟨(startBlocks_timers h d).1, timer, period.trans interval.symm, scan, startBlocks_head h _ _,
      startBlocks_settings d, fun ha => ?_, fun ha h0 => ?_, fun ha h0 hl => ?_⟩
    · subst ha; rw [code (readImage_noAnswer _)]; exact ⟨rfl, rfl⟩
    · subst ha; rw [code (readImage_format h0)]; exact ⟨rfl, rfl⟩
    · subst ha; rw [code (readImage_length h0 (by rwa [numberOf_pair]))]; exact ⟨rfl, rfl⟩

end Sys2Proof.Machine
end

section
/-! PROOFS. Fields sent and read again (R166), and the bytes of a memory (R193). -/

namespace Sys2Proof.Machine

/-! ## One field -/

/-- The least value of a field. -/
def Width.least : Width → Int
  | .u8 | .u16 | .u32 => 0
  | .s16 => -32768
  | .s32 => -2147483648

/-- The greatest value of a field. -/
def Width.greatest : Width → Int
  | .u8 => 255
  | .u16 => 65535
  | .u32 => 4294967295
  | .s16 => 32767
  | .s32 => 2147483647

/-- A value lies within a field. -/
def Width.Holds (w : Width) (v : Int) : Prop := Width.least w ≤ v ∧ v ≤ Width.greatest w

theorem bytesOf_length : ∀ (n : Nat) (v : Int), (bytesOf n v).length = n
  | 0, _ => rfl
  | n + 1, v => congrArg (· + 1) (bytesOf_length n v)

theorem encodeField_length (w : Width) (v : Int) : (encodeField w v).length = w.bytes := bytesOf_length _ v

/-- The high digit and the digits below it. -/
theorem emod_mul_eq (v : Int) {a b : Int} (ha : 0 < a) (hb : 0 < b) : v / a % b * a + v % a = v % (a * b) := by
  refine (((Int.ediv_emod_unique (q := v / a / b) (Int.mul_pos ha hb)).2 ⟨?_, ?_, ?_⟩).2).symm
  · calc v / a % b * a + v % a + a * b * (v / a / b) = v % a + a * (v / a % b + b * (v / a / b)) := by ring
      _ = v := by rw [Int.emod_add_mul_ediv, Int.emod_add_mul_ediv]
  · exact Int.add_nonneg (Int.mul_nonneg (Int.emod_nonneg _ hb.ne') ha.le) (Int.emod_nonneg _ ha.ne')
  · have digit : v / a % b * a ≤ (b - 1) * a :=
      mul_le_mul_of_nonneg_right (by have := Int.emod_lt_of_pos (v / a) hb; omega) ha.le
    have low := Int.emod_lt_of_pos v ha
    calc v / a % b * a + v % a < (b - 1) * a + a := by omega
      _ = a * b := by ring

theorem foldl_bytesOf (v : Int) : ∀ (n acc : Nat),
    (((bytesOf n v).foldl (fun acc b => acc * 256 + b.toNat) acc : Nat) : Int) = acc * 256 ^ n + v % 256 ^ n
  | 0, acc => by simp [bytesOf]
  | n + 1, acc => by
    have pos : (0 : Int) < 256 ^ n := by positivity
    have digit : ((BitVec.ofInt 8 (v / (256 ^ n : Nat))).toNat : Int) = v / 256 ^ n % 256 := by
      rw [BitVec.toNat_ofInt, Int.toNat_of_nonneg (Int.emod_nonneg _ (by decide))]
      simp
    rw [bytesOf, List.foldl_cons, foldl_bytesOf v n, Nat.cast_add, digit, Nat.cast_mul, pow_succ,
      ← emod_mul_eq v pos (by decide : (0 : Int) < 256)]
    push_cast
    ring

/-- The bytes of a number spell it, but for what lies above them. -/
theorem numberOf_bytesOf (n : Nat) (v : Int) : (numberOf (bytesOf n v) : Int) = v % 256 ^ n := by
  rw [numberOf, foldl_bytesOf, Nat.cast_zero, zero_mul, zero_add]

/-- A value that a field holds is read back from it. -/
theorem fieldValue_encodeField (w : Width) {v : Int} (h : Width.Holds w v) : fieldValue w (encodeField w v) = v := by
  obtain ⟨lo, hi⟩ := h
  have number : (numberOf (encodeField w v) : Int) = v % 256 ^ w.bytes := numberOf_bytesOf _ v
  cases w <;> simp only [Width.least, Width.greatest, Width.bytes] at lo hi number <;> norm_num at number <;>
    simp only [fieldValue]
  case u8 | u16 | u32 => omega
  case s16 | s32 => split <;> omega

theorem takeField_encodeField (w : Width) {v : Int} (h : Width.Holds w v) (r : List Byte) :
    takeField w (encodeField w v ++ r) = some (v, r) := by
  have len := encodeField_length w v
  rw [takeField, if_pos (by rw [List.length_append]; omega), ← len, List.take_left, List.drop_left,
    fieldValue_encodeField w h]

/-! ## Fields one after another -/

/-- Fields that hold their values are read back, with what stands after them. -/
theorem takeFields_encodeFields {ws : List Width} {vs : List Int} (h : List.Forall₂ Width.Holds ws vs) (r : List Byte) :
    takeFields ws (encodeFields (ws.zip vs) ++ r) = some (vs, r) := by
  induction h with
  | nil => rfl
  | cons hv _ ih =>
    simp only [List.zip_cons_cons, encodeFields_cons, List.append_assoc, takeFields, takeField_encodeField _ hv, ih]

theorem encodeFields_length : ∀ {ws : List Width} {vs : List Int}, vs.length = ws.length →
    (encodeFields (ws.zip vs)).length = (ws.map Width.bytes).sum
  | [], [], _ => rfl
  | w :: ws, v :: vs, h => by
    rw [List.zip_cons_cons, encodeFields_cons, List.length_append, encodeField_length,
      encodeFields_length (Nat.succ.inj h), List.map_cons, List.sum_cons]

/-! ## Bytes of a memory -/

theorem byteAt_append (pre : List Byte) (b : Byte) (post : List Byte) : byteAt (pre ++ b :: post) pre.length = b := by
  simp [byteAt]

theorem bytesAt_cons (m : List Byte) (a n : Nat) : bytesAt m a (n + 1) = byteAt m a :: bytesAt m (a + 1) n := by
  simp [bytesAt, List.range'_succ]

/-- Bytes that stand in the memory are read from their address on. -/
theorem bytesAt_append (post : List Byte) : ∀ (mid pre : List Byte),
    bytesAt (pre ++ mid ++ post) pre.length mid.length = mid
  | [], _ => rfl
  | b :: mid, pre => by
    have rest := bytesAt_append post mid (pre ++ [b])
    rw [List.length_append, List.length_singleton] at rest
    have split : pre ++ b :: mid ++ post = pre ++ [b] ++ mid ++ post := by simp
    have first : byteAt (pre ++ b :: mid ++ post) pre.length = b := by
      rw [List.append_assoc]; exact byteAt_append pre b (mid ++ post)
    rw [List.length_cons, bytesAt_cons, first, split, rest]

theorem bytesAt_of_append {m pre mid post : List Byte} (h : m = pre ++ mid ++ post) {a n : Nat} (ha : pre.length = a)
    (hn : mid.length = n) : bytesAt m a n = mid := by
  subst h ha hn
  exact bytesAt_append post mid pre

end Sys2Proof.Machine
end

section
/-! PROOFS. A saved image is read back whole (R193, R195). -/

namespace Sys2Proof.Machine

variable {u : State}

/-! ## The sections and indices of an image -/

/-- The items that an image holds, section by section (R193). -/
inductive ImageItem : Nat × Nat → Prop
  | channel (c : ChannelId) : ImageItem (0, c.val)
  | levels : ImageItem (1, 0)
  | trend : ImageItem (2, 0)
  | band (b : BandId) : ImageItem (3, b.val + 1)
  | reminder : ImageItem (4, 0)
  | screen (n : ScreenId) : ImageItem (5, n.val + 1)
  | wash : ImageItem (6, 0)
  | pump (p : PumpId) : ImageItem (7, p.val + 1)
  | duty : ImageItem (8, 0)
  | order : ImageItem (9, 0)
  | link : ImageItem (10, 0)
  | counters (p : PumpId) : ImageItem (11, p.val + 1)

theorem index_of_mem_range' {n i : Nat} (h : i ∈ List.range' 1 n) : ∃ k : Fin n, i = k.val + 1 := by
  rw [List.mem_range'_1] at h
  exact ⟨⟨i - 1, by omega⟩, by show i = i - 1 + 1; omega⟩

theorem mem_imageKeys {x i : Nat} : (x, i) ∈ imageKeys ↔ x < 12 ∧ i ∈ sectionIndices x := by
  simp [imageKeys]

theorem imageItem_of_mem {k : Nat × Nat} (h : k ∈ imageKeys) : ImageItem k := by
  obtain ⟨x, i⟩ := k
  obtain ⟨hx, hi⟩ := mem_imageKeys.1 h
  match x with
  | 0 => exact .channel ⟨i, List.mem_range.1 hi⟩
  | 3 => obtain ⟨b, rfl⟩ := index_of_mem_range' hi; exact .band b
  | 5 => obtain ⟨n, rfl⟩ := index_of_mem_range' hi; exact .screen n
  | 7 => obtain ⟨p, rfl⟩ := index_of_mem_range' hi; exact .pump p
  | 11 => obtain ⟨p, rfl⟩ := index_of_mem_range' hi; exact .counters p
  | 1 => obtain rfl := List.mem_singleton.1 hi; exact .levels
  | 2 => obtain rfl := List.mem_singleton.1 hi; exact .trend
  | 4 => obtain rfl := List.mem_singleton.1 hi; exact .reminder
  | 6 => obtain rfl := List.mem_singleton.1 hi; exact .wash
  | 8 => obtain rfl := List.mem_singleton.1 hi; exact .duty
  | 9 => obtain rfl := List.mem_singleton.1 hi; exact .order
  | 10 => obtain rfl := List.mem_singleton.1 hi; exact .link
  | _ + 12 => omega

theorem itemValues_succ {α : Type} {n : Nat} (v : Vector α n) (k : Fin n) (f : α → List Int) :
    itemValues v (k.val + 1) f = f v[k] := by
  rw [itemValues, index1_succ]

/-- Every item has as many values as its section has fields. -/
theorem sectionValues_length (u : State) {k : Nat × Nat} (h : ImageItem k) :
    (u.sectionValues k.1 k.2).length = (sectionWidths k.1).length := by
  cases h with
  | channel c => exact congrArg List.length (itemValues_succ u.lau.channels c _)
  | band b => exact congrArg List.length (itemValues_succ u.twu.bands b _)
  | screen n => exact congrArg List.length (itemValues_succ u.swc.screens n _)
  | pump p => exact congrArg List.length (itemValues_succ u.pdc.pumps p _)
  | counters p => exact congrArg List.length (itemValues_succ u.pdc.pumps p _)
  | order => simp [State.sectionValues, sectionWidths]
  | levels | trend | reminder | wash | duty | link => rfl

/-! ## Every setting within its range is within its field -/

/-- Every value that passes a test is held by a field. -/
def TestFits (t : Int → Bool) (w : Width) : Prop := ∀ v, t v = true → Width.Holds w v

theorem holds_of_allowed {ts : List (Int → Bool)} {ws : List Width} (h : List.Forall₂ TestFits ts ws) :
    ∀ {vs : List Int}, vs.length = ws.length → allowed ts vs = true → List.Forall₂ Width.Holds ws vs := by
  induction h with
  | nil => intro vs len _; obtain rfl := List.length_eq_zero_iff.1 len; exact .nil
  | cons hw _ ih =>
    intro vs len ok
    obtain _ | ⟨v, vs⟩ := vs
    · cases len
    · simp only [allowed, List.zip_cons_cons, List.all_cons, Bool.and_eq_true] at ok
      exact .cons (hw v ok.1) (ih (Nat.succ.inj len) ok.2)

theorem within_fits {lo hi : Int} {w : Width} (h : Width.least w ≤ lo ∧ hi ≤ Width.greatest w) :
    TestFits (within lo hi) w := by
  intro v hv
  obtain ⟨hl, hh⟩ := of_decide_eq_true hv
  exact ⟨h.1.trans hl, hh.trans h.2⟩

theorem offOrWithin_fits {lo hi : Int} {w : Width} (h : Width.least w ≤ 0 ∧ 0 ≤ lo ∧ 0 ≤ hi ∧ hi ≤ Width.greatest w) :
    TestFits (offOrWithin lo hi) w := by
  intro v hv
  obtain ⟨h0, hl, hz, hh⟩ := h
  rcases Bool.or_eq_true_iff.1 hv with zero | range
  · obtain rfl := of_decide_eq_true zero
    exact ⟨h0, hz.trans hh⟩
  · exact within_fits ⟨h0.trans hl, hh⟩ v range

theorem and_fits {t p : Int → Bool} {w : Width} (h : TestFits t w) : TestFits (fun v => t v && p v) w :=
  fun v hv => h v (Bool.and_eq_true_iff.1 hv).1

theorem or_eq_fits {t : Int → Bool} {w : Width} {c : Int} (h : TestFits t w) (hc : Width.Holds w c) :
    TestFits (fun v => t v || decide (v = c)) w := by
  intro v hv
  rcases Bool.or_eq_true_iff.1 hv with range | eq
  · exact h v range
  · obtain rfl := of_decide_eq_true eq; exact hc

theorem oneOf_fits {l : List Int} {w : Width} (h : ∀ v ∈ l, Width.least w ≤ v ∧ v ≤ Width.greatest w) :
    TestFits (oneOf l) w :=
  fun v hv => h v (of_decide_eq_true hv)

/-- The ranges and lists of a section are within its fields; the duty order and the counters have none. -/
theorem sectionTests_fit (x : Nat) (h9 : x ≠ 9) (h11 : x < 11) :
    List.Forall₂ TestFits (sectionTests x) (sectionWidths x) := by
  match x with
  | 4 => exact .cons (offOrWithin_fits (by decide)) .nil
  | 0 | 2 | 5 | 6 | 7 | 8 =>
    repeat' constructor
    any_goals exact within_fits (by decide)
    all_goals exact offOrWithin_fits (by decide)
  | 1 =>
    repeat' constructor
    any_goals exact within_fits (by decide)
    exact and_fits (within_fits (by decide))
  | 3 =>
    show List.Forall₂ TestFits _ bandWidths
    unfold bandWidths
    repeat' constructor
    any_goals exact within_fits (by decide)
    exact or_eq_fits (within_fits (by decide)) (by constructor <;> decide)
  | 10 =>
    repeat' constructor
    any_goals exact within_fits (by decide)
    · exact oneOf_fits (by decide)
    all_goals exact offOrWithin_fits (by decide)
  | 9 => exact absurd rfl h9

theorem allowed_of_settingsValid {x : Nat} {vs : List Int} (h : settingsValid x vs = true) :
    allowed (sectionTests x) vs = true :=
  (Bool.and_eq_true_iff.1 h).1

theorem holds_of_forall {vs : List Int} {w : Width} (h : ∀ v ∈ vs, Width.Holds w v) :
    List.Forall₂ Width.Holds (List.replicate vs.length w) vs := by
  induction vs with
  | nil => exact .nil
  | cons v vs ih => exact .cons (h v List.mem_cons_self) (ih fun x hx => h x (List.mem_cons_of_mem _ hx))

/-- A pump number is a byte. -/
theorem orderValues_hold (u : State) : List.Forall₂ Width.Holds (sectionWidths 9) (u.sectionValues 9 0) := by
  have bytes : ∀ v ∈ u.sectionValues 9 0, Width.Holds .u8 v := by
    intro v hv
    obtain ⟨p, -, rfl⟩ := List.mem_map.1 hv
    have := p.2
    exact ⟨by simp only [Width.least]; omega, by simp only [Width.greatest]; omega⟩
  have eight : (u.sectionValues 9 0).length = 8 := sectionValues_length u .order
  have h := holds_of_forall bytes
  rwa [eight] at h

/-- Seconds and starts are within their fields (R193). -/
theorem counters_hold {q : Pump} (run : q.runMs ≤ 4294967295999) (starts : q.starts ≤ 65535) :
    List.Forall₂ Width.Holds (sectionWidths 11) q.counters := by
  have seconds : Width.Holds .u32 (q.runMs / 1000 : Nat) :=
    ⟨by simp only [Width.least]; omega, by simp only [Width.greatest]; omega⟩
  have count : Width.Holds .u16 q.starts := ⟨by simp only [Width.least]; omega, by simp only [Width.greatest]; omega⟩
  exact .cons seconds (.cons count .nil)

/-- Sound settings and counters are held by the fields of their sections. -/
theorem sectionValues_hold (h : u.SettingsSound) {k : Nat × Nat} (hk : k ∈ imageKeys) :
    List.Forall₂ Width.Holds (sectionWidths k.1) (u.sectionValues k.1 k.2) := by
  obtain ⟨settings, pumps⟩ := h
  have item := imageItem_of_mem hk
  have tested (h9 : k.1 ≠ 9) (h11 : k.1 < 11) :=
    holds_of_allowed (sectionTests_fit k.1 h9 h11) (sectionValues_length u item)
      (allowed_of_settingsValid (settings k hk))
  cases item with
  | order => exact orderValues_hold u
  | counters p =>
    show List.Forall₂ _ _ (itemValues u.pdc.pumps (p.val + 1) Pump.counters)
    rw [itemValues_succ]
    exact counters_hold (pumps p).1 (pumps p).2
  | channel | band | screen | pump | levels | trend | reminder | wash | duty | link =>
    exact tested (Nat.ne_of_beq_eq_false rfl) (Nat.le_of_ble_eq_true rfl)

end Sys2Proof.Machine
end

section
/-! PROOFS. The checks of an image, passed by one that a save wrote (R193). -/

namespace Sys2Proof.Machine

variable {u : State}

/-! ## The records -/

/-- The record of an item, as it is read. -/
def State.recordOf (u : State) (k : Nat × Nat) : Record := ⟨k.1, k.2, u.sectionValues k.1 k.2⟩

/-- The record of an item, as it is written. -/
def State.recordBytes (u : State) (k : Nat × Nat) : List Byte :=
  natField .u8 k.1 ++ natField .u8 k.2 ++ u.sectionBytes k.1 k.2

theorem imageRecords_eq : u.imageRecords = imageKeys.flatMap u.recordBytes := rfl

theorem natField_byte (n : Nat) : natField .u8 n = [BitVec.ofNat 8 n] := by
  show [BitVec.ofInt 8 ((n : Int) / (256 ^ 0 : Nat))] = _
  rw [pow_zero, Nat.cast_one, Int.ediv_one, BitVec.ofInt_natCast]

theorem natField_byte_toNat {n : Nat} (h : n < 256) : (BitVec.ofNat 8 n).toNat = n := by
  rw [BitVec.toNat_ofNat]; exact Nat.mod_eq_of_lt h

/-- Sections and indices are bytes. -/
theorem imageKeys_small : ∀ k ∈ imageKeys, k.1 < 256 ∧ k.2 < 256 := by decide

theorem recordBytes_length {k : Nat × Nat} (h : k ∈ imageKeys) :
    (u.recordBytes k).length = 2 + ((sectionWidths k.1).map Width.bytes).sum := by
  have fields : (u.sectionBytes k.1 k.2).length = _ := encodeFields_length (sectionValues_length u (imageItem_of_mem h))
  rw [State.recordBytes, natField_byte, natField_byte, List.length_append, fields]
  rfl

theorem imageRecords_length (u : State) : u.imageRecords.length = 522 := by
  have lengths : imageKeys.map (fun k => (u.recordBytes k).length) =
      imageKeys.map fun k => 2 + ((sectionWidths k.1).map Width.bytes).sum :=
    List.map_congr_left fun k hk => recordBytes_length hk
  rw [imageRecords_eq, List.length_flatMap, lengths]
  decide

/-- One record is read and checked; the others follow (checks 5, 6 and 7). -/
theorem readRecords_cons (h : u.SettingsSound) {k : Nat × Nat} (hk : k ∈ imageKeys) (fuel : Nat) (ks : List (Nat × Nat))
    (rest : List Byte) : readRecords (fuel + 1) (k :: ks) (u.recordBytes k ++ rest) =
      match readRecords fuel ks rest with
      | .ok rs => .ok (u.recordOf k :: rs)
      | .error e => .error e := by
  obtain ⟨hx, hi⟩ := imageKeys_small k hk
  have index : k.2 ∈ sectionIndices k.1 := (mem_imageKeys.1 hk).2
  have fields : takeFields (sectionWidths k.1) (u.sectionBytes k.1 k.2 ++ rest) =
      some (u.sectionValues k.1 k.2, rest) :=
    takeFields_encodeFields (sectionValues_hold h hk) rest
  have valid : settingsValid k.1 (u.sectionValues k.1 k.2) = true := h.1 k hk
  have bytes : u.recordBytes k ++ rest =
      BitVec.ofNat 8 k.1 :: BitVec.ofNat 8 k.2 :: (u.sectionBytes k.1 k.2 ++ rest) := by
    rw [State.recordBytes, natField_byte, natField_byte]
    rfl
  rw [bytes, readRecords, natField_byte_toNat hx, natField_byte_toNat hi, if_pos index, fields]
  simp only [valid, Bool.not_true, if_false, if_true, Bool.false_eq_true, State.recordOf] <;> rfl

/-- Records written in the order of the image are all read. -/
theorem readRecords_image (h : u.SettingsSound) : ∀ (keys : List (Nat × Nat)) (fuel : Nat), keys ⊆ imageKeys →
    keys.length ≤ fuel → readRecords fuel keys (keys.flatMap u.recordBytes) = .ok (keys.map u.recordOf)
  | [], fuel, _, _ => by cases fuel <;> rfl
  | k :: ks, fuel + 1, sub, len => by
    obtain ⟨hk, hks⟩ := List.cons_subset.1 sub
    rw [List.flatMap_cons, readRecords_cons h hk, readRecords_image h ks fuel hks (Nat.le_of_succ_le_succ len)]
    rfl

/-! ## The image -/

/-- The number of bytes that the records take. -/
def State.lengthField (u : State) : List Byte := natField .u16 u.imageRecords.length

/-- The bytes that the CRC covers: the format number, the length and the records. -/
def State.imageBody (u : State) : List Byte := [0x01#8] ++ u.lengthField ++ u.imageRecords

/-- The CRC of an image. -/
def State.crcField (u : State) : List Byte := natField .u16 (crc16 u.imageBody).toNat

theorem image_eq : u.image = u.imageBody ++ u.crcField := rfl

theorem lengthField_length (u : State) : u.lengthField.length = 2 := encodeField_length _ _

theorem crcField_length (u : State) : u.crcField.length = 2 := encodeField_length _ _

theorem imageBody_length (u : State) : u.imageBody.length = 525 := by
  rw [State.imageBody, List.length_append, List.length_append, lengthField_length, imageRecords_length]
  rfl

theorem numberOf_lengthField (u : State) : numberOf u.lengthField = 522 := by
  rw [State.lengthField, imageRecords_length]
  decide

/-- Where the parts of an image stand in a memory that begins with it. -/
theorem bytesAt_image (u : State) (rest : List Byte) : bytesAt (u.image ++ rest) 1 2 = u.lengthField
    ∧ bytesAt (u.image ++ rest) 0 525 = u.imageBody ∧ bytesAt (u.image ++ rest) 525 2 = u.crcField
    ∧ bytesAt (u.image ++ rest) 3 522 = u.imageRecords := by
  refine ⟨bytesAt_of_append (pre := [0x01#8]) (post := u.imageRecords ++ u.crcField ++ rest) ?_ rfl (lengthField_length u),
    bytesAt_of_append (pre := []) (post := u.crcField ++ rest) ?_ rfl (imageBody_length u),
    bytesAt_of_append (pre := u.imageBody) (post := rest) ?_ (imageBody_length u) (crcField_length u),
    bytesAt_of_append (pre := [0x01#8] ++ u.lengthField) (post := u.crcField ++ rest) ?_ ?_ (imageRecords_length u)⟩
  · simp only [image_eq, State.imageBody, List.append_assoc]
  · simp only [image_eq, List.append_assoc, List.nil_append]
  · rw [image_eq]
  · simp only [image_eq, State.imageBody, List.append_assoc]
  · rw [List.length_append, lengthField_length]; rfl

/-- A memory that begins with a saved image passes every check (R193, R195). -/
theorem readImage_image (h : u.SettingsSound) (rest : List Byte) :
    readImage (u.image ++ rest) true = .ok (imageKeys.map u.recordOf) := by
  obtain ⟨length, body, crc, records⟩ := bytesAt_image u rest
  have format : byteAt (u.image ++ rest) 0 = 0x01#8 := rfl
  have covered : encodeField .u16 (crc16 u.imageBody).toNat = u.crcField := rfl
  have read := readRecords_image h imageKeys 522 (List.Subset.refl _) (by decide)
  rw [← imageRecords_eq] at read
  rw [readImage, length, numberOf_lengthField, format]
  simp only [Nat.reduceAdd, Nat.reduceLT, body, crc, records, covered, read, Bool.not_true, Bool.false_eq_true, ne_eq,
    not_true_eq_false, if_false]

end Sys2Proof.Machine
end

section
/-! PROOFS. An image applied (R194), and the settings that a part gets back from it: O15. -/

namespace Sys2Proof.Machine

variable {s u : State} {k m : Nat × Nat}

/-! ## Values loaded -/

theorem flag_isOne (b : Bool) : flag (decide ((flag b : Int) = 1)) = flag b := by cases b <;> rfl

theorem Channel.load_values (a b : Channel) : (a.load b.values).values = b.values := by
  simp only [Channel.load, Channel.values, Int.toNat_natCast, flag_isOne]

theorem Screen.load_values (a b : Screen) : (a.load b.values).values = b.values := by
  simp only [Screen.load, Screen.values, Int.toNat_natCast, flag_isOne]

theorem toPumpClass_code (c : PumpClass) : toPumpClass c.code = some c := by cases c <;> rfl

theorem Pump.load_values (a b : Pump) : (a.load b.values).values = b.values := by
  simp only [Pump.load, Pump.values, Int.toNat_natCast, flag_isOne, toPumpClass_code, Option.getD_some]

theorem Pump.loadCounters_counters (a b : Pump) : (a.loadCounters b.counters).counters = b.counters := by
  simp only [Pump.loadCounters, Pump.counters, Int.toNat_natCast, Nat.mul_div_cancel _ (by decide : 0 < 1000)]

theorem Pump.load_counters (a b : Pump) : (a.load b.values).counters = a.counters := rfl

theorem Pump.loadCounters_values (a b : Pump) : (a.loadCounters b.counters).values = a.values := rfl

theorem toQuantity_code (q : Quantity) : toQuantity q.code = some q := by cases q <;> rfl
theorem toRank_code (r : Rank) : toRank r.code = some r := by cases r <;> rfl
theorem toMode_code (m : WashMode) : toMode m.code = some m := by cases m <;> rfl
theorem toBandClass_code (c : BandClass) : toBandClass c.code = some c := by cases c <;> rfl

/-- A code that stands for a cap is the code of that cap. -/
theorem capCode_toCap {v : Nat} (h : v ≤ 8 ∨ v = 255) : capCode (toCap v) = v := by
  rcases h with h | rfl
  · rw [toCap, if_neg (by omega)]; exact Nat.min_eq_left h
  · rfl

theorem Band.load_values (a : Band) {b : Band} (h : capCode b.cap ≤ 8 ∨ capCode b.cap = 255) :
    (a.load b.values).values = b.values := by
  simp only [Band.load, Band.values, Int.toNat_natCast, flag_isOne, toQuantity_code, toRank_code, toMode_code,
    toBandClass_code, Option.getD_some, capCode_toCap h]

/-- A sound band has a cap of 0 to 8 or NONE (R48). -/
theorem bandCap_sound (h : u.SettingsSound) (b : BandId) :
    capCode u.twu.bands[b].cap ≤ 8 ∨ capCode u.twu.bands[b].cap = 255 := by
  have hb : (3, b.val + 1) ∈ imageKeys := mem_imageKeys.2 ⟨by decide, List.mem_range'_1.2 (by omega)⟩
  have ok := allowed_of_settingsValid (h.1 _ hb)
  rw [show u.sectionValues 3 (b.val + 1) = u.twu.bands[b].values from itemValues_succ _ b _] at ok
  simp only [allowed, sectionTests, Band.values, List.zip_cons_cons, List.all_cons, Bool.and_eq_true, Bool.or_eq_true,
    within, decide_eq_true_eq] at ok
  obtain ⟨-, -, -, -, -, -, cap, -⟩ := ok
  omega

/-! ## The duty order -/

theorem mapM_index1 (l : List PumpId) : (l.map fun p => p.val + 1).mapM (index1 8) = some l := by
  induction l with
  | nil => rfl
  | cons p l ih => rw [List.map_cons, List.mapM_cons, index1_succ, ih]; rfl

theorem toOrder_eight (a b c d e f g i : PumpId) : toOrder ([a, b, c, d, e, f, g, i].map fun p => p.val + 1) =
    if [a, b, c, d, e, f, g, i].Nodup then some #v[a, b, c, d, e, f, g, i] else none := by
  rw [toOrder, mapM_index1]

/-- Numbers that make a duty order are those of its pumps (R134). -/
theorem toOrder_numbers (o : Vector PumpId 8) (h : (toOrder (o.toList.map fun p => p.val + 1)).isSome = true) :
    toOrder (o.toList.map fun p => p.val + 1) = some o := by
  obtain ⟨⟨l⟩, len⟩ := o
  match l, len with
  | [a, b, c, d, e, f, g, i], _ =>
    have eight := toOrder_eight a b c d e f g i
    by_cases distinct : [a, b, c, d, e, f, g, i].Nodup
    · exact eight.trans (if_pos distinct)
    · cases h.symm.trans (congrArg Option.isSome (eight.trans (if_neg distinct)))

theorem orderValues_toNat (u : State) :
    (u.sectionValues 9 0).map Int.toNat = u.pdc.order.toList.map fun p => p.val + 1 := by
  simp [State.sectionValues]

theorem order_sound (h : u.SettingsSound) : toOrder ((u.sectionValues 9 0).map Int.toNat) = some u.pdc.order := by
  have ok : settingsValid 9 (u.sectionValues 9 0) = true := h.1 (9, 0) (by decide)
  have some := (Bool.and_eq_true_iff.1 ok).2
  rw [orderValues_toNat]
  refine toOrder_numbers _ ?_
  rw [← orderValues_toNat]
  exact some

/-! ## One record applied -/

theorem itemValues_set {α : Type} {n : Nat} (v : Vector α n) (k : Fin n) (a : α) (f : α → List Int) :
    itemValues (v.set k a) (k.val + 1) f = f a := by
  rw [itemValues_succ]; simp

theorem itemValues_set_ne {α : Type} {n : Nat} (v : Vector α n) {k j : Fin n} (h : k ≠ j) (a : α) (f : α → List Int) :
    itemValues (v.set k a) (j.val + 1) f = itemValues v (j.val + 1) f := by
  have ne : k.val ≠ j.val := fun e => h (Fin.ext e)
  rw [itemValues_succ, itemValues_succ]; simp [ne]

theorem applyRecord_channel (c : ChannelId) :
    s.applyRecord (u.recordOf (0, c.val)) = s.onChannel c fun ch => ch.load u.lau.channels[c].values := by
  have values : u.sectionValues 0 c.val = u.lau.channels[c].values := itemValues_succ _ c _
  simp only [State.applyRecord, State.recordOf, index0_val, values]

theorem applyRecord_band (b : BandId) :
    s.applyRecord (u.recordOf (3, b.val + 1)) = s.onBand b fun bd => bd.load u.twu.bands[b].values := by
  have values : u.sectionValues 3 (b.val + 1) = u.twu.bands[b].values := itemValues_succ _ b _
  simp only [State.applyRecord, State.recordOf, index1_succ, values]

theorem applyRecord_screen (n : ScreenId) :
    s.applyRecord (u.recordOf (5, n.val + 1)) = s.onScreen n fun sc => sc.load (u.screen n).values := by
  have values : u.sectionValues 5 (n.val + 1) = (u.screen n).values := itemValues_succ _ n _
  simp only [State.applyRecord, State.recordOf, index1_succ, values]

theorem applyRecord_pump (p : PumpId) :
    s.applyRecord (u.recordOf (7, p.val + 1)) = s.onPump p fun q => q.load (u.pump p).values := by
  have values : u.sectionValues 7 (p.val + 1) = (u.pump p).values := itemValues_succ _ p _
  simp only [State.applyRecord, State.recordOf, index1_succ, values]

theorem applyRecord_counters (p : PumpId) :
    s.applyRecord (u.recordOf (11, p.val + 1)) = s.onPump p fun q => q.loadCounters (u.pump p).counters := by
  have values : u.sectionValues 11 (p.val + 1) = (u.pump p).counters := itemValues_succ _ p _
  simp only [State.applyRecord, State.recordOf, index1_succ, values]

/-- A record applied gives its item the values it holds. -/
theorem applyRecord_own (h : u.SettingsSound) (hk : ImageItem k) :
    (s.applyRecord (u.recordOf k)).sectionValues k.1 k.2 = u.sectionValues k.1 k.2 := by
  cases hk with
  | channel c =>
    rw [applyRecord_channel]
    exact (itemValues_set s.lau.channels c _ _).trans ((Channel.load_values _ _).trans (itemValues_succ _ c _).symm)
  | band b =>
    rw [applyRecord_band]
    exact (itemValues_set s.twu.bands b _ _).trans
      ((Band.load_values _ (bandCap_sound h b)).trans (itemValues_succ _ b _).symm)
  | screen n =>
    rw [applyRecord_screen]
    exact (itemValues_set s.swc.screens n _ _).trans ((Screen.load_values _ _).trans (itemValues_succ _ n _).symm)
  | pump p =>
    rw [applyRecord_pump]
    exact (itemValues_set s.pdc.pumps p _ _).trans ((Pump.load_values _ _).trans (itemValues_succ _ p _).symm)
  | counters p =>
    rw [applyRecord_counters]
    exact (itemValues_set s.pdc.pumps p _ _).trans
      ((Pump.loadCounters_counters _ _).trans (itemValues_succ _ p _).symm)
  | order =>
    have loaded : (s.applyRecord (u.recordOf (9, 0))).pdc.order = u.pdc.order :=
      congrArg (Option.getD · s.pdc.order) (order_sound h)
    exact congrArg (fun o : Vector PumpId 8 => o.toList.map fun p => ((p.val + 1 : Nat) : Int)) loaded
  | levels | trend | reminder | wash | duty | link => rfl

/-- A record applied leaves every other item as it is. -/
theorem applyRecord_other (hk : ImageItem k) (hm : ImageItem m) (hne : k ≠ m) :
    (s.applyRecord (u.recordOf k)).sectionValues m.1 m.2 = s.sectionValues m.1 m.2 := by
  cases hk with
  | channel c =>
    rw [applyRecord_channel]
    cases hm with
    | channel c' => exact itemValues_set_ne s.lau.channels (fun e : c = c' => hne (by rw [e])) _ _
    | _ => rfl
  | band b =>
    rw [applyRecord_band]
    cases hm with
    | band b' => exact itemValues_set_ne s.twu.bands (fun e : b = b' => hne (by rw [e])) _ _
    | _ => rfl
  | screen n =>
    rw [applyRecord_screen]
    cases hm with
    | screen n' => exact itemValues_set_ne s.swc.screens (fun e : n = n' => hne (by rw [e])) _ _
    | _ => rfl
  | pump p =>
    rw [applyRecord_pump]
    cases hm with
    | pump p' => exact itemValues_set_ne s.pdc.pumps (fun e : p = p' => hne (by rw [e])) _ _
    | counters p' =>
      refine itemValues_congr (fun q => ?_) _
      show ((s.onPump p _).pump q).counters = (s.pump q).counters
      rw [State.pump_onPump]
      split <;> rfl
    | _ => rfl
  | counters p =>
    rw [applyRecord_counters]
    cases hm with
    | counters p' => exact itemValues_set_ne s.pdc.pumps (fun e : p = p' => hne (by rw [e])) _ _
    | pump p' =>
      refine itemValues_congr (fun q => ?_) _
      show ((s.onPump p _).pump q).values = (s.pump q).values
      rw [State.pump_onPump]
      split <;> rfl
    | _ => rfl
  | levels => cases hm with | levels => exact absurd rfl hne | _ => rfl
  | trend => cases hm with | trend => exact absurd rfl hne | _ => rfl
  | reminder => cases hm with | reminder => exact absurd rfl hne | _ => rfl
  | wash => cases hm with | wash => exact absurd rfl hne | _ => rfl
  | duty => cases hm with | duty => exact absurd rfl hne | _ => rfl
  | order => cases hm with | order => exact absurd rfl hne | _ => rfl
  | link => cases hm with | link => exact absurd rfl hne | _ => rfl

/-! ## The image applied whole -/

/-- Records applied one after another give each item its values, no item having two of them. -/
theorem applyRecords_values (h : u.SettingsSound) {keys : List (Nat × Nat)} (items : ∀ k ∈ keys, ImageItem k)
    (nodup : keys.Nodup) (s : State) (hk : k ∈ keys) :
    ((keys.map u.recordOf).foldl State.applyRecord s).sectionValues k.1 k.2 = u.sectionValues k.1 k.2 := by
  have each (s : State) (n m : {k // k ∈ keys}) : (m, (s.applyRecord (u.recordOf n.1)).sectionValues m.1.1 m.1.2) =
      if n = m then (m, u.sectionValues m.1.1 m.1.2) else (m, s.sectionValues m.1.1 m.1.2) := by
    split
    · next e => subst e; rw [applyRecord_own h (items n.1 n.2)]
    · next e => rw [applyRecord_other (items n.1 n.2) (items m.1 m.2) fun he => e (Subtype.ext he)]
  have all := foldl_each (fun s (m : {k // k ∈ keys}) => (m, s.sectionValues m.1.1 m.1.2))
    (fun s n => s.applyRecord (u.recordOf n.1)) (fun x => (x.1, u.sectionValues x.1.1.1 x.1.1.2)) each
    keys.attach (List.nodup_attach.2 nodup) s ⟨k, hk⟩
  rw [if_pos (List.mem_attach _ _)] at all
  have attached : keys.attach.foldl (fun s n => s.applyRecord (u.recordOf n.1)) s =
      keys.foldl (fun s n => s.applyRecord (u.recordOf n)) s :=
    List.foldl_attach (f := fun (s : State) n => s.applyRecord (u.recordOf n))
  rw [List.foldl_map, ← attached]
  exact (Prod.mk.inj all).2

/-- The part with CONFIG_DEFAULTS clear. -/
def State.configured (s : State) : State := s.onSlp fun l => { l with configDefaults := false }

theorem configured_configDefaults (s : State) : s.configured.slp.configDefaults = false := rfl

theorem configured_sameSettings (s : State) : s.SameSettings s.configured :=
  ⟨fun _ => rfl, rfl, rfl, fun _ => rfl, rfl, fun _ => rfl, rfl, fun _ => rfl, rfl, rfl, rfl⟩

theorem configured_sectionValues (s : State) (x i : Nat) : s.configured.sectionValues x i = s.sectionValues x i :=
  (configured_sameSettings s).sectionValues x i fun _ _ => rfl

theorem loadImage_ok {answers : Bool} {rs : List Record} (h : readImage s.slp.memory answers = .ok rs) :
    s.loadImage answers = (rs.foldl State.applyRecord s).configured := by
  simp only [State.loadImage, h, State.configured]

/-- Scan intervals are read from the settings of section 1. -/
theorem interval_of_levels (h : s.sectionValues 1 0 = u.sectionValues 1 0) : s.lau.interval = u.lau.interval := by
  simp only [State.sectionValues, List.cons.injEq] at h
  exact Int.ofNat.inj h.2.1

/-- Settles O15: the image passes every check, its records give back every item, and the blocks start from these. -/
theorem savedImageRestoresSettings : Obligations.SavedImageRestoresSettings := by
  unfold Obligations.SavedImageRestoresSettings
  intro s u rest samples h hp hi hs hm
  have read : readImage s.slp.memory true = .ok (imageKeys.map u.recordOf) := by rw [hm]; exact readImage_image h rest
  have taken := (takeSettings_image hi).trans (loadImage_ok read)
  have values {k : Nat × Nat} (hk : k ∈ imageKeys) :
      (s.takeSettings true).sectionValues k.1 k.2 = u.sectionValues k.1 k.2 := by
    rw [taken, configured_sectionValues]
    exact applyRecords_values h (fun _ => imageItem_of_mem) (by decide) s hk
  obtain ⟨timer, period, -, scan, -⟩ := startLau_scan (samples := samples) (s.takeSettings true)
  obtain ⟨l, started, link⟩ := startBlocks_link (s := s.takeSettings true) (samples := samples)
  have flag : l.configDefaults = (s.takeSettings true).slp.configDefaults := (congrArg Slp.configDefaults link :)
  refine ⟨_, loadingEnd_starts hp hs, rfl, ?_⟩
  rw [startBlocks_lau]
  refine ⟨?_, timer, period.trans (interval_of_levels (values (k := (1, 0)) (by decide))), scan, fun k hk => ?_⟩
  · rw [started, Slp.start_configDefaults, flag, taken, configured_configDefaults]
  · rw [startBlocks_sectionValues]; exact values hk

end Sys2Proof.Machine
end

section
/-! PROOFS. What keeps the tables, queues and banks sound: a preorder on states, through the operations on the blocks
and on the link. -/

namespace Sys2Proof.Machine

variable {s t u : State}

/-! ## The relation -/

/-- Whatever of the tables, queues and banks is sound in `s` is sound in `t`; no part of it leans on another. -/
structure State.KeepsTables (s t : State) : Prop where
  starting : s.OneStarting → t.OneStarting
  starts : s.StartsDiffer → t.StartsDiffer
  order : s.OrderPermutes → t.OrderPermutes
  ring : s.RingBounded → t.RingBounded
  banks : s.BanksSound → t.BanksSound
  link : s.LinkBounded → t.LinkBounded
  targets : s.TargetsDiffer → t.TargetsDiffer

namespace State.KeepsTables

theorem refl (s : State) : s.KeepsTables s := ⟨id, id, id, id, id, id, id⟩

theorem trans (h : s.KeepsTables t) (k : t.KeepsTables u) : s.KeepsTables u :=
  ⟨k.starting ∘ h.starting, k.starts ∘ h.starts, k.order ∘ h.order, k.ring ∘ h.ring, k.banks ∘ h.banks,
    k.link ∘ h.link, k.targets ∘ h.targets⟩

theorem tables (h : s.KeepsTables t) (k : s.TablesSound) : t.TablesSound :=
  ⟨h.ring k.ring, h.starts k.starts, h.order k.order, h.link k.link, h.targets k.targets⟩

theorem ite {c : Prop} [Decidable c] {a b : State} (h : s.KeepsTables a) (k : s.KeepsTables b) :
    s.KeepsTables (if c then a else b) := by
  split
  · exact h
  · exact k

/-- Further work on a condition. -/
theorem when {c : Prop} [Decidable c] (h : s.KeepsTables t) (k : t.KeepsTables u) :
    s.KeepsTables (if c then u else t) := ite (h.trans k) h

theorem foldl {α : Type} {f : State → α → State} (h : s.KeepsTables t) (hf : ∀ (t : State) a, t.KeepsTables (f t a))
    (l : List α) : s.KeepsTables (l.foldl f t) :=
  List.foldlRecOn (motive := s.KeepsTables) l f h fun _ k a _ => k.trans (hf _ a)

end State.KeepsTables

/-! ## When the parts stay sound -/

theorem oneStarting_of_imp (h : s.OneStarting)
    (k : ∀ p, (t.pump p).state = .starting → (s.pump p).state = .starting) : t.OneStarting :=
  fun p q hp hq => h p q (k p hp) (k q hq)

theorem startsDiffer_of_sublist (h : s.StartsDiffer)
    (k : (t.pdc.queue.map StartEntry.pump).Sublist (s.pdc.queue.map StartEntry.pump)) : t.StartsDiffer :=
  List.Nodup.sublist k h

/-- What R31 asks of a bank by itself. -/
def Bank.Sound (b : Bank) : Prop := b.CountFits ∧ gapsHold b.points ∧ ∀ p ∈ b.points, -30000 ≤ p.level ∧ p.level ≤ 30000

/-- Two banks in their roles, `n` being the loading one. -/
def BanksFit (v : Vector Bank 2) (n : BankId) : Prop :=
  v[n].state ≠ .active ∧ (v[otherBank n].state = .empty ∨ v[otherBank n].state = .active) ∧ ∀ b : BankId, v[b].Sound

theorem banksSound_iff : s.BanksSound ↔ BanksFit s.twu.banks s.twu.loading := Iff.rfl

theorem banksSound_congr (h : s.BanksSound) (hb : t.twu.banks = s.twu.banks) (hl : t.twu.loading = s.twu.loading) :
    t.BanksSound := by
  rw [banksSound_iff, hb, hl]
  exact h

/-- Slots that hold no new target hold different ones. -/
theorem targetsDiffer_of_from (h : s.TargetsDiffer)
    (k : ∀ (i : SlotId) b, t.slp.slots[i] = some b → ∃ a, s.slp.slots[i] = some a ∧ a.target = b.target) :
    t.TargetsDiffer := by
  intro i j a b ha hb hab
  obtain ⟨a', ha', ea⟩ := k i a ha
  obtain ⟨b', hb', eb⟩ := k j b hb
  exact h i j a' b' ha' hb' (by rw [ea, eb, hab])

/-- A completion keeps a slot's target. -/
theorem slotFollows_target {f : Bool} {n : Nat} {a b : Option Slot} (h : slotFollows f n a b) {sl : Slot}
    (hb : b = some sl) : ∃ sl', a = some sl' ∧ sl'.target = sl.target := by
  rcases h with rfl | ⟨x, rfl, -, ⟨-, rfl⟩ | ⟨-, r, d, rfl⟩⟩
  · exact ⟨sl, hb, rfl⟩
  · cases hb
  · obtain rfl := Option.some.inj hb
    exact ⟨x, rfl, rfl⟩

/-! ## Operations within one block -/

/-- The part of the TWU that holds tables. -/
def Twu.tables (w : Twu) : List TidePoint × Vector Bank 2 × BankId := (w.ring, w.banks, w.loading)

/-- The part of the PDC that holds tables. -/
def Pdc.tables (d : Pdc) : Vector Pump 8 × List StartEntry × Vector PumpId 8 := (d.pumps, d.queue, d.order)

/-- The part of the link that holds tables. -/
def Slp.tables (l : Slp) : List Notice × List Request × Vector (Option Slot) 4 := (l.notices, l.requests, l.slots)

namespace State.KeepsTables

/-- A change of neither the tide, the pumps nor the link. -/
theorem same (h : s.KeepsTables t) (kept : (u.twu, u.pdc, u.slp) = (t.twu, t.pdc, t.slp)) : s.KeepsTables u := by
  obtain ⟨twu, pdc, slp⟩ : u.twu = t.twu ∧ u.pdc = t.pdc ∧ u.slp = t.slp := by simpa using kept
  refine h.trans ⟨fun k => oneStarting_of_imp k fun p hp => ?_, ?_, ?_, ?_,
    fun k => banksSound_congr k (by rw [twu]) (by rw [twu]), ?_, ?_⟩
  · rwa [State.pump, pdc] at hp
  · unfold State.StartsDiffer; rw [pdc]; exact id
  · unfold State.OrderPermutes; rw [pdc]; exact id
  · unfold State.RingBounded; rw [twu]; exact id
  · unfold State.LinkBounded; rw [slp]; exact id
  · unfold State.TargetsDiffer; rw [slp]; exact id

variable (h : s.KeepsTables t)
include h

/-- A change of the trend ring. -/
theorem onTwu_ring {f : Twu → Twu} (ring : t.twu.ring.length ≤ 16 → (f t.twu).ring.length ≤ 16)
    (kept : ((f t.twu).banks, (f t.twu).loading) = (t.twu.banks, t.twu.loading)) : s.KeepsTables (t.onTwu f) :=
  h.trans ⟨id, id, id, ring, fun k => banksSound_congr k (congrArg Prod.fst kept) (congrArg Prod.snd kept), id, id⟩

theorem onTwu {f : Twu → Twu} (kept : (f t.twu).tables = t.twu.tables) : s.KeepsTables (t.onTwu f) := by
  have ring : (f t.twu).ring = t.twu.ring := congrArg Prod.fst kept
  exact h.onTwu_ring (fun k => ring ▸ k) (congrArg Prod.snd kept)

/-- A change of the PDC beside its pumps that puts no entry into the start queue. -/
theorem onPdc_queue {f : Pdc → Pdc}
    (queue : ((f t.pdc).queue.map StartEntry.pump).Sublist (t.pdc.queue.map StartEntry.pump))
    (order : t.OrderPermutes → (f t.pdc).order.toList.Nodup) (pumps : (f t.pdc).pumps = t.pdc.pumps) :
    s.KeepsTables (t.onPdc f) :=
  h.trans ⟨fun k => oneStarting_of_imp k fun p hp => by
      rw [State.pump, State.onPdc_pdc, pumps] at hp; exact hp,
    fun k => startsDiffer_of_sublist k queue, order, id, id, id, id⟩

theorem onPdc {f : Pdc → Pdc} (kept : (f t.pdc).tables = t.pdc.tables) : s.KeepsTables (t.onPdc f) := by
  obtain ⟨pumps, queue, order⟩ : (f t.pdc).pumps = t.pdc.pumps ∧ (f t.pdc).queue = t.pdc.queue
    ∧ (f t.pdc).order = t.pdc.order := by simpa [Pdc.tables] using kept
  exact h.onPdc_queue (by rw [queue]) (fun k => order ▸ k) pumps

/-- A change of a pump that does not start it. -/
theorem onPump_notStarting {p : PumpId} {f : Pump → Pump} (hf : ∀ q, (f q).state = .starting → q.state = .starting) :
    s.KeepsTables (t.onPump p f) :=
  h.trans ⟨fun k => oneStarting_of_imp k fun q hq => by
      rw [State.pump_onPump] at hq
      split at hq
      · exact hf _ hq
      · exact hq,
    id, id, id, id, id, id⟩

/-- A change of a pump beside its state. -/
theorem onPump {p : PumpId} {f : Pump → Pump} (hf : ∀ q, (f q).state = q.state) : s.KeepsTables (t.onPump p f) :=
  h.onPump_notStarting fun q hq => hf q ▸ hq

theorem onSlp {f : Slp → Slp} (kept : (f t.slp).tables = t.slp.tables) : s.KeepsTables (t.onSlp f) := by
  obtain ⟨notices, requests, slots⟩ : (f t.slp).notices = t.slp.notices ∧ (f t.slp).requests = t.slp.requests
    ∧ (f t.slp).slots = t.slp.slots := by simpa [Slp.tables] using kept
  exact h.trans ⟨id, id, id, id, id,
    fun k => ⟨by rw [State.onSlp_slp, notices]; exact k.1, by rw [State.onSlp_slp, requests]; exact k.2⟩,
    fun k => by unfold State.TargetsDiffer; rw [State.onSlp_slp, slots]; exact k⟩

/-- A change of the link that shortens its queues. -/
theorem onSlp_queues {f : Slp → Slp} (notices : (f t.slp).notices.length ≤ t.slp.notices.length)
    (requests : (f t.slp).requests.length ≤ t.slp.requests.length) (slots : (f t.slp).slots = t.slp.slots) :
    s.KeepsTables (t.onSlp f) :=
  h.trans ⟨id, id, id, id, id, fun k => ⟨notices.trans k.1, requests.trans k.2⟩,
    fun k => by unfold State.TargetsDiffer; rw [State.onSlp_slp, slots]; exact k⟩

/-- A change of the slots that brings no new target. -/
theorem onSlp_slots {f : Slp → Slp}
    (slots : ∀ (i : SlotId) b, (f t.slp).slots[i] = some b → ∃ a, t.slp.slots[i] = some a ∧ a.target = b.target)
    (kept : ((f t.slp).notices, (f t.slp).requests) = (t.slp.notices, t.slp.requests)) :
    s.KeepsTables (t.onSlp f) := by
  obtain ⟨notices, requests⟩ : (f t.slp).notices = t.slp.notices ∧ (f t.slp).requests = t.slp.requests := by
    simpa using kept
  exact h.trans ⟨id, id, id, id, id,
    fun k => ⟨by rw [State.onSlp_slp, notices]; exact k.1, by rw [State.onSlp_slp, requests]; exact k.2⟩,
    fun k => targetsDiffer_of_from k slots⟩

theorem onLau {f : Lau → Lau} : s.KeepsTables (t.onLau f) := h.same (by rfl)
theorem onSwc {f : Swc → Swc} : s.KeepsTables (t.onSwc f) := h.same (by rfl)
theorem onScreen {n : ScreenId} {f : Screen → Screen} : s.KeepsTables (t.onScreen n f) := h.same (by rfl)
theorem onChannel {c : ChannelId} {f : Channel → Channel} : s.KeepsTables (t.onChannel c f) := h.same (by rfl)
theorem drawn : s.KeepsTables t.drawn := h.same (by rfl)
theorem onBand {b : BandId} {f : Band → Band} : s.KeepsTables (t.onBand b f) := h.onTwu (by rfl)
theorem onScope {k : ScopeId} {f : Scope → Scope} : s.KeepsTables (t.onScope k f) := h.onPdc (by rfl)
theorem evaluationFollows : s.KeepsTables t.evaluationFollows := h.onPdc (by rfl)

/-! ## Notices and outcomes -/

theorem notify {c : NoticeClass} {k : NoticeKind} {a g : Nat} {v w : Int} : s.KeepsTables (t.notify c k a g v w) :=
  h.trans ⟨id, id, id, id, id, fun k => ⟨Slp.enqueue_length _ _ k.1, (Slp.enqueue_requests _ _).symm ▸ k.2⟩,
    fun k => by unfold State.TargetsDiffer State.notify; rw [State.onSlp_slp, Slp.enqueue_slots]; exact k⟩

theorem complete {m : Option Nat} {r d : Nat} : s.KeepsTables (t.complete m r d) := by
  obtain ⟨v, e, follows⟩ := t.complete_cases m r d
  rw [e]
  exact h.onSlp_slots (fun i b hb => slotFollows_target (follows i) hb) (by rfl)

/-! ## Requests held and replies -/

theorem reply {c : Code} {d : List Byte} : s.KeepsTables (t.reply c d) := by
  unfold State.reply
  split
  · exact h
  · have sent (l : Slp) (r : Reply) : (l.send r).tables = l.tables := by rw [send_eq]; rfl
    exact h.onSlp (sent _ _)

theorem markLinkError : s.KeepsTables t.markLinkError := h.onSlp (by rfl)

theorem heard : s.KeepsTables t.heard := ite (h.onSlp (by rfl)) h

/-- The request buffer holds two at most (R162). -/
theorem hold {r : Request} : s.KeepsTables (t.hold r) := by
  unfold State.hold
  split
  · exact h.trans ⟨id, id, id, id, id, fun k => ⟨k.1, by simp; omega⟩, id⟩
  · exact h.markLinkError

theorem arrive {i : Instr} : s.KeepsTables (t.arrive i) := h.heard.hold

end State.KeepsTables

/-! ## Deliveries -/

theorem takeClass_rest_length (c : NoticeClass) (k : Nat) (q : List Notice) :
    (takeClass c k q).2.length ≤ q.length := by
  induction k, q using takeClass.induct c with
  | case1 q => simp [takeClass]
  | case2 k hk => cases k <;> simp [takeClass]
  | case3 k n q hn ih => simp [takeClass, hn]; omega
  | case4 k n q hn ih => simp [takeClass, hn]; omega

/-- A delivery leaves no more notices than there were, class by class. -/
theorem deliver_rest_length (k : Nat) (q : List Notice) : (deliver k q).2.length ≤ q.length := by
  unfold deliver
  dsimp only
  refine (takeClass_rest_length _ _ _).trans ?_
  refine (takeClass_rest_length _ _ _).trans ?_
  exact (takeClass_rest_length _ _ _).trans (takeClass_rest_length _ _ _)

theorem delivered_notices (l : Slp) : l.delivered.notices = (deliver 6 l.notices).2 := by
  simp only [Slp.delivered]

namespace State.KeepsTables
variable (h : s.KeepsTables t)
include h

theorem delivered : s.KeepsTables (t.onSlp Slp.delivered) := by
  refine h.onSlp_queues ?_ (Nat.le_refl t.slp.requests.length) (by simp only [Slp.delivered])
  rw [delivered_notices]
  exact deliver_rest_length 6 _

theorem formBatch : s.KeepsTables t.formBatch := by
  have taken := h.delivered
  unfold State.formBatch
  dsimp only
  generalize t.onSlp Slp.delivered = u at taken ⊢
  exact taken.onSlp (by rfl)

theorem transmitNext {b : Bool} : s.KeepsTables (t.transmitNext b) := by
  unfold State.transmitNext
  split
  · exact h.onSlp (by rfl)
  · exact ite h.formBatch h

end State.KeepsTables

end Sys2Proof.Machine
end

section
/-! PROOFS. The tables through the operations of the SWC: results, the header, the wash queue and the end of a wash. -/

namespace Sys2Proof.Machine

variable {s t : State}

namespace State.KeepsTables
variable (h : s.KeepsTables t)
include h

/-! ## Results, the sluice and the header purge -/

theorem enterScreen {n : ScreenId} {st : ScreenState} : s.KeepsTables (t.enterScreen n st) := h.onScreen

theorem setWash {n : ScreenId} {w : WashRecord} : s.KeepsTables (t.setWash n w) := h.onScreen

theorem publishHeld : s.KeepsTables t.publishHeld := ite h (h.onPdc (by rfl))

theorem publishCapacity : s.KeepsTables t.publishCapacity := ite h.onSwc h.onSwc.evaluationFollows

theorem announce {n : ScreenId} {r : WashResult} : s.KeepsTables (t.announce n r) := h.notify.complete

theorem announcePending {n : ScreenId} {r : Option WashResult} : s.KeepsTables (t.announcePending n r) := by
  unfold State.announcePending
  split
  · exact ite h.announce h
  · exact h

theorem enterResult {n : ScreenId} {r : WashResult} : s.KeepsTables (t.enterResult n r) := h.announcePending.onScreen

theorem releaseScreen {n : ScreenId} : s.KeepsTables (t.releaseScreen n) := h.announcePending.announcePending.onScreen

theorem releaseResults : s.KeepsTables t.releaseResults := h.foldl (fun t _ => (refl t).releaseScreen) _

theorem startSluice : s.KeepsTables t.startSluice := h.onSwc

theorem endSluice : s.KeepsTables t.endSluice := h.onSwc.releaseResults

theorem activatePurge : s.KeepsTables t.activatePurge := ite h.onSwc h

theorem idlePurge : s.KeepsTables t.idlePurge := h.onSwc

theorem finishContinuous : s.KeepsTables t.finishContinuous := by
  refine h.foldl (fun t n => ?_) _
  split
  · exact ite (refl t).enterScreen (refl t)
  · exact refl t

/-! ## The wash queue and the header arbiter -/

theorem joinQueue {n : ScreenId} {c : WashClass} {p : Nat} {m : Option Nat} : s.KeepsTables (t.joinQueue n c p m) :=
  h.onSwc.enterScreen

theorem mergeQueue {n : ScreenId} {c : WashClass} {p : Nat} {m : Option Nat} : s.KeepsTables (t.mergeQueue n c p m) :=
  h.onSwc

theorem leaveQueue {n : ScreenId} : s.KeepsTables (t.leaveQueue n) := h.onSwc

theorem grantHeader {e : QueueEntry} : s.KeepsTables (t.grantHeader e) := h.leaveQueue.onScreen.enterScreen

theorem tryGrant : s.KeepsTables t.tryGrant := by
  unfold State.tryGrant
  split
  · split
    · exact h.grantHeader
    · exact h
  · exact h

theorem reevaluate : s.KeepsTables t.reevaluate := h.tryGrant.tryGrant.publishHeld

theorem finishPurge : s.KeepsTables t.finishPurge := h.idlePurge.publishHeld.reevaluate

theorem removeEntry {n : ScreenId} {next : ScreenState} : s.KeepsTables (t.removeEntry n next) :=
  h.complete.leaveQueue.enterScreen.reevaluate

/-! ## The end of a wash -/

theorem follow {n : ScreenId} {next : ScreenState} : s.KeepsTables (t.follow n next) := by
  unfold State.follow
  split
  · exact h.onScreen.enterScreen
  · exact ite h.onScreen.enterScreen h.onScreen.joinQueue

theorem withdrawStaged {n : ScreenId} {next : ScreenState} : s.KeepsTables (t.withdrawStaged n next) := by
  unfold State.withdrawStaged
  refine (onScreen ?_).enterScreen
  split
  · exact h
  · exact h.complete

theorem concludeWash {n : ScreenId} {w : WashRecord} {o : WashOutcome} {next : ScreenState} :
    s.KeepsTables (t.concludeWash n w o next) := by
  unfold State.concludeWash
  refine onScreen ?_
  split
  · exact h.enterResult.follow
  all_goals exact h.enterResult.withdrawStaged

theorem flushTrough {n : ScreenId} {w : WashRecord} {o : WashOutcome} : s.KeepsTables (t.flushTrough n w o) :=
  (ite h.notify h).startSluice

theorem endWash {n : ScreenId} {o : WashOutcome} {next : ScreenState} : s.KeepsTables (t.endWash n o next) := by
  unfold State.endWash
  split
  · exact h
  · exact h.concludeWash.flushTrough.activatePurge.publishHeld.reevaluate

theorem endWashes {p : State → ScreenId → Bool} {o : WashOutcome} : s.KeepsTables (t.endWashes p o) :=
  h.foldl (fun t _ => ite (refl t).endWash (refl t)) _

theorem loseHeader : s.KeepsTables t.loseHeader := h.endWashes

theorem purgeOverdue : s.KeepsTables t.purgeOverdue := h.onSwc.finishContinuous

theorem clearHeader {o : WashOutcome} : s.KeepsTables (t.clearHeader o) := by
  have ended := h.foldl (f := fun t n =>
    if (t.screen n).state.isWashing then
      match (t.screen n).wash with
      | some w => (t.concludeWash n w o .idle).flushTrough n w o
      | none => t
    else t) (fun t n => by
      refine ite ?_ (refl t)
      split
      · exact (refl t).concludeWash.flushTrough
      · exact refl t) allScreens
  unfold State.clearHeader
  exact publishHeld (ite (when ended (refl _).endSluice) (when ended (refl _).endSluice).idlePurge)

/-! ## Triggers and verdicts -/

theorem stage {n : ScreenId} {g : Staged} : s.KeepsTables (t.stage n g) := h.onScreen

theorem triggerScreen {n : ScreenId} : s.KeepsTables (t.triggerScreen n) := by
  unfold State.triggerScreen
  split
  · exact h
  · split
    · exact h.joinQueue
    · exact h.mergeQueue
    · exact h.stage
    all_goals exact h

theorem evaluateTriggers : s.KeepsTables t.evaluateTriggers := by
  have screens := h.foldl (f := State.triggerScreen) (fun t _ => (refl t).triggerScreen) allScreens
  unfold State.evaluateTriggers
  exact ite screens screens.reevaluate

theorem formVerdicts : s.KeepsTables t.formVerdicts := by
  unfold State.formVerdicts
  exact h.onSwc.publishCapacity

end State.KeepsTables

end Sys2Proof.Machine
end

section
/-! PROOFS. The tables through the pump state machine, the start arbiter and the duty evaluations: a pump enters
STARTING with no other in it, and joins the start queue with no entry of its own there. -/

namespace Sys2Proof.Machine

variable {s t : State} {p : PumpId}

/-! ## Pump states -/

namespace State.KeepsTables
variable (h : s.KeepsTables t)
include h

theorem enterPump {st : PumpState} (hst : st ≠ .starting) : s.KeepsTables (t.enterPump p st) :=
  (h.onPump_notStarting fun _ hq => absurd hq hst).evaluationFollows

theorem rest : s.KeepsTables (t.rest p) := by
  refine h.enterPump ?_
  split <;> decide

theorem publishRunning : s.KeepsTables t.publishRunning := ite h h.onSwc.reevaluate

theorem stopEnded : s.KeepsTables (t.stopEnded p) := (h.onPump fun _ => by rfl).rest.notify.complete

theorem orderStop {o : StopOrigin} {m : Option Nat} : s.KeepsTables (t.orderStop p o m) := by
  have ordered := ((h.enterPump (p := p) (st := .stopping) (by decide)).onPump (p := p)
    (f := fun q => { q with stopTimer := 0, stopOrigin := some o, stopMark := m }) fun _ => rfl).publishRunning
  exact ite (ite ordered ordered.stopEnded) h

theorem lowLevelStop : s.KeepsTables (t.lowLevelStop p) := h.notify.orderStop

theorem lowLevelActs : s.KeepsTables (t.lowLevelActs p) := ite h.lowLevelStop (h.onPump fun _ => by rfl)

theorem startEnded : s.KeepsTables t.startEnded := h.onPdc (by rfl)

theorem endPair : s.KeepsTables (t.endPair p) := h.onPdc (by rfl)

theorem changeoverStop : s.KeepsTables (t.changeoverStop p) := by
  unfold State.changeoverStop
  split
  · exact ite h.endPair.orderStop h
  · exact h

theorem enterRunning : s.KeepsTables (t.enterRunning p) := by
  unfold State.enterRunning
  have entered := (h.enterPump (p := p) (st := .running) (by decide)).onPump (p := p)
    (f := fun q => { q with startTimer := 0, startMark := none, runTime := 0 }) fun _ => rfl
  exact when entered.notify.publishRunning.startEnded.complete.changeoverStop (refl _).lowLevelStop

theorem failPump {c : FailCause} : s.KeepsTables (t.failPump p c) := by
  unfold State.failPump
  dsimp only
  split
  · exact ((h.enterPump (by decide)).onPump fun _ => by rfl).notify.startEnded.endPair.complete
  · exact ((h.enterPump (by decide)).onPump fun _ => by rfl).notify.publishRunning
  · exact ((h.enterPump (by decide)).onPump fun _ => by rfl).notify.complete
  all_goals exact ((h.enterPump (by decide)).onPump fun _ => by rfl).notify

end State.KeepsTables

/-! ## The start queue -/

/-- No pump is in STARTING. -/
def State.NoneStarting (s : State) : Prop := ∀ p, (s.pump p).state ≠ .starting

theorem noneStarting_of_anyStarting (h : s.anyStarting = false) : s.NoneStarting := by
  intro p hp
  have any : s.anyStarting = true := List.any_eq_true.2 ⟨p, by rw [allPumps_eq]; simp, by simpa using hp⟩
  rw [h] at any
  cases any

/-- With no pump in STARTING any one may enter it. -/
theorem State.NoneStarting.enterPump (h : s.NoneStarting) (p : PumpId) (st : PumpState) :
    s.KeepsTables (s.enterPump p st) := by
  have only (q : PumpId) (hq : ((s.enterPump p st).pump q).state = .starting) : q = p := by
    rw [State.pump_enterPump] at hq
    split at hq
    · exact Eq.symm ‹_›
    · exact absurd hq (h q)
  exact ⟨fun _ q r hq hr => (only q hq).trans (only r hr).symm, id, id, id, id, id, id⟩

theorem State.NoneStarting.beginStart (h : s.NoneStarting) (e : StartEntry) : s.KeepsTables (s.beginStart e) := by
  have begun := (h.enterPump e.pump .starting).onPump (p := e.pump) (f := fun q =>
    { q with starts := min (q.starts + 1) 65535, startTimer := 0, startOrigin := e.origin, startMark := e.mark })
    fun _ => rfl
  exact .ite begun.failPump (.ite begun.enterRunning begun)

theorem State.KeepsTables.refuseStart (h : s.KeepsTables t) {e : StartEntry} {c : Nat} :
    s.KeepsTables (t.refuseStart e c) := by
  unfold State.refuseStart
  split
  · exact h.complete
  · exact h.complete.endPair.evaluationFollows

theorem refuseStart_queue (s : State) (e : StartEntry) (c : Nat) : (s.refuseStart e c).pdc.queue = s.pdc.queue := by
  unfold State.refuseStart
  split <;> simp [State.endPair, State.evaluationFollows]

theorem refuseStart_pump (s : State) (e : StartEntry) (c : Nat) (p : PumpId) :
    (s.refuseStart e c).pump p = s.pump p := by
  unfold State.refuseStart
  split <;> simp [State.pump, State.endPair, State.evaluationFollows]

theorem State.KeepsTables.dropEntries (h : s.KeepsTables t) {q : List StartEntry} (hq : q.Sublist t.pdc.queue) :
    s.KeepsTables (t.onPdc fun d => { d with queue := q }) := h.onPdc_queue (hq.map _) id rfl

/-- The arbiter takes entries off the queue until it has granted one. -/
theorem State.NoneStarting.grantFrom : ∀ (q : List StartEntry) (s : State), s.NoneStarting →
    q.Sublist s.pdc.queue → s.KeepsTables (State.grantFrom q s)
  | [], s, _, hq => (State.KeepsTables.refl s).dropEntries hq
  | e :: q, s, h, hq => by
    have free : State.NoneStarting (s.onPdc fun d => { d with queue := q }) := h
    have taken := (State.KeepsTables.refl s).dropEntries (.trans (List.sublist_cons_self e q) hq)
    unfold State.grantFrom
    dsimp only
    split
    · exact taken.trans (free.beginStart e)
    · refine taken.refuseStart.trans (State.NoneStarting.grantFrom q _ (fun p => ?_) ?_)
      · rw [refuseStart_pump]; exact free p
      · rw [refuseStart_queue]; exact .refl q

namespace State.KeepsTables
variable (h : s.KeepsTables t)
include h

theorem startArbiter : s.KeepsTables t.startArbiter := by
  unfold State.startArbiter
  split
  · next free =>
    have none : t.NoneStarting := noneStarting_of_anyStarting (by simpa using (Bool.and_eq_true_iff.1 free).1)
    exact h.trans (State.NoneStarting.grantFrom _ t none (.refl _))
  · exact h

/-- A merge keeps the pumps of the entries. -/
theorem mergeStart {m : Option Nat} : s.KeepsTables (t.onPdc fun d =>
    { d with queue := d.queue.map fun e => if e.pump = p then { e with mark := mergedMark e.mark m } else e }) := by
  refine h.onPdc_queue ?_ id rfl
  have pumps : StartEntry.pump ∘
        (fun e : StartEntry => if e.pump = p then { e with mark := mergedMark e.mark m } else e)
      = StartEntry.pump := by
    funext e; dsimp only [Function.comp_apply]; split <;> rfl
  rw [List.map_map, pumps]

/-- An entry of a pump that has none. -/
theorem appendStart {e : StartEntry} (hp : ∀ x ∈ t.pdc.queue, x.pump ≠ e.pump) :
    s.KeepsTables (t.onPdc fun d => { d with queue := d.queue ++ [e] }) := by
  refine h.trans ⟨id, fun k => ?_, id, id, id, id, id⟩
  unfold State.StartsDiffer at *
  simp only [State.onPdc_pdc, List.map_append, List.map_cons, List.map_nil]
  exact List.nodup_append.2 ⟨k, List.nodup_singleton _, by simpa using hp⟩

theorem joinStart {o : StartOrigin} {m : Option Nat} : s.KeepsTables (t.joinStart p o m) := by
  unfold State.joinStart
  split
  · exact h.mergeStart
  · next absent => exact (h.appendStart (e := ⟨p, o, m, 0⟩) (by simpa using absent)).startArbiter

theorem leaveStart : s.KeepsTables (t.leaveStart p) := h.dropEntries List.filter_sublist

/-! ## Duty evaluations -/

theorem makeDue {k : ScopeId} : s.KeepsTables (t.makeDue k) := by
  unfold State.makeDue
  split
  · exact h.onScope
  · exact ite h.onScope (ite h.onScope h.onScope.orderStop)

theorem fallDue {k : ScopeId} : s.KeepsTables (t.fallDue k) := ite h.makeDue h.onScope

theorem updateScope {k : ScopeId} : s.KeepsTables (t.updateScope k) := by
  unfold State.updateScope
  refine ite ?_ h.onScope
  split
  · exact h.makeDue
  · exact h.makeDue
  · split
    · exact h.onScope
    · exact h

theorem searchChangeover : s.KeepsTables t.searchChangeover := by
  unfold State.searchChangeover
  refine ite ?_ h
  split
  · exact (h.onPdc (by rfl)).joinStart
  · exact h.onPdc (by rfl)

theorem dutyEvaluate : s.KeepsTables t.dutyEvaluate := by
  have scopes := h.foldl (f := State.updateScope) (fun t _ => (refl t).updateScope) allScopes
  unfold State.dutyEvaluate
  dsimp only
  split
  · exact scopes
  · split
    · exact scopes.joinStart
    · exact scopes.searchChangeover

omit h in
theorem evaluations : ∀ (n : Nat) {t : State}, s.KeepsTables t → s.KeepsTables (State.evaluations n t)
  | 0, _, h => h
  | n + 1, _, h => ite (evaluations n (h.onPdc (by rfl)).dutyEvaluate) h

theorem settle : s.KeepsTables t.settle := h.evaluations 32

theorem setMode {m : DutyMode} : s.KeepsTables (t.setMode m) := by
  refine ite h (evaluationFollows ?_)
  cases m with
  | manual => exact h.onPdc_queue (List.filter_sublist.map _) id rfl
  | auto => exact h.onPdc (by rfl)

end State.KeepsTables

end Sys2Proof.Machine
end

section
/-! PROOFS. The tables through the operations of the TWU: the claims, the trend ring, and the prediction banks, which
keep their roles, counts, gaps and levels (R27, R31). -/

namespace Sys2Proof.Machine

variable {s t : State} {v : Vector Bank 2} {n : BankId}

/-! ## Two banks in their roles -/

theorem otherBank_ne : ∀ n : BankId, otherBank n ≠ n := by decide

theorem otherBank_otherBank : ∀ n : BankId, otherBank (otherBank n) = n := by decide

theorem eq_otherBank_of_ne : ∀ {n m : BankId}, m ≠ n → m = otherBank n := by decide

theorem bank_set (v : Vector Bank 2) (n m : BankId) (b : Bank) : (v.set n b)[m] = if n = m then b else v[m] := by
  by_cases h : n = m
  · subst h; simp
  · have h' : n.val ≠ m.val := fun e => h (Fin.ext e)
    simp [h, h']

theorem bank_set_self (v : Vector Bank 2) (n : BankId) (b : Bank) : (v.set n b)[n] = b := by
  rw [bank_set, if_pos rfl]

theorem bank_set_other (v : Vector Bank 2) (n : BankId) (b : Bank) : (v.set n b)[otherBank n] = v[otherBank n] := by
  rw [bank_set, if_neg (otherBank_ne n).symm]

theorem Bank.sound_empty : Bank.Sound {} := ⟨rfl, trivial, by simp⟩

theorem sound_set (h : ∀ m : BankId, v[m].Sound) {b : Bank} (hb : b.Sound) (m : BankId) : (v.set n b)[m].Sound := by
  rw [bank_set]
  split
  · exact hb
  · exact h m

/-- The loading bank replaced by one that is not ACTIVE. -/
theorem BanksFit.load (h : BanksFit v n) {b : Bank} (hb : b.Sound) (hs : b.state ≠ .active) :
    BanksFit (v.set n b) n := by
  obtain ⟨-, standing, sound⟩ := h
  refine ⟨?_, ?_, sound_set sound hb⟩
  · rwa [bank_set_self]
  · rwa [bank_set_other]

/-- The standing bank emptied. -/
theorem BanksFit.expire (h : BanksFit v n) : BanksFit (v.set (otherBank n) {}) n := by
  obtain ⟨loading, -, sound⟩ := h
  refine ⟨?_, .inl ?_, sound_set sound Bank.sound_empty⟩
  · rwa [bank_set, if_neg (otherBank_ne n)]
  · rw [bank_set_self]

theorem committable_iff {b : Bank} :
    b.committable = true ↔ (b.state = .filling ∨ b.state = .sealed) ∧ 2 ≤ b.points.length := by
  simp [Bank.committable]

theorem sealable_iff {b : Bank} : b.sealable = true ↔ b.state = .filling ∧ 2 ≤ b.points.length := by
  simp [Bank.sealable]

/-- A bank of 2 to 128 points may be SEALED or ACTIVE. -/
theorem Bank.Sound.promote {b : Bank} (h : b.Sound) (hc : b.committable = true) {st : BankState}
    (hs : st = .sealed ∨ st = .active) : Bank.Sound { b with state := st } := by
  obtain ⟨count, rest⟩ := h
  obtain ⟨state, two⟩ := committable_iff.1 hc
  have most : b.points.length ≤ 128 := by
    unfold Bank.CountFits at count
    rcases state with e | e <;> rw [e] at count <;> exact count.2
  refine ⟨?_, rest⟩
  rcases hs with rfl | rfl <;> exact ⟨two, most⟩

theorem Bank.Sound.committable_of_sealed {b : Bank} (h : b.Sound) (hs : b.state = .sealed) : b.committable = true := by
  have count := h.1
  unfold Bank.CountFits at count
  rw [hs] at count
  exact committable_iff.2 ⟨.inr hs, count.1⟩

/-- The loading bank ACTIVE and the standing one emptied, with their roles exchanged. -/
theorem BanksFit.swap (h : BanksFit v n) (hc : v[n].committable = true) :
    BanksFit ((v.set n { v[n] with state := .active }).set (otherBank n) {}) (otherBank n) := by
  obtain ⟨-, -, sound⟩ := h
  refine ⟨?_, .inr ?_, sound_set (sound_set sound ((sound n).promote hc (.inr rfl))) Bank.sound_empty⟩
  · rw [bank_set_self]; decide
  · rw [bank_set, otherBank_otherBank, if_neg (otherBank_ne n), bank_set_self]

/-! ## Points offered to the loading bank (R33) -/

/-- A time 60 s to 3600 s after the last point. -/
def Follows (ps : List TidePoint) (p : TidePoint) : Prop :=
  ∀ l, ps.getLast? = some l → l.time + 60 ≤ p.time ∧ p.time ≤ l.time + 3600

theorem gapsHold_append (p : TidePoint) : ∀ ps : List TidePoint, gapsHold (ps ++ [p]) ↔ gapsHold ps ∧ Follows ps p
  | [] => by simp [gapsHold, Follows]
  | [a] => by simp [gapsHold, Follows]
  | a :: b :: ps => by
    have ih := gapsHold_append p (b :: ps)
    have last : Follows (a :: b :: ps) p ↔ Follows (b :: ps) p := by simp [Follows, List.getLast?_cons_cons]
    simp only [List.cons_append, gapsHold, last] at ih ⊢
    rw [ih]
    tauto

/-- A point is taken by a bank that has room and whose last point it follows. -/
theorem pointCheck_none_iff {b : Bank} {p : TidePoint} :
    pointCheck b p = none ↔ b.points.length < 128 ∧ Follows b.points p := by
  unfold pointCheck Follows
  cases b.points.getLast? with
  | none => simp
  | some l => simp only [ite_eq_iff]; simp; omega

/-- The bank after a point is taken. -/
def Bank.take (b : Bank) (p : TidePoint) : Bank := ⟨.filling, b.points ++ [⟨p.time, clampInt (-30000) 30000 p.level⟩]⟩

theorem Bank.Sound.take {b : Bank} (h : b.Sound) {p : TidePoint} (hp : pointCheck b p = none) : (b.take p).Sound := by
  obtain ⟨-, gaps, levels⟩ := h
  obtain ⟨room, follows⟩ := pointCheck_none_iff.1 hp
  refine ⟨?_, (gapsHold_append _ _).2 ⟨gaps, follows⟩, ?_⟩
  · simp only [Bank.CountFits, Bank.take, List.length_append, List.length_singleton]; omega
  · intro q hq
    rcases List.mem_append.1 hq with old | new
    · exact levels q old
    · obtain rfl := List.mem_singleton.1 new
      dsimp only
      rw [clampInt_eq (by omega)]
      omega

/-- What offering points leaves is sound, and no more SEALED or ACTIVE than what they were offered to. -/
theorem offerPoints_sound : ∀ (ps : List TidePoint) (b : Bank), b.Sound → b.state ≠ .active →
    (offerPoints ps b).bank.Sound ∧ (offerPoints ps b).bank.state ≠ .active
  | [], _, h, hs => ⟨h, hs⟩
  | p :: ps, b, h, hs => by
    unfold offerPoints
    split
    · exact ⟨h, hs⟩
    · next hp => exact offerPoints_sound ps (b.take p) (h.take hp) (by simp [Bank.take])

/-! ## The operations -/

/-- The ring keeps its bound at an append (R27). -/
theorem appendRing_length (ring : List TidePoint) (p : TidePoint) (h : ring.length ≤ 16) :
    (appendRing ring p).length ≤ 16 := by
  unfold appendRing
  split <;> simp <;> omega

/-- A SEALED loading bank may be committed. -/
theorem committable_of_sealed (h : s.BanksSound) (hs : s.twu.banks[s.twu.loading].state = .sealed) :
    s.twu.banks[s.twu.loading].committable = true := Bank.Sound.committable_of_sealed (h.2.2 _) hs

namespace State.KeepsTables
variable (h : s.KeepsTables t)
include h

/-- A change of the banks alone. -/
theorem onTwu_banks {f : Twu → Twu} (banks : t.BanksSound → BanksFit (f t.twu).banks (f t.twu).loading)
    (ring : (f t.twu).ring = t.twu.ring) : s.KeepsTables (t.onTwu f) :=
  h.trans ⟨id, id, id, fun k => by unfold State.RingBounded; rw [State.onTwu_twu, ring]; exact k, banks, id, id⟩

/-- The loading bank changed into one that is not ACTIVE. -/
theorem onLoading {f : Bank → Bank}
    (hf : t.BanksSound → (f t.twu.banks[t.twu.loading]).Sound ∧ (f t.twu.banks[t.twu.loading]).state ≠ .active) :
    s.KeepsTables (t.onTwu fun u => u.onBank t.twu.loading f) :=
  h.onTwu_banks (fun k => BanksFit.load k (hf k).1 (hf k).2) rfl

theorem swapBanks {c : Nat} (hc : t.BanksSound → t.twu.banks[t.twu.loading].committable = true) :
    s.KeepsTables (t.swapBanks c) :=
  (h.onTwu_banks (f := Twu.swap) (fun k => BanksFit.swap k (hc k)) rfl).notify

theorem expireBank : s.KeepsTables t.expireBank :=
  (h.onTwu_banks (f := fun u => u.onBank u.standing fun _ => {}) BanksFit.expire rfl).notify

theorem checkBank : s.KeepsTables t.checkBank := by
  unfold State.checkBank
  dsimp only
  split
  · split
    · split
      · next hs => exact h.swapBanks fun k => committable_of_sealed k hs
      · exact h.expireBank
    · exact h
  · split
    · next hs => exact h.swapBanks fun k => committable_of_sealed k (by simpa using (Bool.and_eq_true_iff.1 hs).1)
    · exact h
  all_goals exact h

theorem checkBanks : s.KeepsTables t.checkBanks := ite h.checkBank.checkBank h

/-! ## Claims and publications -/

theorem evaluateClaim {q : Quantity} : s.KeepsTables (t.evaluateClaim q) := by
  unfold State.evaluateClaim
  dsimp only
  refine ite h ?_
  split
  · exact (h.onTwu (by rfl)).notify.onBand
  · exact (h.onTwu (by rfl)).notify

theorem pdcActs {old : Condition} : s.KeepsTables (t.pdcActs old) :=
  ite h (evaluationFollows (when h (refl t).clearHeader))

theorem modeActs {old : Condition} : s.KeepsTables (t.modeActs old) := by
  unfold State.modeActs
  refine ite h ?_
  split
  · exact h.finishContinuous
  · exact h.evaluateTriggers
  · exact h

theorem capActs {old : Condition} : s.KeepsTables (t.capActs old) := ite h.activatePurge.publishHeld h

theorem swcActs {old : Condition} : s.KeepsTables (t.swcActs old) := ite h h.modeActs.capActs.reevaluate

theorem readersAct {old : Condition} : s.KeepsTables (t.readersAct old) :=
  ite (ite h.drawn.pdcActs.swcActs h.drawn.swcActs.pdcActs) h.pdcActs.swcActs

theorem recompute : s.KeepsTables t.recompute := by
  unfold State.recompute
  exact ite h (h.onTwu (by rfl)).readersAct

theorem reevaluateQuantities {a b : Quantity} : s.KeepsTables (t.reevaluateQuantities a b) :=
  h.foldl (fun t _ => ite (refl t).evaluateClaim (refl t)) _

theorem remind {b : BandId} : s.KeepsTables (t.remind b) := ite h.onBand.notify h

/-! ## The trend ring and the scan event -/

theorem rateEvent : s.KeepsTables t.rateEvent := by
  unfold State.rateEvent
  exact (h.onTwu (by rfl)).evaluateClaim.recompute.settle

theorem emptyRing : s.KeepsTables t.emptyRing :=
  (h.onTwu_ring (f := fun u => { u with ring := [], trendTimer := 0 }) (fun _ => Nat.zero_le 16) rfl).rateEvent

theorem handLevels : s.KeepsTables t.handLevels := by
  unfold State.handLevels
  exact (h.onTwu (by rfl)).evaluateClaim.evaluateClaim.recompute.settle

theorem twuReads {before : SeaClass} : s.KeepsTables (t.twuReads before) :=
  ite (ite h.drawn.emptyRing.handLevels h.drawn.handLevels.emptyRing) h.handLevels

theorem swcReads : s.KeepsTables t.swcReads := h.evaluateTriggers.formVerdicts.settle

theorem marginPeriod {p : PumpId} : s.KeepsTables (t.marginPeriod p) := h.onPump fun _ => by rfl

theorem pdcReads : s.KeepsTables t.pdcReads :=
  (h.foldl (f := State.marginPeriod) (fun t _ => (refl t).marginPeriod) allPumps).evaluationFollows.settle

theorem read {before : SeaClass} {k : Nat} : s.KeepsTables (State.read before k t) := by
  unfold State.read
  split
  · exact h.twuReads.swcReads.pdcReads
  · exact h.twuReads.pdcReads.swcReads
  · exact h.swcReads.twuReads.pdcReads
  · exact h.swcReads.pdcReads.twuReads
  · exact h.pdcReads.twuReads.swcReads
  · exact h.pdcReads.swcReads.twuReads

theorem publishRecord : s.KeepsTables t.publishRecord := ite h.onLau h.onLau.notify

theorem scanEnd : s.KeepsTables t.scanEnd := by
  unfold State.scanEnd
  exact h.publishRecord.drawn.read

theorem sampleNotice {c : ChannelId} {ch : Channel} {e : Nat} : s.KeepsTables (t.sampleNotice c ch e) := by
  obtain hn | ⟨_, _, _, _, _, _, hn⟩ := sampleNotice_cases t c ch e <;> rw [hn]
  · exact h
  · exact h.notify

theorem dealChannel {c : ChannelId} {sample e : Nat} : s.KeepsTables (t.dealChannel c sample e) := by
  unfold State.dealChannel
  exact ite h.onChannel.sampleNotice h.onChannel

theorem dealNext : s.KeepsTables t.dealNext := by
  unfold State.dealNext
  split
  · exact h
  · split
    · exact h.dealChannel.onLau
    · exact h

omit h in
theorem dealMany : ∀ (k : Nat) {t : State}, s.KeepsTables t → s.KeepsTables (State.dealMany k t)
  | 0, _, h => h
  | k + 1, _, h => dealMany k h.dealNext

end State.KeepsTables

end Sys2Proof.Machine
end

section
/-! PROOFS. The tables through the commands of the SWC and of the PDC, and the duty order through its rotation. -/

namespace Sys2Proof.Machine

variable {s t : State}

namespace State.KeepsTables
variable (h : s.KeepsTables t)
include h

/-- What a changed setting does. -/
theorem changed {old new : Nat} {f : State → State} (hf : ∀ t : State, t.KeepsTables (f t)) :
    s.KeepsTables (whenNew old new f t) := ite h (h.trans (hf t))

/-! ## Screens -/

section Screens
variable {n : ScreenId}

theorem acceptPulse {w : WashRecord} : s.KeepsTables (t.acceptPulse n w) := by
  unfold State.acceptPulse
  split
  · exact ite h.setWash (ite h.setWash.enterScreen h.setWash)
  · exact h.setWash.endWash.settle
  all_goals exact h

theorem jamActs {rising : Bool} : s.KeepsTables (t.jamActs n rising) := by
  unfold State.jamActs
  split
  iterate 2 exact ite h.endWash.publishCapacity.settle h
  · exact h.reevaluate.settle
  all_goals exact h

theorem jamLevel {level : Bool} : s.KeepsTables (t.jamLevel n level) :=
  ite h (ite h.onScreen.jamActs h.onScreen)

theorem stopWash : s.KeepsTables (t.stopWash n) := by
  unfold State.stopWash
  split
  iterate 2 exact h.endWash.settle
  · exact h.removeEntry.settle
  all_goals exact h

theorem serviceOut : s.KeepsTables (t.serviceOut n) := by
  unfold State.serviceOut
  split
  iterate 2 exact h.endWash
  · exact h.removeEntry
  iterate 2 exact h.enterScreen
  · exact h

theorem foundJammed : s.KeepsTables (t.foundJammed n) := h.enterScreen.notify

theorem serviceIn : s.KeepsTables (t.serviceIn n) := by
  unfold State.serviceIn
  split
  · exact ite h.foundJammed h.enterScreen
  all_goals exact h

theorem purgeIntervalActs : s.KeepsTables t.purgeIntervalActs := by
  unfold State.purgeIntervalActs
  split
  · exact h.onSwc
  · exact ite h.finishPurge h
  · exact h

theorem washTimingActs {old : Swc} : s.KeepsTables (t.washTimingActs old) := by
  unfold State.washTimingActs
  exact h.changed (fun t => (refl t).endWashes)
    |>.changed (fun t => ite (refl t).endSluice.publishHeld (refl t))
    |>.changed (fun t => (refl t).purgeIntervalActs)
    |>.changed (fun t => ite (refl t).finishPurge (refl t))
    |>.changed (fun t => ite (refl t).purgeOverdue (refl t))
    |>.changed (fun t => ite (refl t).loseHeader (refl t))

theorem hostWash {p m : Nat} : s.KeepsTables (t.hostWash n p m) := by
  unfold State.hostWash
  split
  · exact h.joinQueue.reevaluate.settle
  · exact h.mergeQueue.reevaluate.settle
  iterate 2 exact h.stage
  all_goals exact h

end Screens

/-! ## Pumps -/

section Pumps
variable {p : PumpId}

theorem feedbackLevel {level : Bool} : s.KeepsTables (t.feedbackLevel p level) := h.onPump fun _ => by rfl

theorem disablePump : s.KeepsTables (t.disablePump p) := by
  unfold State.disablePump
  refine enterPump (onPump ?_ fun _ => by rfl) (by decide)
  split
  · exact h.leaveStart.refuseStart
  · exact h

theorem cutRecovery : s.KeepsTables (t.cutRecovery p) :=
  ite (ite ((h.onPump fun _ => by rfl).enterPump (by decide)) (h.onPump fun _ => by rfl)) h

theorem pumpTimingActs {old : Pdc} : s.KeepsTables (t.pumpTimingActs old) := by
  have cut (c : PumpClass) (t : State) : t.KeepsTables (State.cutClass c t) :=
    (refl t).foldl (fun t _ => ite (refl t).cutRecovery (refl t)) _
  unfold State.pumpTimingActs
  exact h.changed (cut _) |>.changed (cut _)
    |>.changed (fun t => (refl t).foldl (fun t _ => ite (refl t).failPump (refl t)) _)
    |>.changed (fun t => (refl t).foldl (fun t _ => ite (refl t).failPump (refl t)) _)
    |>.changed (fun t => ((refl t).onPdc (by rfl)).startArbiter)
    |>.changed (fun t => (refl t).evaluationFollows)
    |>.changed (fun t => (refl t).foldl (fun t _ => ite (refl t).lowLevelActs (refl t)) _)
    |>.changed (fun t => ((refl t).foldl (fun t _ => ite (refl t).fallDue (refl t)) _).evaluationFollows)
    |>.changed (fun t => (refl t).evaluationFollows)
    |>.changed (fun t => (refl t).onPdc (by rfl))
    |>.changed (fun t => ite ((refl t).onPdc (by rfl)).evaluationFollows (refl t))

theorem hostStart {m : Nat} : s.KeepsTables (t.hostStart p m) := by
  unfold State.hostStart
  split
  · exact h.onPump fun _ => by rfl
  · exact h.joinStart.settle
  all_goals exact h

theorem hostStop {f : Bool} {m : Nat} : s.KeepsTables (t.hostStop p f m) := by
  unfold State.hostStop
  split
  · exact h.onPump fun _ => by rfl
  · exact (ite h.clearHeader h).orderStop.settle
  all_goals exact h

end Pumps

end State.KeepsTables

/-! ## The duty order (R134, R135) -/

theorem rotate_toList (v : Vector PumpId 8) : (rotate v).toList = v.toList.rotate 1 := by
  refine List.ext_getElem (by simp) fun i hi _ => ?_
  have : i < 8 := by simpa using hi
  interval_cases i <;> simp [rotate, List.getElem_rotate]

theorem toOrder_nodup {l : List Nat} {o : Vector PumpId 8} (h : toOrder l = some o) : o.toList.Nodup := by
  unfold toOrder at h
  split at h
  · split at h
    · cases h; assumption
    · cases h
  · cases h

end Sys2Proof.Machine
end

section
/-! PROOFS. The tables through the deferred requests, the link, the image and the start of the part: a slot is opened
for a target that has none (R176). -/

namespace Sys2Proof.Machine

variable {s t : State}

/-! ## Slots -/

theorem slot_of_slotOf {g : Target} {i : SlotId} (h : s.slotOf g = some i) : ∃ sl, s.slp.slots[i] = some sl := by
  have found := List.find?_some h
  revert found
  split
  · next sl hs => exact fun _ => ⟨sl, hs⟩
  · intro found; cases found

theorem target_ne_of_slotOf_none {g : Target} (h : s.slotOf g = none) {i : SlotId} {a : Slot}
    (ha : s.slp.slots[i] = some a) : a.target ≠ g := by
  have none := List.find?_eq_none.1 h i (by rw [allSlots_eq]; simp)
  simpa [ha] using none

theorem slot_set (v : Vector (Option Slot) 4) (i j : SlotId) (b : Option Slot) :
    (v.set i b)[j] = if i = j then b else v[j] := by
  by_cases h : i = j
  · subst h; simp
  · have h' : i.val ≠ j.val := fun e => h (Fin.ext e)
    simp [h, h']

namespace State.KeepsTables

theorem openSlot (h : s.KeepsTables t) {i : SlotId} {k : DeferredKind} {g : Target} {args : List Byte}
    (free : t.slotOf g = none) : s.KeepsTables (t.openSlot i k g args) := by
  refine h.trans ⟨id, id, id, id, id, id, fun differ m n a b ha hb hab => ?_⟩
  simp only [State.openSlot, State.onSlp_slp, slot_set] at ha hb
  split at ha <;> split at hb
  · simp_all
  · cases ha; exact absurd hab.symm (target_ne_of_slotOf_none free hb)
  · cases hb; exact absurd hab (target_ne_of_slotOf_none free ha)
  · exact differ m n a b ha hb hab

variable (h : s.KeepsTables t)
include h

theorem freeSlotAt {i : SlotId} : s.KeepsTables (t.freeSlotAt i) := by
  refine h.onSlp_slots (fun j b hb => ⟨b, ?_, rfl⟩) (by rfl)
  rw [slot_set] at hb
  split at hb
  · cases hb
  · exact hb

theorem discardSlot {i : SlotId} : s.KeepsTables (t.discardSlot i) := by
  unfold State.discardSlot
  split
  · split
    · exact h.freeSlotAt.notify
    · exact h
  · exact h

theorem reportSave {m r n : Nat} : s.KeepsTables (t.reportSave m r n) := h.notify.complete

theorem beginSave {m : Nat} : s.KeepsTables (t.beginSave m) := h.onSlp (by rfl)

/-! ## The link -/

theorem hunt : s.KeepsTables t.hunt := h.onSlp (by rfl)

theorem goodFrame {f : Frame} : s.KeepsTables (t.goodFrame f) := ite h.heard.markLinkError h.heard.hold

theorem enterFallback : s.KeepsTables t.enterFallback := by
  unfold State.enterFallback
  refine (((setMode (h.onSlp_slots (fun i b hb => ⟨b, ?_, rfl⟩) (by rfl))).onPdc (by rfl)).evaluationFollows.settle).notify
  have kept : dropDone t.slp.slots[i] = some b := by simpa using hb
  exact (Option.filter_eq_some_iff.1 kept).1

theorem linkActs {old : Slp} : s.KeepsTables (t.linkActs old) := by
  unfold State.linkActs
  exact h.changed (fun t => (refl t).onSlp (by rfl)) |>.changed (fun t => (refl t).onSlp (by rfl))
    |>.changed (fun t => (refl t).foldl (fun t _ => ite (refl t).discardSlot (refl t)) _)

theorem linkReset : s.KeepsTables (t.onSlp Slp.linkReset) :=
  h.trans ⟨id, id, id, id, id, fun k => ⟨Nat.zero_le _, (List.length_take_le' ..).trans k.2⟩,
    fun _ i _ a _ ha _ _ => by simp [Slp.linkReset] at ha⟩

end State.KeepsTables

/-- What a change of the rate in force leaves of the link. -/
theorem takeRate_tables (l : Slp) : l.takeRate.tables = l.tables := by
  unfold Slp.takeRate; split <;> rfl

theorem start_tables (l : Slp) : l.start.tables = l.tables := by
  unfold Slp.start; dsimp only; split
  · exact takeRate_tables _
  · rfl

/-! ## Start-up -/

/-- Start-up empties the tables, whatever they were. -/
theorem State.KeepsTables.startUp (s u : State) (c : Bool) : s.KeepsTables (u.startUp c) where
  starting _ p q hp _ := by rw [pump_startUp] at hp; cases hp
  starts _ := List.nodup_nil
  order _ := reset_tablesSound.order
  ring _ := Nat.zero_le 16
  banks _ := banksSound_congr reset_banksSound rfl rfl
  link _ := ⟨Nat.zero_le 32, Nat.zero_le 2⟩
  targets _ := reset_tablesSound.targets

/-! ## The image and the end of LOADING -/

namespace State.KeepsTables
variable (h : s.KeepsTables t)
include h

theorem applyRecord {r : Record} : s.KeepsTables (t.applyRecord r) := by
  have pumpLoad (q : Pump) (l : List Int) : (q.load l).state = q.state := by unfold Pump.load; split <;> rfl
  have pumpCounters (q : Pump) (l : List Int) : (q.loadCounters l).state = q.state := by
    unfold Pump.loadCounters; split <;> rfl
  have order (l : List Nat) (k : t.OrderPermutes) : ((toOrder l).getD t.pdc.order).toList.Nodup := by
    cases e : toOrder l with
    | none => exact k
    | some o => exact toOrder_nodup e
  unfold State.applyRecord
  split
  · split
    · exact h.onChannel
    · exact h
  · exact h.onLau
  · exact h.onTwu (by rfl)
  · split
    · exact h.onBand
    · exact h
  · exact h.onTwu (by rfl)
  · split
    · exact h.onScreen
    · exact h
  · exact h.onSwc
  · split
    · exact h.onPump fun q => pumpLoad q _
    · exact h
  · have loaded (d : Pdc) (l : List Int) : (d.load l).tables = d.tables := by unfold Pdc.load; split <;> rfl
    exact h.onPdc (loaded _ _)
  · exact h.onPdc_queue (.refl _) (order _) rfl
  · have loaded (d : Slp) (l : List Int) : (d.load l).tables = d.tables := by unfold Slp.load; split <;> rfl
    exact h.onSlp (loaded _ _)
  · split
    · exact h.onPump fun q => pumpCounters q _
    · exact h
  · exact h

theorem loadImage {b : Bool} : s.KeepsTables (t.loadImage b) := by
  unfold State.loadImage
  split
  · exact (h.foldl (fun t _ => (refl t).applyRecord) _).onSlp (by rfl)
  · exact h.notify

theorem finishSave : s.KeepsTables (t.onSlp Slp.finishSave) := by
  have saved (l : Slp) : l.finishSave.tables = l.tables := by unfold Slp.finishSave; split <;> rfl
  exact h.onSlp (saved _)

theorem takeSettings {b : Bool} : s.KeepsTables (t.takeSettings b) := ite h.loadImage h

theorem startScreen {n : ScreenId} : s.KeepsTables (t.startScreen n) :=
  ite (ite h.foundJammed h.enterScreen) h.enterScreen

theorem startPump {p : PumpId} : s.KeepsTables (t.startPump p) :=
  ite (h.onPump fun _ => by rfl).rest (h.enterPump (by decide))

theorem startLau {v : Vector Nat 12} : s.KeepsTables (t.startLau v) := h.onLau

theorem startLink : s.KeepsTables (t.onSlp Slp.start) :=
  h.onSlp (start_tables _)

theorem startBlocks {v : Vector Nat 12} : s.KeepsTables (t.startBlocks v) := by
  have screens := h.startLau (v := v) |>.foldl (f := State.startScreen) (fun t _ => (refl t).startScreen) allScreens
  have pumps := screens.foldl (f := State.startPump) (fun t _ => (refl t).startPump) allPumps
  unfold State.startBlocks
  dsimp only
  generalize allPumps.foldl State.startPump (allScreens.foldl State.startScreen (t.startLau v)) = u at pumps ⊢
  refine startLink (onPdc (onSwc ?_) (by rfl))
  exact pumps.same (by rfl)

/-! ## A millisecond -/

theorem elapse : s.KeepsTables t.elapse := by
  have pumps : StartEntry.pump ∘ (fun e : StartEntry => { e with ageMs := e.ageMs + 1 }) = StartEntry.pump := rfl
  have target (sl : Slot) : sl.elapse.target = sl.target := by unfold Slot.elapse; split <;> rfl
  refine h.trans ⟨fun k => oneStarting_of_imp k fun p hp => ?_, fun k => startsDiffer_of_sublist k ?_, id, id, id, id,
    fun k => targetsDiffer_of_from k fun i b hb => ?_⟩
  · simpa [State.pump, State.elapse, Pdc.elapse, Pump.elapse] using hp
  · simp [State.elapse, Pdc.elapse, pumps]
  · obtain ⟨a, ha, rfl⟩ : ∃ a, t.slp.slots[i] = some a ∧ a.elapse = b := by
      simpa [State.elapse, Slp.elapse, Option.map_eq_some_iff] using hb
    exact ⟨a, ha, (target a).symm⟩

theorem idle : s.KeepsTables t.idle := by
  unfold State.idle
  split
  · exact ite (ite h.dealNext h.elapse) h
  · exact h.same (by rfl)

end State.KeepsTables

end Sys2Proof.Machine
end

section
/-! PROOFS. The walk of the commands: each keeps the tables, queues and banks sound, and so does the step on an empty
queue: O7. -/

namespace Sys2Proof.Machine

variable {s : State}

/-! ## Rules of requests -/

theorem State.keeps (s : State) : s.KeepsTables s := .refl s

/-- The rule of a request keeps the tables. -/
def RuleKeepsTables (rule : State → Answer) : Prop := ∀ t : State, t.KeepsTables (rule t).state

namespace RuleKeepsTables

theorem refuse (c : Code) : RuleKeepsTables fun t => .refuse t c := fun t => t.keeps

theorem withArgs {α : Type} {k : α → State → Answer} (a : Form α) (h : ∀ x, RuleKeepsTables (k x)) :
    RuleKeepsTables (withArgs a k) := by
  cases a with
  | args x => exact h x
  | mismatch => exact fun t => t.keeps

theorem outsideFallback {k : State → Answer} (h : RuleKeepsTables k) : RuleKeepsTables (outsideFallback k) := by
  intro t
  unfold Machine.outsideFallback
  split
  · exact t.keeps
  · exact h t

theorem ite {c : State → Prop} [∀ t, Decidable (c t)] {a b : State → Answer} (ha : RuleKeepsTables a)
    (hb : RuleKeepsTables b) : RuleKeepsTables fun t => if c t then a t else b t := by
  intro t
  dsimp only
  split
  · exact ha t
  · exact hb t

end RuleKeepsTables

/-! ## Deferred requests -/

/-- What the rule of the owner of a deferred request leaves. -/
def Verdict.KeepsTables (t : State) : Verdict → Prop
  | .answered u => t.KeepsTables u
  | .refused _ | .opens => True

/-- A request with no slot for its target opens one for it. -/
theorem newRequest_keepsTables {k : DeferredKind} {g : Target} {args : List Byte} {v : Verdict}
    {act : Nat → State → State} {data : List Byte} (free : s.slotOf g = none) (hv : v.KeepsTables s)
    (ha : ∀ m (t : State), t.KeepsTables (act m t)) : s.KeepsTables (newRequest k g args v act data s).state := by
  unfold newRequest
  split
  · exact s.keeps
  · exact hv
  · split
    · exact s.keeps
    · exact (s.keeps.openSlot free).trans (ha _ _)

theorem foundSlot_keepsTables (i : SlotId) (sl : Slot) (k : DeferredKind) (args : List Byte) :
    RuleKeepsTables (foundSlot i sl k args) := by
  intro t
  unfold foundSlot
  split
  · split
    · exact t.keeps
    · exact t.keeps.freeSlotAt
  · exact t.keeps

theorem RuleKeepsTables.deferred {k : DeferredKind} {g : Target} {args : List Byte} {v : State → Verdict}
    {act : Nat → State → State} {data : List Byte} (hv : ∀ t, (v t).KeepsTables t)
    (ha : ∀ m (t : State), t.KeepsTables (act m t)) : RuleKeepsTables (deferredRequest k g args v act data) := by
  intro t
  unfold deferredRequest
  split
  · next found =>
    obtain ⟨sl, hs⟩ := slot_of_slotOf found
    rw [hs]
    exact foundSlot_keepsTables _ _ _ _ t
  · next free => exact newRequest_keepsTables free (hv t) ha

theorem washVerdict_keepsTables (n : ScreenId) (t : State) : (washVerdict n t).KeepsTables t := by
  unfold washVerdict
  split
  iterate 4 trivial
  all_goals split <;> trivial

theorem startVerdict_keepsTables (p : PumpId) (t : State) : (startVerdict p t).KeepsTables t := by
  unfold startVerdict
  split
  · trivial
  · split
    · exact t.keeps
    all_goals trivial

theorem stopVerdict_keepsTables (p : PumpId) (f : Bool) (t : State) : (stopVerdict p f t).KeepsTables t := by
  unfold stopVerdict
  split
  · trivial
  · split
    · exact t.keeps.leaveStart
    iterate 3 exact t.keeps
    iterate 2 trivial
    split <;> trivial

theorem saveVerdict_keepsTables (t : State) : (saveVerdict t).KeepsTables t := by
  unfold saveVerdict; split <;> trivial

/-! ## Requests taken -/

theorem serve_keepsTables {f g : State → Answer} (hf : RuleKeepsTables f) (hg : RuleKeepsTables g) (t : State) :
    t.KeepsTables (t.serve f g) := by
  unfold State.serve
  dsimp only
  refine .reply ?_
  split
  · exact hf t
  · exact hg t
  · exact hg t

/-- A request whose rule keeps the tables keeps them, however it comes and whether or not it is taken. -/
theorem requestIn_keepsTables {f g : State → Answer} (hf : RuleKeepsTables f) (hg : RuleKeepsTables g) (i : Instr)
    (s : State) : s.KeepsTables (s.requestIn i f g) := by
  have arrived : s.KeepsTables (s.arrive i) := s.keeps.arrive
  have taken : s.KeepsTables (if s.slp.replyOutstanding then s.arrive i
      else match s.slp.requests with
        | [] => (s.arrive i).serve f g
        | r :: _ => if r.command = i then s.serve f g else s.arrive i) := by
    refine .ite arrived ?_
    split
    · exact arrived.trans (serve_keepsTables hf hg _)
    · exact .ite (serve_keepsTables hf hg s) arrived
  unfold State.requestIn
  split
  · exact s.keeps
  all_goals exact taken

/-! ## The commands -/

/-- A command ends in a next state, with the tables as sound as in `s`. -/
def EndsKeepingTables (s : State) (o : Host.Outcome State Fault Refusal) : Prop := ∃ t, o = .next t ∧ s.KeepsTables t

namespace EndsKeepingTables

theorem next {t : State} (h : s.KeepsTables t) : EndsKeepingTables s (.next t) := ⟨t, rfl, h⟩

/-- A command that acts on a condition, and otherwise does nothing. -/
theorem onCondition {c : Prop} [Decidable c] {t : State} (h : s.KeepsTables t) :
    EndsKeepingTables s (.next (if c then t else s)) := next (.ite h (s.keeps))

theorem request {rule : State → Answer} (h : RuleKeepsTables rule) (i : Instr) (s : State) :
    EndsKeepingTables s (.next (s.request i rule)) := next (requestIn_keepsTables (.refuse _) h i s)

/-- A request with arguments. -/
theorem args {α : Type} {k : α → State → Answer} (i : Instr) (a : Form α) (s : State) (h : ∀ x, RuleKeepsTables (k x)) :
    EndsKeepingTables s (.next (s.request i (withArgs a k))) := request (.withArgs a h) i s

/-- A request that reads. -/
theorem reads {α : Type} {k : α → State → Answer} (i : Instr) (a : Form α) (s : State) (h : ∀ x t, (k x t).state = t) :
    EndsKeepingTables s (.next (s.request i (withArgs a k))) := args i a s fun x t => by rw [h]; exact t.keeps

end EndsKeepingTables

open State.KeepsTables (startUp)

section Events
variable (s : State)

theorem keepsTables_loadingEnd (e : LoaderEnd) : EndsKeepingTables s (execLoadingEnd e s) :=
  .onCondition s.keeps.finishSave.takeSettings.startBlocks

theorem keepsTables_scanTimerExpiry (v : Vector Nat 12) (dealt : Nat) :
    EndsKeepingTables s (execScanTimerExpiry v dealt s) :=
  .onCondition (.dealMany _ s.keeps.onLau)

theorem keepsTables_scanEvent : EndsKeepingTables s (execScanEvent s) := .onCondition (.scanEnd (.dealMany _ s.keeps))

theorem keepsTables_trendTimerExpiry : EndsKeepingTables s (execTrendTimerExpiry s) :=
  .onCondition (.ite (s.keeps.onTwu (by rfl))
    ((s.keeps.onTwu (by rfl)).onTwu_ring (appendRing_length _ _) (by rfl)).rateEvent)

theorem keepsTables_reminderTimerExpiry : EndsKeepingTables s (execReminderTimerExpiry s) :=
  .onCondition ((s.keeps.onTwu (by rfl)).foldl (fun t _ => t.keeps.remind) _)

theorem keepsTables_indexPulse (n : ScreenId) : EndsKeepingTables s (execIndexPulse n s) := by
  refine .onCondition ?_
  split
  · exact s.keeps
  · exact .ite s.keeps.setWash s.keeps.acceptPulse

theorem keepsTables_hdokChange (level : Bool) : EndsKeepingTables s (execHdokChange level s) :=
  .next (.ite s.keeps (.ite s.keeps.onSwc.reevaluate.settle s.keeps.onSwc))

theorem keepsTables_pfbRising (p : PumpId) : EndsKeepingTables s (execPfbRising p s) :=
  .next (.ite s.keeps (.ite s.keeps.feedbackLevel.enterRunning.settle s.keeps.feedbackLevel))

theorem keepsTables_pfbFalling (p : PumpId) : EndsKeepingTables s (execPfbFalling p s) := by
  have read : s.KeepsTables (s.feedbackLevel p false) := s.keeps.feedbackLevel
  refine .onCondition (.ite ?_ read)
  split
  · exact .ite read read.failPump.settle
  · exact read.stopEnded.settle
  all_goals exact read

theorem keepsTables_ptrpActive (p : PumpId) (level : Bool) : EndsKeepingTables s (execPtrpActive p level s) :=
  .next (.ite (s.keeps.onPump fun _ => by rfl).failPump.settle (s.keeps.onPump fun _ => by rfl))

theorem keepsTables_rotationTimerExpiry : EndsKeepingTables s (execRotationTimerExpiry s) := by
  have rotated : s.KeepsTables
      (s.onPdc fun d => { d with order := rotate d.order, rotationTimer := 0, changeover := true }) :=
    s.keeps.onPdc_queue (.refl _) (fun k => by dsimp only; rw [rotate_toList]; exact List.nodup_rotate.2 k) rfl
  exact .onCondition rotated.notify.evaluationFollows.settle

theorem keepsTables_shedTimerExpiry (k : ScopeId) : EndsKeepingTables s (execShedTimerExpiry k s) := by
  refine .next ?_
  split
  · exact .ite s.keeps.fallDue.settle s.keeps
  · exact s.keeps

theorem keepsTables_supervisionTimerExpiry : EndsKeepingTables s (execSupervisionTimerExpiry s) :=
  .onCondition (.ite (s.keeps.onSlp (by rfl)) (s.keeps.onSlp (by rfl)).enterFallback)

theorem keepsTables_saveConfigEnd (e : SaveEnd) : EndsKeepingTables s (execSaveConfigEnd e s) := by
  refine .next ?_
  split
  · exact s.keeps
  · exact .ite (s.keeps.onSlp (by rfl)).reportSave (s.keeps.onSlp (by rfl))

theorem keepsTables_frameReceived (f : Frame) : EndsKeepingTables s (execFrameReceived f s) :=
  .onCondition (.ite s.keeps.hunt.goodFrame s.keeps.hunt.markLinkError)

theorem keepsTables_replySent (c : Bool) : EndsKeepingTables s (execReplySent c s) := by
  refine .next ?_
  split
  · have sent : s.KeepsTables (s.onSlp fun l => { l with requests := l.requests.drop 1, tx := .free }.takeRate) := by
      have dropped : s.KeepsTables (s.onSlp fun l => { l with requests := l.requests.drop 1, tx := .free }) :=
        s.keeps.onSlp_queues (Nat.le_refl s.slp.notices.length) (by simp) rfl
      exact dropped.onSlp (takeRate_tables _)
    exact .ite (startUp _ _ _) sent.transmitNext
  all_goals exact s.keeps

theorem keepsTables_batchSent : EndsKeepingTables s (execBatchSent s) := by
  refine .next ?_
  split
  · exact (s.keeps.onSlp (by rfl)).transmitNext
  all_goals exact s.keeps

end Events

section Requests
variable (s : State)

theorem keepsTables_getTidePoints (a : Form (Nat × Nat)) : EndsKeepingTables s (execGetTidePoints a s) := by
  refine .reads _ a s fun x t => ?_
  split
  · rfl
  · dsimp only; split <;> rfl

theorem keepsTables_getScreen (a : Form Nat) : EndsKeepingTables s (execGetScreen a s) := by
  refine .reads _ a s fun x t => ?_
  split <;> rfl

theorem keepsTables_getPump (a : Form Nat) : EndsKeepingTables s (execGetPump a s) := by
  refine .reads _ a s fun x t => ?_
  split <;> rfl

theorem keepsTables_setChannel (a : Form ChannelArgs) : EndsKeepingTables s (execSetChannel a s) := by
  have set (n : ChannelId) (en : Option Bool) (c : ChannelArgs) : RuleKeepsTables (setChannelOn n en c) :=
    fun t => by
      unfold setChannelOn
      dsimp only
      exact t.keeps.onChannel
  refine .args _ a s fun x t => ?_
  split
  · exact t.keeps
  · split
    · exact t.keeps
    · split
      · exact set _ _ _ t
      · split
        · exact t.keeps
        · exact set _ _ _ t

theorem keepsTables_setSea (a : Form SeaArgs) : EndsKeepingTables s (execSetSea a s) := by
  refine .args _ a s fun x t => ?_
  split
  · exact t.keeps
  · dsimp only
    exact t.keeps.onLau

theorem keepsTables_setTrend (a : Form Nat) : EndsKeepingTables s (execSetTrend a s) :=
  .args _ a s fun _ t => .ite t.keeps (t.keeps.onTwu (by rfl)).emptyRing

theorem keepsTables_setBandEntry (a : Form BandArgs) : EndsKeepingTables s (execSetBandEntry a s) := by
  refine .args _ a s fun x t => ?_
  split
  · exact t.keeps
  · split
    · exact t.keeps
    · exact t.keeps.onBand.reevaluateQuantities.recompute.settle

theorem keepsTables_setScreen (a : Form ScreenArgs) : EndsKeepingTables s (execSetScreen a s) := by
  refine .args _ a s fun x t => ?_
  split
  · exact t.keeps
  · split
    · exact t.keeps
    · dsimp only
      exact t.keeps.onScreen

theorem keepsTables_setWashTiming (a : Form WashTimingArgs) : EndsKeepingTables s (execSetWashTiming a s) := by
  refine .args _ a s fun x t => ?_
  split
  · exact t.keeps
  · exact t.keeps.onSwc.washTimingActs.settle

theorem setPumpOn_keepsTables (p : PumpId) (k : Option PumpClass) (c : PumpArgs) :
    RuleKeepsTables (setPumpOn p k c) := fun t =>
  .ite (t.keeps.onPump fun _ => by rfl) (t.keeps.onPump fun _ => by rfl).cutRecovery.settle

theorem keepsTables_setPump (a : Form PumpArgs) : EndsKeepingTables s (execSetPump a s) := by
  refine .args _ a s fun x t => ?_
  split
  · exact t.keeps
  · split
    · exact t.keeps
    · split
      · exact setPumpOn_keepsTables _ _ _ t
      · split
        · exact t.keeps
        · exact setPumpOn_keepsTables _ _ _ t

theorem keepsTables_setPumpTiming (a : Form PumpTimingArgs) : EndsKeepingTables s (execSetPumpTiming a s) := by
  refine .args _ a s fun x t => ?_
  split
  · exact t.keeps
  · exact (t.keeps.onPdc (by rfl)).pumpTimingActs.settle

theorem keepsTables_setDutyOrder (a : Form (List Nat)) : EndsKeepingTables s (execSetDutyOrder a s) := by
  refine .args _ a s fun x t => ?_
  split
  · exact t.keeps
  · next o ho =>
    have ordered : t.KeepsTables (t.onPdc fun d => { d with order := o, rotationTimer := 0, changeover := true }) :=
      t.keeps.onPdc_queue (.refl _) (fun _ => toOrder_nodup ho) rfl
    exact .ite ordered ordered.evaluationFollows.settle

theorem keepsTables_setDutyMode (a : Form Nat) : EndsKeepingTables s (execSetDutyMode a s) := by
  refine .args _ a s fun x t => ?_
  split
  · exact t.keeps
  · exact RuleKeepsTables.outsideFallback (fun u => u.keeps.setMode.settle) t

theorem keepsTables_setDemand (a : Form Nat) : EndsKeepingTables s (execSetDemand a s) :=
  .args _ a s fun _ => .outsideFallback fun t => .ite t.keeps (t.keeps.onPdc (by rfl)).evaluationFollows.settle

theorem keepsTables_setLink (a : Form LinkArgs) : EndsKeepingTables s (execSetLink a s) := by
  refine .args _ a s fun x t => ?_
  split
  · exact t.keeps
  · split
    · exact t.keeps
    · exact (t.keeps.onSlp (by rfl)).linkActs

theorem keepsTables_setClockStep (a : Form Int) : EndsKeepingTables s (execSetClockStep a s) := by
  refine .args _ a s fun x t => ?_
  split
  · exact (t.keeps.onSlp (by rfl)).checkBanks
  · exact t.keeps

theorem keepsTables_tidePoints (a : Form (List TidePoint)) : EndsKeepingTables s (execTidePoints a s) := by
  refine .args _ a s fun x t => ?_
  dsimp only
  split
  · exact t.keeps
  · split
    · exact t.keeps
    · exact t.keeps.onLoading fun ⟨idle, _, sound⟩ => offerPoints_sound _ _ (sound _) idle

theorem keepsTables_tideCommitNow (a : Form Unit) : EndsKeepingTables s (execTideCommitNow a s) := by
  refine .args _ a s fun x t => ?_
  dsimp only
  split
  · next hc => exact (t.keeps.swapBanks fun _ => hc).checkBanks
  · exact t.keeps

theorem keepsTables_tideSeal (a : Form Unit) : EndsKeepingTables s (execTideSeal a s) := by
  refine .args _ a s fun x t => ?_
  dsimp only
  split
  · next hc =>
    obtain ⟨filling, two⟩ := sealable_iff.1 hc
    have sealed : t.KeepsTables (t.onTwu fun u => u.onBank t.twu.loading fun b => { b with state := .sealed }) :=
      t.keeps.onLoading fun ⟨_, _, sound⟩ =>
        ⟨Bank.Sound.promote (sound _) (committable_iff.2 ⟨.inl filling, two⟩) (.inl rfl), nofun⟩
    exact sealed.checkBanks
  · exact t.keeps

theorem keepsTables_tideClear (a : Form Unit) : EndsKeepingTables s (execTideClear a s) :=
  .args _ a s fun _ t => t.keeps.onLoading fun _ => ⟨Bank.sound_empty, by decide⟩

theorem keepsTables_stopWash (a : Form Nat) : EndsKeepingTables s (execStopWash a s) := by
  refine .args _ a s fun x t => ?_
  split
  · exact t.keeps
  · exact RuleKeepsTables.outsideFallback (fun u => u.keeps.stopWash) t

theorem keepsTables_clearScreen (a : Form Nat) : EndsKeepingTables s (execClearScreen a s) := by
  refine .args _ a s fun x t => ?_
  split
  · exact t.keeps
  · split
    · split
      · exact t.keeps
      · exact t.keeps.enterScreen.publishCapacity.settle
    all_goals exact t.keeps

theorem keepsTables_setService (a : Form (Nat × Nat)) : EndsKeepingTables s (execSetService a s) := by
  refine .args _ a s fun x t => ?_
  split
  · exact RuleKeepsTables.outsideFallback (fun u =>
      (State.KeepsTables.ite u.keeps.onScreen.serviceIn u.keeps.onScreen.serviceOut).publishCapacity.settle) t
  · exact t.keeps

theorem keepsTables_enablePump (a : Form Nat) : EndsKeepingTables s (execEnablePump a s) := by
  refine .args _ a s fun x t => ?_
  split
  · exact t.keeps
  · split
    · dsimp only
      exact (t.keeps.onPump fun _ => by rfl).rest.settle
    all_goals exact t.keeps

theorem keepsTables_disablePump (a : Form Nat) : EndsKeepingTables s (execDisablePump a s) := by
  refine .args _ a s fun x t => ?_
  split
  · exact t.keeps
  · split
    · exact t.keeps
    iterate 3
      dsimp only
      exact t.keeps.disablePump.settle
    all_goals exact t.keeps

theorem keepsTables_clearPump (a : Form Nat) : EndsKeepingTables s (execClearPump a s) := by
  refine .args _ a s fun x t => ?_
  split
  · exact t.keeps
  · split
    · split
      · exact t.keeps
      · dsimp only
        exact t.keeps.rest.settle
    all_goals exact t.keeps

theorem keepsTables_resetHours (a : Form Nat) : EndsKeepingTables s (execResetHours a s) := by
  refine .args _ a s fun x t => ?_
  split
  · exact t.keeps
  · dsimp only
    exact t.keeps.onPump fun _ => by rfl

theorem keepsTables_washScreen (a : Form (Nat × Nat)) : EndsKeepingTables s (execWashScreen a s) := by
  refine .args _ a s fun x t => ?_
  split
  · exact t.keeps
  · exact RuleKeepsTables.outsideFallback (.deferred (washVerdict_keepsTables _) fun _ u => u.keeps.hostWash) t

theorem keepsTables_startPump (a : Form Nat) : EndsKeepingTables s (execStartPump a s) := by
  refine .args _ a s fun x t => ?_
  split
  · exact t.keeps
  · exact RuleKeepsTables.outsideFallback (.deferred (startVerdict_keepsTables _) fun _ u => u.keeps.hostStart) t

theorem keepsTables_stopPump (a : Form (Nat × Nat)) : EndsKeepingTables s (execStopPump a s) := by
  refine .args _ a s fun x t => ?_
  split
  · exact RuleKeepsTables.outsideFallback (.deferred (stopVerdict_keepsTables _ _) fun _ u => u.keeps.hostStop) t
  · exact t.keeps

end Requests

/-- Every command keeps the tables sound. -/
theorem exec_keepsTables (c : Instr) (s : State) : EndsKeepingTables s (exec c s) := by
  cases c
  case powerOn c => exact .next (startUp _ _ _)
  case resetNAsserted => exact .next (.ite s.keeps ((startUp s _ false).same (by rfl)))
  case resetNReleased c => exact .next (.ite (startUp _ _ _) s.keeps)
  case loadingEnd e => exact keepsTables_loadingEnd s e
  case scanTimerExpiry v dealt => exact keepsTables_scanTimerExpiry s v dealt
  case scanEvent => exact keepsTables_scanEvent s
  case trendTimerExpiry => exact keepsTables_trendTimerExpiry s
  case reminderTimerExpiry => exact keepsTables_reminderTimerExpiry s
  case intakeTimeCount => exact .onCondition (s.keeps.onSlp (by rfl)).checkBanks
  case indexPulse n => exact keepsTables_indexPulse s n
  case sjamRising n => exact .next s.keeps.jamLevel
  case sjamFalling n => exact .next s.keeps.jamLevel
  case passTimeout n => exact .onCondition s.keeps.endWash.settle
  case hdokChange level => exact keepsTables_hdokChange s level
  case headerLossDelayExpiry => exact .onCondition s.keeps.loseHeader.settle
  case sluiceRunEnd => exact .onCondition s.keeps.endSluice.publishHeld.settle
  case headerPurgeTimerExpiry => exact .onCondition s.keeps.onSwc.activatePurge.publishHeld.settle
  case headerPurgeComplete => exact .onCondition s.keeps.finishPurge.settle
  case purgeOverdue => exact .onCondition s.keeps.purgeOverdue
  case pfbRising p => exact keepsTables_pfbRising s p
  case pfbFalling p => exact keepsTables_pfbFalling s p
  case ptrpActive p level => exact keepsTables_ptrpActive s p level
  case startTimeout p => exact .onCondition s.keeps.failPump.settle
  case stopTimeout p => exact .onCondition s.keeps.failPump.settle
  case recoveryTimerExpiry p => exact .onCondition (s.keeps.enterPump (by decide)).settle
  case startSpacingExpiry => exact .onCondition (s.keeps.onPdc (by rfl)).startArbiter.settle
  case rotationTimerExpiry => exact keepsTables_rotationTimerExpiry s
  case shedTimerExpiry k => exact keepsTables_shedTimerExpiry s k
  case lowLevelStop p => exact .onCondition s.keeps.lowLevelActs.settle
  case discardTimerExpiry i => exact .onCondition s.keeps.discardSlot
  case supervisionTimerExpiry => exact keepsTables_supervisionTimerExpiry s
  case saveConfigEnd e => exact keepsTables_saveConfigEnd s e
  case frameReceived f => exact keepsTables_frameReceived s f
  case framingError => exact .onCondition s.keeps.hunt.markLinkError
  case rxGapTimeout => exact .onCondition s.keeps.hunt.markLinkError
  case lenAbove120 => exact .onCondition s.keeps.hunt.markLinkError
  case replySent c => exact keepsTables_replySent s c
  case batchSent => exact keepsTables_batchSent s
  case noticeBatch => exact .onCondition s.keeps.formBatch
  case quietTimeExpiry => exact .onCondition (s.keeps.onSlp (by rfl))
  case frameStart => exact .onCondition (s.keeps.onSlp (by rfl))
  case unknownKind k => exact .request (.refuse _) _ s
  case getStatus a =>
    exact .next (requestIn_keepsTables (.withArgs a fun _ t => t.keeps) (.withArgs a fun _ t => t.keeps) _ s)
  case getLevels a => exact .args _ a s fun _ => .ite (.refuse _) fun t => t.keeps
  case getTideSummary a => exact .reads _ a s fun _ _ => rfl
  case getTidePoints a => exact keepsTables_getTidePoints s a
  case getCondition a => exact .reads _ a s fun _ _ => rfl
  case getScreen a => exact keepsTables_getScreen s a
  case getPump a => exact keepsTables_getPump s a
  case getNotices a => exact .args _ a s fun _ t => by dsimp only; exact t.keeps.delivered
  case getConfig a => exact .args _ a s fun _ => .ite (fun t => t.keeps) (.refuse _)
  case setChannel a => exact keepsTables_setChannel s a
  case setDensity a => exact .args _ a s fun _ t => by dsimp only; exact t.keeps.onLau
  case setScan a => exact .args _ a s fun _ t => by dsimp only; exact t.keeps.onLau
  case setSea a => exact keepsTables_setSea s a
  case setTrend a => exact keepsTables_setTrend s a
  case setBandEntry a => exact keepsTables_setBandEntry s a
  case setBandReminder a => exact .args _ a s fun _ t => .ite t.keeps (t.keeps.onTwu (by rfl))
  case setScreen a => exact keepsTables_setScreen s a
  case setWashTiming a => exact keepsTables_setWashTiming s a
  case setPump a => exact keepsTables_setPump s a
  case setPumpTiming a => exact keepsTables_setPumpTiming s a
  case setDutyOrder a => exact keepsTables_setDutyOrder s a
  case setDutyMode a => exact keepsTables_setDutyMode s a
  case setDemand a => exact keepsTables_setDemand s a
  case setLink a => exact keepsTables_setLink s a
  case setClockAbsolute a => exact .args _ a s fun _ t => by dsimp only; exact (t.keeps.onSlp (by rfl)).checkBanks
  case setClockStep a => exact keepsTables_setClockStep s a
  case tidePoints a => exact keepsTables_tidePoints s a
  case tideCommitNow a => exact keepsTables_tideCommitNow s a
  case tideSeal a => exact keepsTables_tideSeal s a
  case tideClear a => exact keepsTables_tideClear s a
  case stopWash a => exact keepsTables_stopWash s a
  case clearScreen a => exact keepsTables_clearScreen s a
  case setService a => exact keepsTables_setService s a
  case enablePump a => exact keepsTables_enablePump s a
  case disablePump a => exact keepsTables_disablePump s a
  case clearPump a => exact keepsTables_clearPump s a
  case resetHours a => exact keepsTables_resetHours s a
  case ackBand a => exact .args _ a s fun _ => .ite (.refuse _) fun t => by dsimp only; exact t.keeps.onTwu (by rfl)
  case resume a => exact .args _ a s fun _ t => by dsimp only; exact t.keeps.onSlp (by rfl)
  case softResetLink a => exact .args _ a s fun _ t => by dsimp only; exact t.keeps.linkReset
  case softResetFull a => exact .args _ a s fun _ t => by dsimp only; exact t.keeps.onSlp (by rfl)
  case washScreen a => exact keepsTables_washScreen s a
  case startPump a => exact keepsTables_startPump s a
  case stopPump a => exact keepsTables_stopPump s a
  case saveConfig a =>
    exact .args _ a s fun _ => .deferred saveVerdict_keepsTables fun _ t => t.keeps.beginSave

/-- Every step keeps the tables sound: its command, or on an empty queue what the part does of itself. -/
theorem step_keepsTables {s t : State} (h : step s = .next t) : s.KeepsTables t := by
  unfold step at h
  split at h
  · obtain rfl : s.idle = t := by simpa using h
    exact s.keeps.idle
  · next c rest _ =>
    obtain ⟨u, hu, kept⟩ := exec_keepsTables c { s with pending := rest }
    obtain rfl : u = t := by simpa [hu] using h
    exact (s.keeps.same (by rfl)).trans kept

/-- Settles O7: each part is sound after a step as it was before. -/
theorem tablesStaySound : Obligations.TablesStaySound :=
  ⟨fun _ _ sound h => (step_keepsTables h).starting sound, fun _ _ sound h => (step_keepsTables h).tables sound,
    fun _ _ sound h => (step_keepsTables h).banks sound⟩

end Sys2Proof.Machine
end

section
/-! PROOFS. The prediction (R42): O23. -/

namespace Sys2Proof.Machine

/-! ## Ascending points -/

theorem gapsHold_tail {a : TidePoint} {ps : List TidePoint} (h : gapsHold (a :: ps)) : gapsHold ps := by
  cases ps with
  | nil => trivial
  | cons b ps => exact h.2.2

/-- Points with the gaps of R31 ascend. -/
theorem gapsHold_ascends : ∀ ps : List TidePoint, gapsHold ps → ps.Pairwise fun a b => a.time < b.time
  | [], _ => .nil
  | [a], _ => List.pairwise_singleton _ a
  | a :: b :: ps, ⟨gap, _, rest⟩ => by
    have tail := gapsHold_ascends (b :: ps) rest
    refine List.pairwise_cons.2 ⟨fun p hp => ?_, tail⟩
    rcases List.mem_cons.1 hp with rfl | later
    · omega
    · have := List.rel_of_pairwise_cons tail later
      omega

theorem neighbours_ascend {before after : List TidePoint} {a b : TidePoint} (h : gapsHold (before ++ a :: b :: after)) :
    a.time < b.time :=
  List.rel_of_pairwise_cons (List.pairwise_append.1 (gapsHold_ascends _ h)).2.1 (by simp)

/-! ## Interpolation -/

/-- The level on the line through two points. -/
def between (a b : TidePoint) (t : Nat) : Int :=
  a.level + roundDiv ((b.level - a.level) * ((t : Int) - a.time)) (b.time - a.time)

/-- A quotient between two whole numbers rounds to one between them. -/
theorem roundDiv_bounds {n lo hi : Int} {d : Nat} (hd : 0 < d) (hlo : d * lo ≤ n) (hhi : n ≤ d * hi) :
    lo ≤ roundDiv n d ∧ roundDiv n d ≤ hi := by
  have near := (roundDiv_nearest n hd).1
  generalize roundDiv n d = q at near ⊢
  have low : ¬ q ≤ lo - 1 := fun h => by
    have := Int.mul_le_mul_of_nonneg_left h (Int.natCast_nonneg d)
    rw [mul_sub] at this
    omega
  have high : ¬ hi + 1 ≤ q := fun h => by
    have := Int.mul_le_mul_of_nonneg_left h (Int.natCast_nonneg d)
    rw [mul_add] at this
    omega
  omega

theorem roundDiv_zero (d : Nat) : roundDiv 0 d = 0 := by
  rcases Nat.eq_zero_or_pos d with rfl | hd
  · rfl
  · have := roundDiv_bounds (n := 0) (lo := 0) (hi := 0) hd (by simp) (by simp)
    omega

theorem roundDiv_mul (l : Int) {d : Nat} (hd : 0 < d) : roundDiv (l * d) d = l := by
  have := roundDiv_bounds (n := l * d) (lo := l) (hi := l) hd (by rw [mul_comm]) (by rw [mul_comm])
  omega

theorem between_start (a b : TidePoint) : between a b a.time = a.level := by
  simp [between, roundDiv_zero]

theorem between_end {a b : TidePoint} (h : a.time < b.time) : between a b b.time = b.level := by
  have span : (b.time : Int) - a.time = (b.time - a.time : Nat) := by omega
  rw [between, span, roundDiv_mul _ (by omega)]
  omega

/-- The line lies between the levels of its points. -/
theorem between_bounds {a b : TidePoint} {t : Nat} (ha : a.time ≤ t) (hb : t ≤ b.time) (hab : a.time < b.time) :
    min a.level b.level ≤ between a b t ∧ between a b t ≤ max a.level b.level := by
  have part := roundDiv_bounds (n := (b.level - a.level) * ((t : Int) - a.time)) (d := b.time - a.time)
    (lo := min 0 (b.level - a.level)) (hi := max 0 (b.level - a.level)) (by omega)
  obtain ⟨low, high⟩ := part (by
    push_cast [hab.le]
    rcases le_total a.level b.level with h | h
    · rw [min_eq_left (by omega)]; nlinarith
    · rw [min_eq_right (by omega)]; nlinarith) (by
    push_cast [hab.le]
    rcases le_total a.level b.level with h | h
    · rw [max_eq_right (by omega)]; nlinarith
    · rw [max_eq_left (by omega)]; nlinarith)
  unfold between
  omega

theorem interpolate_cons {t : Nat} {a b : TidePoint} {ps : List TidePoint} (h : a.time ≤ t ∧ t ≤ b.time) :
    interpolate t (a :: b :: ps) = some (between a b t) := if_pos h

theorem interpolate_skip {t : Nat} {a b : TidePoint} {ps : List TidePoint} (h : b.time < t) :
    interpolate t (a :: b :: ps) = interpolate t (b :: ps) := if_neg (by omega)

/-- Between two neighbours the prediction is on their line, wherever they stand. -/
theorem interpolate_between {t : Nat} {a b : TidePoint} {after : List TidePoint} (ha : a.time ≤ t) (hb : t ≤ b.time) :
    ∀ before : List TidePoint, gapsHold (before ++ a :: b :: after) →
      interpolate t (before ++ a :: b :: after) = some (between a b t)
  | [], _ => interpolate_cons ⟨ha, hb⟩
  | [c], h => by
    have gap : c.time < a.time := neighbours_ascend (before := []) h
    by_cases now : t = a.time
    · subst now
      rw [between_start]
      exact (interpolate_cons ⟨gap.le, le_rfl⟩).trans (by rw [between_end gap])
    · exact (interpolate_skip (by omega)).trans (interpolate_cons ⟨ha, hb⟩)
  | c :: d :: before, h => by
    have tail := gapsHold_tail h
    have gap : d.time < a.time := List.rel_of_pairwise_cons (gapsHold_ascends _ tail) (by simp)
    exact (interpolate_skip (by omega)).trans (interpolate_between ha hb (d :: before) tail)

/-- Before the first point and after the last one there is no prediction. -/
theorem interpolate_outside {t : Nat} : ∀ ps : List TidePoint,
    (∀ p ∈ ps, t < p.time) ∨ (∀ p ∈ ps, p.time < t) → interpolate t ps = none
  | [], _ => rfl
  | [_], _ => rfl
  | a :: b :: ps, h => by
    have apart : ¬ (a.time ≤ t ∧ t ≤ b.time) := by
      rcases h with h | h
      · have := h a (by simp); omega
      · have := h b (by simp); omega
    refine (if_neg apart).trans (interpolate_outside (b :: ps) ?_)
    exact h.imp (fun h p hp => h p (List.mem_cons_of_mem _ hp)) fun h p hp => h p (List.mem_cons_of_mem _ hp)

/-- At a point's time the prediction is its level. -/
theorem interpolate_point {ps : List TidePoint} (gaps : gapsHold ps) (two : 2 ≤ ps.length) {p : TidePoint}
    (hp : p ∈ ps) : interpolate p.time ps = some p.level := by
  obtain ⟨before, after, rfl⟩ := List.append_of_mem hp
  cases after with
  | cons b after =>
    rw [interpolate_between le_rfl (neighbours_ascend gaps).le before gaps, between_start]
  | nil =>
    obtain ⟨before, a, rfl⟩ : ∃ l a, before = l ++ [a] := by
      rcases List.eq_nil_or_concat before with rfl | h
      · simp at two
      · simpa using h
    rw [List.append_assoc, List.singleton_append] at gaps ⊢
    have gap := neighbours_ascend gaps
    rw [interpolate_between gap.le le_rfl before gaps, between_end gap]

theorem State.predicted_unavailable {s : State}
    (h : s.slp.timeSet = false ∨ s.twu.banks[s.twu.standing].state ≠ .active) : s.predicted = none := by
  unfold State.predicted
  refine if_neg fun both => ?_
  obtain ⟨set, active⟩ := Bool.and_eq_true_iff.1 both
  rcases h with unset | idle
  · rw [unset] at set; cases set
  · exact idle (of_decide_eq_true active)

theorem State.predicted_active {s : State} (h : s.slp.timeSet = true)
    (k : s.twu.banks[s.twu.standing].state = .active) :
    s.predicted = interpolate s.slp.time s.twu.banks[s.twu.standing].points := by
  unfold State.predicted
  exact if_pos (by rw [h, k]; rfl)

/-- Settles O23: the neighbours of the intake time give the prediction, and outside the points there is none. -/
theorem predictionInterpolates : Obligations.PredictionInterpolates := by
  rintro s _ _ rfl rfl
  refine ⟨State.predicted_unavailable, fun set active gaps two => ?_⟩
  rw [State.predicted_active set active]
  refine ⟨?_, fun p hp now => now ▸ interpolate_point gaps two hp, fun h => interpolate_outside _ h⟩
  rintro before after a b _ _ split ha hb rfl rfl
  rw [split] at gaps ⊢
  have apart := neighbours_ascend gaps
  have span : Int.ofNat b.time - Int.ofNat a.time = (b.time - a.time : Nat) := by simp; omega
  rw [span, Int.natAbs_natCast]
  obtain ⟨low, high⟩ := between_bounds ha hb apart
  exact ⟨_, interpolate_between ha hb before gaps, low, high, roundDiv_nearest _ (by omega)⟩

end Sys2Proof.Machine
end

section
/-! PROOFS. The bank check and the intake time (R37..R40, R171): O24. -/

namespace Sys2Proof.Machine

variable {s t u : State}

/-! ## When a bank is passed or reached -/

theorem passed_iff {time : Nat} {b : Bank} :
    passed time b = true ↔ ∃ p, b.points.getLast? = some p ∧ p.time < time := by
  unfold passed
  cases b.points.getLast? <;> simp

theorem firstReached_iff {time : Nat} {b : Bank} :
    firstReached time b = true ↔ ∃ p, b.points.head? = some p ∧ p.time ≤ time := by
  unfold firstReached
  cases b.points <;> simp

/-- The standing bank is ACTIVE and passed (R38). -/
def State.StandingPassed (s : State) : Prop :=
  s.twu.banks[s.twu.standing].state = .active ∧ passed s.slp.time s.twu.banks[s.twu.standing] = true

/-- The standing bank is EMPTY and the loading bank's first point is reached (R39). -/
def State.LoadingReached (s : State) : Prop :=
  s.twu.banks[s.twu.standing].state = .empty ∧ firstReached s.slp.time s.twu.banks[s.twu.loading] = true

/-! ## One application -/

theorem checkBank_swaps (sealed : s.twu.banks[s.twu.loading].state = .sealed)
    (due : s.StandingPassed ∨ s.LoadingReached) :
    s.checkBank = s.swapBanks (if s.twu.banks[s.twu.standing].state = .active then 0 else 1) := by
  unfold State.checkBank
  dsimp only
  rcases due with ⟨active, past⟩ | ⟨empty, reached⟩
  · rw [active]; dsimp only; rw [past, if_pos rfl, if_pos sealed, if_pos rfl]
  · rw [empty]; dsimp only; rw [reached, sealed]; rfl

theorem checkBank_expires (sealed : s.twu.banks[s.twu.loading].state ≠ .sealed) (due : s.StandingPassed) :
    s.checkBank = s.expireBank := by
  unfold State.checkBank
  dsimp only
  rw [due.1]; dsimp only; rw [due.2, if_pos rfl, if_neg sealed]

theorem checkBank_idle (h : ¬ s.StandingPassed)
    (k : ¬ (s.twu.banks[s.twu.loading].state = .sealed ∧ s.LoadingReached)) : s.checkBank = s := by
  unfold State.checkBank
  dsimp only
  split
  · next active => exact if_neg fun past => h ⟨active, past⟩
  · next empty =>
    refine if_neg fun due => k ?_
    obtain ⟨sealed, reached⟩ := Bool.and_eq_true_iff.1 due
    exact ⟨of_decide_eq_true sealed, empty, reached⟩
  all_goals rfl

/-! ## What a swap and an expiry leave -/

theorem standing_ne (w : Twu) : w.standing ≠ w.loading := otherBank_ne w.loading

theorem swap_standing (w : Twu) : w.swap.standing = w.loading := otherBank_otherBank w.loading

theorem swap_bank_standing (w : Twu) : w.swap.banks[w.standing] = {} := bank_set_self _ w.standing {}

theorem swap_bank_loading (w : Twu) : w.swap.banks[w.loading] = { w.banks[w.loading] with state := .active } := by
  show ((w.banks.set w.loading { w.banks[w.loading] with state := .active }).set w.standing {})[w.loading] = _
  rw [bank_set, if_neg (standing_ne w), bank_set_self]

theorem swap_new_standing (w : Twu) :
    w.swap.banks[w.swap.standing] = { w.banks[w.loading] with state := .active } := by
  simp only [swap_standing]
  exact swap_bank_loading w

theorem expire_bank_standing (w : Twu) : (w.onBank w.standing fun _ => {}).banks[w.standing] = {} :=
  bank_set_self _ w.standing {}

theorem expire_bank_loading (w : Twu) : (w.onBank w.standing fun _ => {}).banks[w.loading] = w.banks[w.loading] := by
  show (w.banks.set w.standing {})[w.loading] = _
  rw [bank_set, if_neg (standing_ne w)]

/-- The bank that a swap has made ACTIVE, expired. -/
theorem swap_expired_bank (w : Twu) : (w.swap.onBank w.swap.standing fun _ => {}).banks[w.loading] = {} := by
  simpa only [swap_standing] using expire_bank_standing w.swap

/-- All that the bank check may change: the banks, their roles and the notices. -/
structure State.BankFrame (s t : State) : Prop where
  twu : t.twu = { s.twu with banks := t.twu.banks, loading := t.twu.loading }
  blocks : t.lau = s.lau ∧ t.swc = s.swc ∧ t.pdc = s.pdc ∧ t.phase = s.phase
  link : s.LinkFrame t

theorem State.BankFrame.refl (s : State) : s.BankFrame s := ⟨rfl, ⟨rfl, rfl, rfl, rfl⟩, .refl s⟩

theorem State.BankFrame.trans (h : s.BankFrame t) (k : t.BankFrame u) : s.BankFrame u := by
  obtain ⟨lau, swc, pdc, phase⟩ := h.blocks
  obtain ⟨lau', swc', pdc', phase'⟩ := k.blocks
  refine ⟨?_, ⟨lau'.trans lau, swc'.trans swc, pdc'.trans pdc, phase'.trans phase⟩, h.link.trans k.link⟩
  have twu := k.twu
  rw [h.twu] at twu
  exact twu

theorem State.BankFrame.time (h : s.BankFrame t) : t.slp.time = s.slp.time := (congrArg Slp.time h.link.slp :)

theorem State.BankFrame.timeSet (h : s.BankFrame t) : t.slp.timeSet = s.slp.timeSet :=
  (congrArg Slp.timeSet h.link.slp :)

theorem swapBanks_frame (s : State) (c : Nat) : s.BankFrame (s.swapBanks c) :=
  ⟨rfl, ⟨rfl, rfl, rfl, rfl⟩, (State.LinkFrame.of_eq rfl : s.LinkFrame (s.onTwu Twu.swap)).trans (State.notify_link ..)⟩

theorem expireBank_frame (s : State) : s.BankFrame s.expireBank :=
  ⟨rfl, ⟨rfl, rfl, rfl, rfl⟩, 
    (State.LinkFrame.of_eq rfl : s.LinkFrame (s.onTwu fun w => w.onBank w.standing fun _ => {})).trans
      (State.notify_link ..)⟩

theorem checkBank_frame (s : State) : s.BankFrame s.checkBank := by
  unfold State.checkBank
  dsimp only
  split
  · split
    · split
      · exact swapBanks_frame s 0
      · exact expireBank_frame s
    · exact .refl s
  · split
    · exact swapBanks_frame s 1
    · exact .refl s
  all_goals exact .refl s

theorem checkBanks_frame (s : State) : s.BankFrame s.checkBanks := by
  unfold State.checkBanks
  split
  · exact (checkBank_frame s).trans (checkBank_frame _)
  · exact .refl s

/-! ## Both applications -/

theorem checkBanks_unset (h : s.slp.timeSet = false) : s.checkBanks = s := by simp [State.checkBanks, h]

theorem checkBanks_idle (h : ¬ s.StandingPassed)
    (k : ¬ (s.twu.banks[s.twu.loading].state = .sealed ∧ s.LoadingReached)) : s.checkBanks = s := by
  unfold State.checkBanks
  rw [checkBank_idle h k, checkBank_idle h k, ite_self]

theorem swapBanks_passed_iff (s : State) (c : Nat) :
    (s.swapBanks c).StandingPassed ↔ passed s.slp.time s.twu.banks[s.twu.loading] = true := by
  show (s.twu.swap.banks[s.twu.swap.standing].state = .active
    ∧ passed (s.swapBanks c).slp.time s.twu.swap.banks[s.twu.swap.standing] = true) ↔ _
  rw [(swapBanks_frame s c).time, swap_new_standing]
  exact and_iff_right rfl

theorem swapBanks_not_sealed (s : State) (c : Nat) :
    (s.swapBanks c).twu.banks[(s.swapBanks c).twu.loading].state ≠ .sealed := by
  show s.twu.swap.banks[s.twu.standing].state ≠ .sealed
  rw [swap_bank_standing]
  nofun

/-- A swap, and then the expiry of the bank that has become ACTIVE when it is passed too. -/
theorem checkBanks_swaps (set : s.slp.timeSet = true) (sealed : s.twu.banks[s.twu.loading].state = .sealed)
    (due : s.StandingPassed ∨ s.LoadingReached) :
    ∃ v, v = s.swapBanks (if s.twu.banks[s.twu.standing].state = .active then 0 else 1)
      ∧ s.checkBanks = if passed s.slp.time s.twu.banks[s.twu.loading] then v.expireBank else v := by
  refine ⟨_, rfl, ?_⟩
  unfold State.checkBanks
  rw [if_pos set, checkBank_swaps sealed due]
  generalize (if s.twu.banks[s.twu.standing].state = .active then 0 else 1) = c
  have unsealed := swapBanks_not_sealed s c
  split
  · next past => exact checkBank_expires unsealed ((swapBanks_passed_iff s c).2 past)
  · next past => exact checkBank_idle (fun h => past ((swapBanks_passed_iff s c).1 h)) fun h => unsealed h.1

/-- An expiry, after which nothing is left to do. -/
theorem checkBanks_expires (set : s.slp.timeSet = true) (sealed : s.twu.banks[s.twu.loading].state ≠ .sealed)
    (due : s.StandingPassed) : s.checkBanks = s.expireBank := by
  unfold State.checkBanks
  rw [if_pos set, checkBank_expires sealed due]
  refine checkBank_idle (fun h => ?_) fun h => sealed ?_
  · have empty : ({} : Bank).state = .active := by
      rw [← expire_bank_standing s.twu]; exact h.1
    cases empty
  · rw [← expire_bank_loading s.twu]; exact h.1

/-! ## The notices -/

theorem stamp_of_set (h : s.slp.timeSet = true) : s.stamp = s.slp.time := if_pos h

theorem swapBanks_notices {c : Nat} (room : s.slp.notices.length < 32) (set : s.slp.timeSet = true) :
    (s.swapBanks c).slp.notices = s.slp.notices ++ [⟨.status, .tideBankSwapped, s.twu.loading.val + 1, 0, (c : Int),
      (s.twu.banks[s.twu.loading].points.length : Int), s.slp.time⟩] := by
  rw [← stamp_of_set set]
  exact State.notify_room (s.onTwu Twu.swap) _ _ _ _ _ _ room

theorem expireBank_notices {p : TidePoint} (last : s.twu.banks[s.twu.standing].points.getLast? = some p)
    (room : s.slp.notices.length < 32) (set : s.slp.timeSet = true) :
    s.expireBank.slp.notices = s.slp.notices ++ [⟨.status, .predictionEnded, s.twu.standing.val + 1, 0, p.level,
      (s.twu.banks[s.twu.standing].points.length : Int), s.slp.time⟩] := by
  rw [← stamp_of_set set]
  refine (State.notify_room (s.onTwu fun w => w.onBank w.standing fun _ => {}) _ _ _ _ _ _ room).trans ?_
  rw [last]
  rfl

/-- The notice of an expiry that follows a swap: the bank is the one that was loading. -/
theorem swapBanks_expire_notices {c : Nat} {p : TidePoint}
    (last : s.twu.banks[s.twu.loading].points.getLast? = some p) (room : s.slp.notices.length ≤ 30)
    (set : s.slp.timeSet = true) :
    (s.swapBanks c).expireBank.slp.notices = (s.swapBanks c).slp.notices ++ [⟨.status, .predictionEnded,
      s.twu.loading.val + 1, 0, p.level, (s.twu.banks[s.twu.loading].points.length : Int), s.slp.time⟩] := by
  have swapped : (s.swapBanks c).twu.banks[(s.swapBanks c).twu.standing]
      = { s.twu.banks[s.twu.loading] with state := .active } := swap_new_standing s.twu
  have one := swapBanks_notices (c := c) (by omega) set
  have expired := expireBank_notices (s := s.swapBanks c) (p := p) (by rw [swapped]; exact last)
    (by rw [one]; simp; omega) ((swapBanks_frame s c).timeSet.trans set)
  rw [swapped, (swapBanks_frame s c).time] at expired
  rw [expired, show (s.swapBanks c).twu.standing = s.twu.loading from swap_standing s.twu]

/-! ## The intake time -/

theorem intakeTimeCount_counts (set : s.slp.timeSet = true) (second : 1000 ≤ s.slp.phaseMs) :
    exec .intakeTimeCount s =
      .next ({ s with slp := { s.slp with
        time := (s.slp.time + 1) % 4294967296, phaseMs := s.slp.phaseMs - 1000 } } : State).checkBanks :=
  congrArg Host.Outcome.next (if_pos (by simp [set, second]))

theorem setClockAbsolute_taken {v : Nat} (h : s.Takes (.setClockAbsolute (.args v))) (range : v < 4294967296) :
    ∃ t : State, exec (.setClockAbsolute (.args v)) s = .next (t.checkBanks.reply .ok (encodeField .u32 v))
      ∧ t = { s with slp := { s.slp with time := v, timeSet := true, phaseMs := 0 } } := by
  refine ⟨_, ?_, rfl⟩
  show Host.Outcome.next (s.request _ _) = _
  rw [args_takes h, Nat.mod_eq_of_lt range]
  dsimp only
  rw [(checkBanks_frame _).time]
  rfl

theorem setClockStep_refused {v : Int} (h : s.Takes (.setClockStep (.args v))) (unset : s.slp.timeSet = false) :
    exec (.setClockStep (.args v)) s = .next (s.reply .timeNotSet []) := by
  show Host.Outcome.next (s.request _ _) = _
  rw [args_takes h, unset]
  rfl

theorem setClockStep_taken {v sum : Int} (h : s.Takes (.setClockStep (.args v))) (set : s.slp.timeSet = true)
    (hsum : sum = s.slp.time + max (-3600) (min 3600 v)) :
    ∃ t : State, exec (.setClockStep (.args v)) s =
        .next (t.checkBanks.reply (if -3600 ≤ v ∧ v ≤ 3600 ∧ 0 ≤ sum ∧ sum ≤ 4294967295 then .ok else .okAdjusted)
          (encodeField .u32 t.slp.time))
      ∧ t = { s with slp := { s.slp with time := (max 0 (min 4294967295 sum)).toNat } } := by
  refine ⟨_, ?_, rfl⟩
  have code : okCode (decide (max (-3600) (min 3600 v) ≠ v ∨ max 0 (min 4294967295 sum) ≠ sum))
      = if -3600 ≤ v ∧ v ≤ 3600 ∧ 0 ≤ sum ∧ sum ≤ 4294967295 then .ok else .okAdjusted := by
    unfold okCode
    split_ifs with moved inside inside
    · rw [decide_eq_true_eq] at moved; omega
    · rfl
    · rfl
    · rw [decide_eq_true_eq] at moved; omega
  show Host.Outcome.next (s.request _ _) = _
  rw [args_takes h]
  dsimp only
  rw [if_pos set, clampInt_eq (lo := -3600) (by omega), ← hsum, clampInt_eq (by omega), code, (checkBanks_frame _).time]
  rfl

/-- Settles O24: the check in its cases by what is due and whether a bank is SEALED, with the three settings of the
intake time. -/
theorem bankCheckFollowsTime : Obligations.BankCheckFollowsTime := by
  refine ⟨?_, fun _ => intakeTimeCount_counts, fun _ _ => setClockAbsolute_taken,
    fun _ _ _ h => ⟨setClockStep_refused h, setClockStep_taken h⟩⟩
  rintro s _ _ pastActive pastSealed reachedFirst - rfl rfl hactive hsealed hreached
  have active : pastActive ↔ s.StandingPassed := by rw [hactive, State.StandingPassed, passed_iff]
  have reached : reachedFirst ↔ s.LoadingReached := by rw [hreached, State.LoadingReached, firstReached_iff]
  have past : pastSealed ↔ passed s.slp.time s.twu.banks[s.twu.loading] = true := by rw [hsealed, passed_iff]
  obtain ⟨lau, swc, pdc, phase⟩ := (checkBanks_frame s).blocks
  refine ⟨checkBanks_unset, fun set sealed due => ?_, fun set sealed due => ?_, fun h k => ?_, (checkBanks_frame s).twu,
    lau, swc, pdc, phase, (checkBanks_frame s).time, (checkBanks_frame s).link⟩
  · obtain ⟨_, rfl, e⟩ := checkBanks_swaps set sealed (due.imp active.1 reached.1)
    have cause : (((if s.twu.banks[s.twu.standing].state = .active then 0 else 1 : Nat)) : Int)
        = if s.twu.banks[s.twu.standing].state = .active then 0 else 1 := by split <;> rfl
    rw [← cause]
    generalize (if s.twu.banks[s.twu.standing].state = .active then 0 else 1) = c at e ⊢
    rw [e, past]
    split
    · next passed =>
      obtain ⟨p, last, -⟩ := passed_iff.1 passed
      refine ⟨rfl, (expire_bank_loading s.twu.swap).trans (swap_bank_standing s.twu), fun _ => swap_expired_bank s.twu,
        fun h => absurd passed h, fun room => ⟨[_], ?_, fun h => absurd passed h, fun _ => ⟨p, last, rfl⟩⟩⟩
      rw [swapBanks_expire_notices last room set, swapBanks_notices (by omega) set, List.append_assoc]
      rfl
    · next passed =>
      exact ⟨rfl, swap_bank_standing s.twu, fun h => absurd h passed, fun _ => swap_bank_loading s.twu, fun room =>
        ⟨[], swapBanks_notices (by omega) set, fun _ => rfl, fun h => absurd h passed⟩⟩
  · have standing := active.1 due
    obtain ⟨p, last, -⟩ := passed_iff.1 standing.2
    rw [checkBanks_expires set sealed standing]
    exact ⟨rfl, expire_bank_standing s.twu, expire_bank_loading s.twu, fun room =>
      ⟨p, last, expireBank_notices last room set⟩⟩
  · exact checkBanks_idle (fun k' => h (active.2 k')) fun k' => k ⟨k'.1, reached.2 k'.2⟩

end Sys2Proof.Machine
end

section
/-! PROOFS. The tide requests (R32..R36): O25. -/

namespace Sys2Proof.Machine

variable {s : State}

/-! ## The points of a request -/

/-- A point with its level clamped (R33). -/
def clampPoint (p : TidePoint) : TidePoint := ⟨p.time, max (-30000) (min 30000 p.level)⟩

theorem take_eq (b : Bank) (p : TidePoint) : b.take p = ⟨.filling, b.points ++ [clampPoint p]⟩ := by
  rw [Bank.take, clampInt_eq (by omega)]; rfl

/-- A point is refused by a full bank, or for its time against the last point. -/
theorem pointCheck_some {b : Bank} {p : TidePoint} {c : Code} (h : pointCheck b p = some c) :
    (128 ≤ b.points.length ∧ c = .full)
      ∨ (b.points.length < 128 ∧ c = .order
          ∧ ∃ l, b.points.getLast? = some l ∧ ¬ (l.time + 60 ≤ p.time ∧ p.time ≤ l.time + 3600)) := by
  unfold pointCheck at h
  by_cases full : 128 ≤ b.points.length
  · rw [if_pos full] at h
    exact .inl ⟨full, (Option.some.inj h).symm⟩
  · rw [if_neg full] at h
    refine .inr ⟨by omega, ?_⟩
    split at h
    · cases h
    · next l last =>
      split_ifs at h with before gap
      · exact ⟨(Option.some.inj h).symm, l, last, by omega⟩
      · exact ⟨(Option.some.inj h).symm, l, last, by omega⟩

/-- What offering `ps` to `b` leaves when `k` of them are taken. -/
structure OfferTakes (ps : List TidePoint) (b : Bank) (o : Offered) (k : Nat) : Prop where
  count : k ≤ ps.length
  points : o.bank.points = b.points ++ (ps.take k).map clampPoint
  filling : 0 < k ∨ b.state = .filling → o.bank.state = .filling
  levels : o.levels = ((ps.take k).map clampPoint).map TidePoint.level
  clamped : o.clamped = true ↔ ∃ p ∈ ps.take k, p.level < -30000 ∨ 30000 < p.level
  fits : ∀ j p, j < k → ps[j]? = some p →
    pointCheck ⟨.filling, b.points ++ ((ps.take k).map clampPoint).take j⟩ p = none
  all : k = ps.length → o.refused = none
  refused : ∀ p, ps[k]? = some p →
    ∃ c, o.refused = some c ∧ pointCheck ⟨.filling, b.points ++ (ps.take k).map clampPoint⟩ p = some c

theorem clampInt_ne_iff (l : Int) : clampInt (-30000) 30000 l ≠ l ↔ l < -30000 ∨ 30000 < l := by
  rw [clampInt_eq (by omega)]; omega

/-- Points are taken up to the first one that is refused (R33). -/
theorem offerPoints_takes : ∀ (ps : List TidePoint) (b : Bank), ∃ k, OfferTakes ps b (offerPoints ps b) k
  | [], b => ⟨0, by simp, by simp [offerPoints], by simp [offerPoints], by simp [offerPoints], by simp [offerPoints],
      by simp, fun _ => rfl, by simp⟩
  | p :: ps, b => by
    cases hp : pointCheck b p with
    | some c =>
      have stops : offerPoints (p :: ps) b = ⟨b, [], false, some c⟩ := by rw [offerPoints, hp]
      rw [stops]
      refine ⟨0, by simp, by simp, by simp, by simp, by simp, by simp, by simp, fun q hq => ⟨c, rfl, ?_⟩⟩
      obtain rfl : p = q := by simpa using hq
      simpa [pointCheck] using hp
    | none =>
      have goes : offerPoints (p :: ps) b = { offerPoints ps (b.take p) with
          levels := clampInt (-30000) 30000 p.level :: (offerPoints ps (b.take p)).levels
          clamped := (offerPoints ps (b.take p)).clamped || decide (clampInt (-30000) 30000 p.level ≠ p.level) } := by
        rw [offerPoints, hp]; rfl
      obtain ⟨k, count, points, filling, levels, clamped, fits, all, refused⟩ := offerPoints_takes ps (b.take p)
      have grown (l : List TidePoint) : (b.take p).points ++ l = b.points ++ clampPoint p :: l := by
        rw [take_eq, List.append_assoc, List.singleton_append]
      rw [goes]
      refine ⟨k + 1, Nat.succ_le_succ count, ?_, fun _ => filling (.inr rfl), ?_, ?_, ?_, ?_, ?_⟩
      · rw [points, grown]; rfl
      · rw [levels, clampInt_eq (by omega)]; rfl
      · simp only [Bool.or_eq_true, clamped, decide_eq_true_eq, clampInt_ne_iff, List.take_succ_cons,
          List.exists_mem_cons_iff]
        exact or_comm
      · rintro (_ | j) q hj hq
        · obtain rfl : p = q := by simpa using hq
          simpa [pointCheck] using hp
        · have := fits j q (Nat.lt_of_succ_lt_succ hj) hq
          rwa [grown] at this
      · exact fun h => all (Nat.succ.inj h)
      · intro q hq
        obtain ⟨c, hc, check⟩ := refused q hq
        exact ⟨c, hc, by rwa [grown] at check⟩

/-! ## TIDE POINTS -/

section TidePoints
variable {ps : List TidePoint}

theorem tidePoints_badArgument (h : s.Takes (.tidePoints (.args ps))) (bad : ps = [] ∨ 8 < ps.length) :
    exec (.tidePoints (.args ps)) s = .next (s.reply .badArgument []) := by
  show Host.Outcome.next (s.request _ _) = _
  rw [args_takes h]
  dsimp only
  rw [if_pos bad]
  rfl

theorem tidePoints_sealed (h : s.Takes (.tidePoints (.args ps))) (given : ps ≠ []) (most : ps.length ≤ 8)
    (sealed : s.twu.banks[s.twu.loading].state = .sealed) :
    exec (.tidePoints (.args ps)) s = .next (s.reply .state []) := by
  show Host.Outcome.next (s.request _ _) = _
  rw [args_takes h]
  dsimp only
  rw [if_neg (by simp [given, most]), if_pos sealed]
  rfl

/-- What TIDE POINTS leaves and answers when it is not refused. -/
theorem tidePoints_offers (h : s.Takes (.tidePoints (.args ps))) (given : ps ≠ []) (most : ps.length ≤ 8)
    (unsealed : s.twu.banks[s.twu.loading].state ≠ .sealed) {o : Offered}
    (ho : o = offerPoints ps s.twu.banks[s.twu.loading]) :
    exec (.tidePoints (.args ps)) s =
      .next (({ s with twu := { s.twu with banks := s.twu.banks.set s.twu.loading o.bank } } : State).reply
        (o.refused.getD (okCode o.clamped))
        (encodeFields [(.u8, s.twu.loading.val + 1), (.u16, o.levels.length), (.u16, o.bank.points.length),
            (.u8, o.levels.length)]
          ++ o.levels.flatMap fun l => encodeField .s16 l)) := by
  show Host.Outcome.next (s.request _ _) = _
  rw [args_takes h]
  dsimp only
  rw [if_neg (by simp [given, most]), if_neg unsealed, ← ho]
  rfl

/-- The first point always finds room in an EMPTY bank. -/
theorem offerPoints_first {b : Bank} {o : Offered} {k : Nat} (h : OfferTakes ps b o k) (given : ps ≠ [])
    (empty : b.points = []) : 0 < k := by
  rcases Nat.eq_zero_or_pos k with rfl | pos
  · obtain ⟨p, ps, rfl⟩ := List.exists_cons_of_ne_nil given
    obtain ⟨c, -, check⟩ := h.refused p rfl
    rw [empty] at check
    cases check
  · exact pos

theorem tidePoints_taken {n : BankId} {old : List TidePoint} (h : s.Takes (.tidePoints (.args ps)))
    (hn : s.twu.loading = n) (hold : s.twu.banks[n].points = old) (given : ps ≠ []) (most : ps.length ≤ 8)
    (state : s.twu.banks[n].state = .empty ∨ s.twu.banks[n].state = .filling) (fits : s.twu.banks[n].CountFits) :
    ∃ (k : Nat) (taken : List TidePoint) (t : State) (code : Code),
      k ≤ ps.length ∧ taken = (ps.take k).map (fun p => ⟨p.time, max (-30000) (min 30000 p.level)⟩)
        ∧ exec (.tidePoints (.args ps)) s =
            .next (t.reply code (encodeFields [(.u8, n.val + 1), (.u16, k), (.u16, old.length + k), (.u8, k)]
              ++ taken.flatMap fun p => encodeField .s16 p.level))
        ∧ t = { s with twu := { s.twu with banks := s.twu.banks.set n ⟨.filling, old ++ taken⟩ } }
        ∧ (∀ j p, j < k → ps[j]? = some p →
            old.length + j < 128
              ∧ ∀ l, (old ++ taken.take j).getLast? = some l → l.time + 60 ≤ p.time ∧ p.time ≤ l.time + 3600)
        ∧ (k = ps.length →
            code = if ∃ p ∈ ps, p.level < -30000 ∨ 30000 < p.level then .okAdjusted else .ok)
        ∧ (∀ p, ps[k]? = some p →
            (128 ≤ old.length + k ∧ code = .full)
              ∨ (old.length + k < 128 ∧ code = .order
                  ∧ ∃ l, (old ++ taken).getLast? = some l
                    ∧ ¬ (l.time + 60 ≤ p.time ∧ p.time ≤ l.time + 3600))) := by
  subst hn hold
  have unsealed : s.twu.banks[s.twu.loading].state ≠ .sealed := by
    rcases state with e | e <;> rw [e] <;> nofun
  obtain ⟨k, offer⟩ := offerPoints_takes ps s.twu.banks[s.twu.loading]
  have run := tidePoints_offers h given most unsealed rfl
  generalize offerPoints ps s.twu.banks[s.twu.loading] = o at offer run
  have length : ((ps.take k).map clampPoint).length = k := by simp [offer.count]
  have bank : o.bank = ⟨.filling, s.twu.banks[s.twu.loading].points ++ (ps.take k).map clampPoint⟩ := by
    have filling : o.bank.state = .filling := offer.filling (state.imp_left fun e => by
      unfold Bank.CountFits at fits
      rw [e] at fits
      exact offerPoints_first offer given fits)
    rw [← filling, ← offer.points]
  refine ⟨k, (ps.take k).map clampPoint, _, o.refused.getD (okCode o.clamped), offer.count, rfl, ?_, rfl, ?_, ?_, ?_⟩
  · rw [run, bank, offer.levels, List.length_map, length, List.length_append, length, List.flatMap_map]
    rfl
  · intro j p hj hp
    obtain ⟨room, follows⟩ := pointCheck_none_iff.1 (offer.fits j p hj hp)
    refine ⟨?_, follows⟩
    rw [List.length_append, List.length_take, length] at room
    omega
  · intro all
    rw [offer.all all, Option.getD_none, okCode]
    have clamped := offer.clamped
    rw [all, List.take_length] at clamped
    simp only [clamped]
  · intro p hp
    obtain ⟨c, refused, check⟩ := offer.refused p hp
    have why := pointCheck_some check
    rw [List.length_append, length] at why
    rw [refused]
    exact why

end TidePoints

/-! ## TIDE SEAL, TIDE COMMIT NOW and TIDE CLEAR -/

theorem tideSeal_taken {n : BankId} (h : s.Takes (.tideSeal (.args ()))) (hn : s.twu.loading = n) :
    (s.twu.banks[n].state = .filling ∧ 2 ≤ s.twu.banks[n].points.length →
        exec (.tideSeal (.args ())) s =
          .next (({ s with twu := { s.twu with
            banks := s.twu.banks.set n { s.twu.banks[n] with state := .sealed } } } : State).checkBanks.reply .ok
            (encodeField .u8 (n.val + 1 : Nat))))
      ∧ (¬ (s.twu.banks[n].state = .filling ∧ 2 ≤ s.twu.banks[n].points.length) →
          exec (.tideSeal (.args ())) s = .next (s.reply .state [])) := by
  subst hn
  rw [← sealable_iff]
  refine ⟨fun may => ?_, fun may => ?_⟩
  · show Host.Outcome.next (s.request _ _) = _
    rw [args_takes h]
    dsimp only
    rw [if_pos may]
    rfl
  · show Host.Outcome.next (s.request _ _) = _
    rw [args_takes h]
    dsimp only
    rw [if_neg may]
    rfl

theorem tideCommitNow_taken {n m : BankId} (h : s.Takes (.tideCommitNow (.args ()))) (hn : s.twu.loading = n)
    (hm : m ≠ n) :
    ((s.twu.banks[n].state = .filling ∨ s.twu.banks[n].state = .sealed) ∧ 2 ≤ s.twu.banks[n].points.length →
        ∃ t : State, exec (.tideCommitNow (.args ())) s =
            .next (t.checkBanks.reply .ok (encodeField .u8 (n.val + 1 : Nat)))
          ∧ t.twu = { s.twu with
              banks := (s.twu.banks.set n { s.twu.banks[n] with state := .active }).set m {}, loading := m }
          ∧ t.lau = s.lau ∧ t.swc = s.swc ∧ t.pdc = s.pdc ∧ t.phase = s.phase ∧ s.LinkFrame t
          ∧ (s.slp.notices.length < 32 →
              t.slp.notices = s.slp.notices
                ++ [⟨.status, .tideBankSwapped, n.val + 1, 0, 2, s.twu.banks[n].points.length, s.stamp⟩]))
      ∧ (¬ ((s.twu.banks[n].state = .filling ∨ s.twu.banks[n].state = .sealed)
            ∧ 2 ≤ s.twu.banks[n].points.length) →
          exec (.tideCommitNow (.args ())) s = .next (s.reply .state [])) := by
  subst hn
  obtain rfl : m = s.twu.standing := eq_otherBank_of_ne hm
  rw [← committable_iff]
  refine ⟨fun may => ?_, fun may => ?_⟩
  · obtain ⟨lau, swc, pdc, phase⟩ := (swapBanks_frame s 2).blocks
    refine ⟨s.swapBanks 2, ?_, rfl, lau, swc, pdc, phase, (swapBanks_frame s 2).link,
      State.notify_room (s.onTwu Twu.swap) _ _ _ _ _ _⟩
    show Host.Outcome.next (s.request _ _) = _
    rw [args_takes h]
    dsimp only
    rw [if_pos may]
    rfl
  · show Host.Outcome.next (s.request _ _) = _
    rw [args_takes h]
    dsimp only
    rw [if_neg may]
    rfl

theorem tideClear_taken {n : BankId} (h : s.Takes (.tideClear (.args ()))) (hn : s.twu.loading = n) :
    exec (.tideClear (.args ())) s =
      .next (({ s with twu := { s.twu with banks := s.twu.banks.set n {} } } : State).reply .ok
        (encodeField .u8 (n.val + 1 : Nat))) := by
  subst hn
  exact congrArg Host.Outcome.next (args_takes h () _)

/-- Settles O25: each request by what it finds in the loading bank. -/
theorem tideRequestsTaken : Obligations.TideRequestsTaken :=
  ⟨fun _ _ _ _ h hn hold => ⟨tidePoints_badArgument h, fun given most sealed => tidePoints_sealed h given most (by
      subst hn; exact sealed), tidePoints_taken h hn hold⟩,
    fun _ _ => tideSeal_taken, fun _ _ _ => tideCommitNow_taken, fun _ _ => tideClear_taken⟩

end Sys2Proof.Machine
end

section
/-! PROOFS. The trend ring and the rate (R25..R29): O22. -/

namespace Sys2Proof.Machine

variable {s t u : State}

/-! ## Claims through an evaluation and a publication -/

theorem Claims.put_of (c : Claims) (q : Quantity) : c.put q (c.of q) = c := by cases q <;> rfl

/-- The evaluation of a claim decides it, and leaves the claims of the other quantities. -/
theorem State.evaluateClaim_claims (s : State) (q : Quantity) :
    (s.evaluateClaim q).twu.claims = s.twu.claims.put q (s.twu.claimFor q (s.twu.claims.of q) (s.twu.handed.of q)) := by
  unfold State.evaluateClaim
  dsimp only
  split
  · next kept => rw [kept, Claims.put_of]
  · split <;> rfl

/-- Only a band that takes a claim is latched. -/
theorem State.evaluateClaim_bands (s : State) (q : Quantity)
    (free : s.twu.claimFor q (s.twu.claims.of q) (s.twu.handed.of q) = none) :
    (s.evaluateClaim q).twu.bands = s.twu.bands := by
  unfold State.evaluateClaim
  dsimp only
  split
  · rfl
  · rw [free]; rfl

/-- A publication changes the Intake Condition alone of the TWU. -/
theorem State.recompute_twu (s : State) : s.recompute.twu = { s.twu with condition := s.recompute.twu.condition } := by
  unfold State.recompute
  dsimp only
  split
  · rfl
  · rw [(State.readersAct_work _ s.twu.condition fun _ => False).twu]
    rfl

theorem State.settle_twu (s : State) : s.settle.twu = s.twu := (s.settle_duty fun _ => False).sea.1

/-! ## The rate event -/

/-- The rate of the ring formed and handed (R29). -/
def State.formRate (s : State) : State :=
  s.onTwu fun w =>
    { w with
      rate := rateOf w.ring w.trendInterval, handed := { w.handed with rate := rateOf w.ring w.trendInterval } }

theorem State.rateEvent_eq (s : State) : s.rateEvent = ((s.formRate.evaluateClaim .rate).recompute).settle := rfl

theorem State.rateEvent_claim (s : State) : s.formRate.ClaimFrame s.rateEvent :=
  ((State.evaluateClaim_claim _ _).trans (State.recompute_claim _)).trans (State.settle_claim _)

theorem State.formRate_read (s : State) : s.ReadFrame s.formRate := s.onTwu_read _ rfl

theorem State.rateEvent_read (s : State) : s.ReadFrame s.rateEvent := s.formRate_read.trans s.rateEvent_claim.read

theorem State.rateEvent_twu (s : State) :
    s.rateEvent.twu =
      { (s.formRate.evaluateClaim .rate).twu with
        condition := (s.formRate.evaluateClaim .rate).recompute.twu.condition } := by
  rw [State.rateEvent_eq, State.settle_twu, ← State.recompute_twu]

theorem State.rateEvent_claims (s : State) :
    s.rateEvent.twu.claims = { s.twu.claims with
      rate := s.formRate.twu.claimFor .rate s.twu.claims.rate (rateOf s.twu.ring s.twu.trendInterval) } := by
  rw [State.rateEvent_twu]
  exact State.evaluateClaim_claims _ _

theorem State.rateEvent_bands (s : State) (unavailable : rateOf s.twu.ring s.twu.trendInterval = none) :
    s.rateEvent.twu.bands = s.twu.bands := by
  have free : s.formRate.twu.claimFor .rate (s.formRate.twu.claims.of .rate) (s.formRate.twu.handed.of .rate)
      = none := by
    show s.formRate.twu.claimFor .rate _ (rateOf s.twu.ring s.twu.trendInterval) = none
    rw [unavailable]
    rfl
  rw [State.rateEvent_twu]
  exact State.evaluateClaim_bands _ _ free

/-- What a rate event leaves of the TWU beside the RATE claim, the bands' latches and the Intake Condition. -/
theorem State.rateEvent_kept (s : State) :
    s.rateEvent.twu.trendTimer = s.twu.trendTimer ∧ s.rateEvent.twu.trendInterval = s.twu.trendInterval
      ∧ s.rateEvent.twu.ring = s.twu.ring ∧ s.rateEvent.twu.rate = rateOf s.twu.ring s.twu.trendInterval
      ∧ s.rateEvent.twu.handed = { s.twu.handed with rate := rateOf s.twu.ring s.twu.trendInterval }
      ∧ s.rateEvent.twu.banks = s.twu.banks ∧ s.rateEvent.twu.loading = s.twu.loading
      ∧ s.rateEvent.twu.prediction = s.twu.prediction := by
  have kept := s.rateEvent_claim
  exact ⟨(congrArg Twu.trendTimer kept.twu :), (congrArg Twu.trendInterval kept.twu :), kept.ring, kept.rate,
    kept.handed, kept.banks, kept.loading, (congrArg Twu.prediction kept.twu :)⟩

/-! ## The rate of a ring (R29) -/

theorem rateOf_of_last {a b p : TidePoint} {l : List TidePoint} {interval : Nat}
    (last : (a :: b :: l).getLast? = some p) : rateOf (a :: b :: l) interval = some (clampInt (-9999) 9999
      (roundDiv ((p.level - a.level) * 3600) (interval * ((a :: b :: l).length - 1)))) := by
  unfold rateOf
  rw [last]

theorem rateOf_ends (oldest newest : TidePoint) (others : List TidePoint) (interval : Nat) :
    rateOf (oldest :: others ++ [newest]) interval = some (clampInt (-9999) 9999
      (roundDiv ((newest.level - oldest.level) * 3600) (interval * (others.length + 1)))) := by
  have last : (oldest :: others ++ [newest]).getLast? = some newest := List.getLast?_concat
  cases others with
  | nil => rfl
  | cons b others =>
    have steps : (oldest :: (b :: others) ++ [newest]).length - 1 = (b :: others).length + 1 := by simp
    rw [← steps]
    exact rateOf_of_last last

theorem rateOf_bounds (oldest newest : TidePoint) (others : List TidePoint) {interval : Nat} (pos : 0 < interval) :
    ∃ q : Int, rateOf (oldest :: others ++ [newest]) interval = some (max (-9999) (min 9999 q))
      ∧ (2 * ((interval * (others.length + 1) : Nat) * q - (newest.level - oldest.level) * 3600)).natAbs
          ≤ interval * (others.length + 1)
      ∧ ((2 * ((interval * (others.length + 1) : Nat) * q - (newest.level - oldest.level) * 3600)).natAbs
            = interval * (others.length + 1) →
          ((newest.level - oldest.level) * 3600).natAbs < ((interval * (others.length + 1) : Nat) * q).natAbs) :=
  ⟨_, by rw [rateOf_ends, clampInt_eq (by omega)], roundDiv_nearest _ (Nat.mul_pos pos (Nat.succ_pos _))⟩

/-! ## The expiry of the trend timer (R26, R27) -/

/-- An entry joins the ring, and the newest 16 remain. -/
theorem appendRing_eq {ring : List TidePoint} (h : ring.length ≤ 16) (p : TidePoint) :
    appendRing ring p = ring.drop (ring.length - 15) ++ [p] := by
  unfold appendRing
  split
  · next room => rw [show ring.length - 15 = 0 by omega, List.drop_zero]
  · next full => rw [show ring.length - 15 = 1 by omega]

theorem trendDue (running : s.phase = .running) (due : s.twu.trendInterval * 1000 ≤ s.twu.trendTimer) :
    (s.active && reached s.twu.trendTimer s.twu.trendInterval) = true := by
  simp [State.active, running, reached, due]

theorem trendTimerExpiry_lost (running : s.phase = .running) (due : s.twu.trendInterval * 1000 ≤ s.twu.trendTimer)
    (lost : s.lau.record.cls = .lost) :
    exec .trendTimerExpiry s = .next { s with twu := { s.twu with trendTimer := 0 } } :=
  congrArg Host.Outcome.next ((if_pos (trendDue running due)).trans (if_pos lost))

/-- The ring with its new entry, the trend timer restarted. -/
def State.ringGrown (s : State) : State :=
  s.onTwu fun w => { w with trendTimer := 0, ring := appendRing w.ring ⟨s.stamp, s.lau.record.sea⟩ }

theorem trendTimerExpiry_grows (running : s.phase = .running) (due : s.twu.trendInterval * 1000 ≤ s.twu.trendTimer)
    (found : s.lau.record.cls ≠ .lost) : exec .trendTimerExpiry s = .next s.ringGrown.rateEvent :=
  congrArg Host.Outcome.next ((if_pos (trendDue running due)).trans (if_neg found))

theorem State.ringGrown_read (s : State) : s.ReadFrame s.ringGrown := s.onTwu_read _ rfl

/-! ## SET TREND (R25) -/

theorem setTrend_taken {v w : Nat} (h : s.Takes (.setTrend (.args v))) (hw : w = heldTo 5 60 v) :
    exec (.setTrend (.args v)) s =
      .next (State.reply
        (if w = s.twu.trendInterval then s else (s.onTwu fun u => { u with trendInterval := w }).emptyRing)
        (if w = v then .ok else .okAdjusted) (if w = v then [] else encodeField .u16 w)) := by
  show Host.Outcome.next (s.request _ _) = _
  rw [args_takes h]
  simp only [clampNat_eq (show 5 ≤ 60 by omega), ← hw, okCode_ne, takenData_ne]

/-- The trend interval is section 2 of the settings alone. -/
theorem sectionValues_trendInterval (s : State) (w i : Nat) : ∀ x : Nat, x ≠ 2 →
    (s.onTwu fun u => { u with trendInterval := w }).sectionValues x i = s.sectionValues x i
  | 2, h => absurd rfl h
  | 0, _ | 1, _ | 3, _ | 4, _ | 5, _ | 6, _ | 7, _ | 8, _ | 9, _ | 10, _ | 11, _ | _ + 12, _ => rfl

/-- What a new trend interval leaves: no ring and no rate, handed and claimed as such. -/
theorem State.emptyRing_kept (s : State) :
    s.emptyRing.twu.trendTimer = 0 ∧ s.emptyRing.twu.trendInterval = s.twu.trendInterval ∧ s.emptyRing.twu.ring = []
      ∧ s.emptyRing.twu.rate = none ∧ s.emptyRing.twu.handed = { s.twu.handed with rate := none }
      ∧ s.emptyRing.twu.claims = { s.twu.claims with rate := none } ∧ s.emptyRing.twu.banks = s.twu.banks
      ∧ s.emptyRing.twu.bands = s.twu.bands := by
  obtain ⟨timer, interval, ring, rate, handed, banks, -, -⟩ :=
    (s.onTwu fun w => { w with ring := [], trendTimer := 0 }).rateEvent_kept
  exact ⟨timer, interval, ring, rate, handed, State.rateEvent_claims _, banks, State.rateEvent_bands _ rfl⟩

/-- Settles O22: the ring with its new entry, or emptied, and then the rate event. -/
theorem trendRingAndRate : Obligations.TrendRingAndRate := by
  refine ⟨fun s running due => ⟨trendTimerExpiry_lost running due, fun found bounded => ?_⟩,
    fun _ _ => ⟨rfl, rfl, fun oldest newest others => rateOf_bounds oldest newest others⟩, fun s v w takes hw => ?_⟩
  · obtain ⟨timer, interval, ring, rate, handed, banks, loading, prediction⟩ := s.ringGrown.rateEvent_kept
    have claims := s.ringGrown.rateEvent_claims
    have frame := s.ringGrown_read.trans s.ringGrown.rateEvent_read
    refine ⟨_, trendTimerExpiry_grows running due found, timer, interval, ?_, ?_, ?_, ?_, ?_, banks, loading,
      prediction, frame.core.lau, frame.core.phase, fun x i hx => ?_, frame.link⟩
    · exact ring.trans (appendRing_eq bounded _)
    · rw [ring]; exact rate
    · rw [rate]; exact handed
    · rw [claims]; rfl
    · rw [claims]; rfl
    · exact frame.sameSettings.sectionValues x i fun h => absurd h hx
  · refine ⟨_, setTrend_taken takes hw, fun same => if_pos same, fun new => ?_⟩
    rw [if_neg new]
    obtain ⟨timer, interval, ring, rate, handed, claims, banks, bands⟩ :=
      (s.onTwu fun u => { u with trendInterval := w }).emptyRing_kept
    have frame := (State.dropRing_read _).trans (s.onTwu fun u => { u with trendInterval := w }).emptyRing_claim.read
    have set : s.LinkFrame (s.onTwu fun u => { u with trendInterval := w }) := .of_eq rfl
    refine ⟨interval, timer, ring, rate, handed, ?_, ?_, ?_, banks, bands, frame.core.lau, frame.core.phase,
      fun x i h2 h11 => ?_, set.trans frame.link⟩
    · rw [claims]
    · rw [claims]; rfl
    · rw [claims]; rfl
    · exact (frame.sameSettings.sectionValues x i fun h => absurd h h11).trans (sectionValues_trendInterval s w i x h2)

end Sys2Proof.Machine
end

section
/-! PROOFS. The TWU through the operations of the other blocks and of the link, which leave it alone. -/

namespace Sys2Proof.Machine

section Ops
variable (s : State)

/-- Pieces of work that leave the TWU alone, one after another, leave it alone. -/
theorem twu_foldl {α : Type} {f : State → α → State} (hf : ∀ s a, (f s a).twu = s.twu) (l : List α) :
    (l.foldl f s).twu = s.twu := foldl_keeps State.twu f hf l s

theorem twu_ite {c : Prop} [Decidable c] {a b : State} (ha : a.twu = s.twu) (hb : b.twu = s.twu) :
    (if c then a else b).twu = s.twu := by
  split
  · exact ha
  · exact hb

/-! ## Washes and the header -/

@[simp] theorem twu_enterScreen (n : ScreenId) (st : ScreenState) : (s.enterScreen n st).twu = s.twu := rfl
@[simp] theorem twu_reevaluate : s.reevaluate.twu = s.twu := (s.reevaluate_duty fun _ => False).sea.1
@[simp] theorem twu_publishHeld : s.publishHeld.twu = s.twu := (s.publishHeld_duty fun _ => False).sea.1
@[simp] theorem twu_endWash (n : ScreenId) (o : WashOutcome) (next : ScreenState) :
    (s.endWash n o next).twu = s.twu := (s.endWash_work (W := fun _ => True) o next (fun _ => False) trivial).twu
@[simp] theorem twu_endWashes (p : State → ScreenId → Bool) (o : WashOutcome) : (s.endWashes p o).twu = s.twu :=
  (s.endWashes_work p o fun _ => False).twu
@[simp] theorem twu_clearHeader (o : WashOutcome) : (s.clearHeader o).twu = s.twu :=
  (s.clearHeader_work o fun _ => False).twu
@[simp] theorem twu_endSluice : s.endSluice.twu = s.twu := (s.endSluice_work fun _ => False).twu
@[simp] theorem twu_activatePurge : s.activatePurge.twu = s.twu :=
  (s.activatePurge_work (fun _ => False) fun _ => False).twu
@[simp] theorem twu_finishPurge : s.finishPurge.twu = s.twu := (s.finishPurge_work (fun _ => False) fun _ => False).twu
@[simp] theorem twu_finishContinuous : s.finishContinuous.twu = s.twu := (s.finishContinuous_work fun _ => False).twu
@[simp] theorem twu_evaluateTriggers : s.evaluateTriggers.twu = s.twu := (s.evaluateTriggers_work fun _ => False).twu
@[simp] theorem twu_joinQueue (n : ScreenId) (c : WashClass) (p : Nat) (m : Option Nat) :
    (s.joinQueue n c p m).twu = s.twu := rfl
@[simp] theorem twu_mergeQueue (n : ScreenId) (c : WashClass) (p : Nat) (m : Option Nat) :
    (s.mergeQueue n c p m).twu = s.twu := rfl
@[simp] theorem twu_stage (n : ScreenId) (g : Staged) : (s.stage n g).twu = s.twu := rfl
@[simp] theorem twu_removeEntry (n : ScreenId) (next : ScreenState) : (s.removeEntry n next).twu = s.twu :=
  (s.removeEntry_work (W := fun _ => True) next (fun _ => False) trivial).twu
@[simp] theorem twu_setWash (n : ScreenId) (w : WashRecord) : (s.setWash n w).twu = s.twu := rfl
@[simp] theorem twu_purgeOverdue : s.purgeOverdue.twu = s.twu := twu_finishContinuous _
@[simp] theorem twu_loseHeader : s.loseHeader.twu = s.twu := twu_endWashes s _ _
@[simp] theorem twu_publishCapacity : s.publishCapacity.twu = s.twu := twu_ite s rfl rfl
@[simp] theorem twu_formVerdicts : s.formVerdicts.twu = s.twu := twu_publishCapacity _
@[simp] theorem twu_settle : s.settle.twu = s.twu := s.settle_twu

@[simp] theorem twu_acceptPulse (n : ScreenId) (w : WashRecord) : (s.acceptPulse n w).twu = s.twu := by
  unfold State.acceptPulse
  split
  · exact twu_ite s rfl (twu_ite s rfl rfl)
  all_goals simp

@[simp] theorem twu_jamActs (n : ScreenId) (rising : Bool) : (s.jamActs n rising).twu = s.twu := by
  unfold State.jamActs
  split
  iterate 2 exact twu_ite s (by simp) rfl
  all_goals simp

@[simp] theorem twu_jamLevel (n : ScreenId) (level : Bool) : (s.jamLevel n level).twu = s.twu :=
  twu_ite s rfl (twu_ite s (by simp) rfl)

@[simp] theorem twu_stopWash (n : ScreenId) : (s.stopWash n).twu = s.twu := by
  unfold State.stopWash; split <;> simp

@[simp] theorem twu_serviceOut (n : ScreenId) : (s.serviceOut n).twu = s.twu := by
  unfold State.serviceOut; split <;> simp

@[simp] theorem twu_serviceIn (n : ScreenId) : (s.serviceIn n).twu = s.twu := by
  unfold State.serviceIn
  split
  · exact twu_ite s rfl rfl
  all_goals rfl

@[simp] theorem twu_purgeIntervalActs : s.purgeIntervalActs.twu = s.twu := by
  unfold State.purgeIntervalActs
  split
  · rfl
  · exact twu_ite s (by simp) rfl
  · rfl

/-- What a changed setting does leaves the TWU alone if its own work does. -/
theorem twu_whenNew (old new : Nat) {f : State → State} (hf : ∀ s, (f s).twu = s.twu) :
    (whenNew old new f s).twu = s.twu := twu_ite s rfl (hf s)

@[simp] theorem twu_washTimingActs (old : Swc) : (s.washTimingActs old).twu = s.twu := by
  unfold State.washTimingActs
  dsimp only
  rw [twu_whenNew _ _ _ fun t => twu_ite t (by simp) rfl, twu_whenNew _ _ _ fun t => twu_ite t (by simp) rfl,
    twu_whenNew _ _ _ fun t => twu_ite t (by simp) rfl, twu_whenNew _ _ _ twu_purgeIntervalActs,
    twu_whenNew _ _ _ fun t => twu_ite t (by simp) rfl, twu_whenNew _ _ _ fun t => by simp]

@[simp] theorem twu_hostWash (n : ScreenId) (p m : Nat) : (s.hostWash n p m).twu = s.twu := by
  unfold State.hostWash; split <;> simp

/-! ## Pumps and duty -/

@[simp] theorem twu_enterPump (p : PumpId) (st : PumpState) : (s.enterPump p st).twu = s.twu := rfl
@[simp] theorem twu_rest (p : PumpId) : (s.rest p).twu = s.twu := rfl
@[simp] theorem twu_stopEnded (p : PumpId) : (s.stopEnded p).twu = s.twu :=
  (s.stopEnded_duty (P := fun _ => True) trivial).sea.1
@[simp] theorem twu_orderStop (p : PumpId) (o : StopOrigin) (m : Option Nat) : (s.orderStop p o m).twu = s.twu :=
  (s.orderStop_duty p o m fun _ => True).sea.1
@[simp] theorem twu_lowLevelActs (p : PumpId) : (s.lowLevelActs p).twu = s.twu :=
  (s.lowLevelActs_duty (P := fun _ => True) trivial).sea.1
@[simp] theorem twu_enterRunning (p : PumpId) : (s.enterRunning p).twu = s.twu :=
  (s.enterRunning_duty (P := fun _ => True) trivial).sea.1
@[simp] theorem twu_failPump (p : PumpId) (c : FailCause) : (s.failPump p c).twu = s.twu :=
  (s.failPump_duty (P := fun _ => True) c trivial).sea.1
@[simp] theorem twu_startArbiter : s.startArbiter.twu = s.twu := (s.startArbiter_duty fun _ => True).sea.1
@[simp] theorem twu_joinStart (p : PumpId) (o : StartOrigin) (m : Option Nat) : (s.joinStart p o m).twu = s.twu :=
  (s.joinStart_duty p o m fun _ => True).sea.1
@[simp] theorem twu_leaveStart (p : PumpId) : (s.leaveStart p).twu = s.twu := rfl
@[simp] theorem twu_refuseStart (e : StartEntry) (c : Nat) : (s.refuseStart e c).twu = s.twu :=
  (s.refuseStart_duty e c fun _ => True).sea.1
@[simp] theorem twu_fallDue (k : ScopeId) : (s.fallDue k).twu = s.twu := (s.fallDue_duty k fun _ => True).sea.1
@[simp] theorem twu_feedbackLevel (p : PumpId) (level : Bool) : (s.feedbackLevel p level).twu = s.twu := rfl

@[simp] theorem twu_setMode (m : DutyMode) : (s.setMode m).twu = s.twu := by
  unfold State.setMode
  refine twu_ite s rfl ?_
  cases m <;> rfl

@[simp] theorem twu_disablePump (p : PumpId) : (s.disablePump p).twu = s.twu := by
  unfold State.disablePump
  simp only [twu_enterPump, State.onPump_twu]
  split <;> simp

@[simp] theorem twu_cutRecovery (p : PumpId) : (s.cutRecovery p).twu = s.twu := twu_ite s (twu_ite s rfl rfl) rfl

theorem twu_cutClass (c : PumpClass) : (State.cutClass c s).twu = s.twu :=
  twu_foldl s (fun t _ => twu_ite t (by simp) rfl) _

theorem twu_makeDueStops : s.makeDueStops.twu = s.twu :=
  (State.evaluationFollows_twu _).trans (twu_foldl s (fun t _ => twu_ite t (by simp) rfl) _)

@[simp] theorem twu_pumpTimingActs (old : Pdc) : (s.pumpTimingActs old).twu = s.twu := by
  unfold State.pumpTimingActs State.endLateStarts State.endLateStops State.stopLowPumps
  dsimp only
  rw [twu_whenNew _ _ _ (f := State.fallbackDemandActs) fun t => twu_ite t rfl rfl,
    twu_whenNew _ _ _ fun t => State.onPdc_twu _ t,
    twu_whenNew _ _ _ State.evaluationFollows_twu, twu_whenNew _ _ _ twu_makeDueStops,
    twu_whenNew _ _ _ fun t => twu_foldl t (fun u _ => twu_ite u (by simp) rfl) _,
    twu_whenNew _ _ _ State.evaluationFollows_twu, twu_whenNew _ _ _ (f := State.spacingActs) fun t => twu_startArbiter _,
    twu_whenNew _ _ _ fun t => twu_foldl t (fun u _ => twu_ite u (by simp) rfl) _,
    twu_whenNew _ _ _ fun t => twu_foldl t (fun u _ => twu_ite u (by simp) rfl) _,
    twu_whenNew _ _ _ fun t => twu_cutClass t _, twu_whenNew _ _ _ fun t => twu_cutClass t _]

@[simp] theorem twu_hostStart (p : PumpId) (m : Nat) : (s.hostStart p m).twu = s.twu := by
  unfold State.hostStart; split <;> simp

@[simp] theorem twu_hostStop (p : PumpId) (f : Bool) (m : Nat) : (s.hostStop p f m).twu = s.twu := by
  unfold State.hostStop
  split
  · rfl
  · rw [twu_settle, twu_orderStop]
    exact twu_ite s (by simp) rfl
  all_goals rfl

@[simp] theorem twu_swcReads : s.swcReads.twu = s.twu := by simp [State.swcReads]

@[simp] theorem twu_pdcReads : s.pdcReads.twu = s.twu :=
  (twu_settle _).trans (twu_foldl (f := State.marginPeriod) s (fun _ _ => rfl) _)

/-! ## The scan -/

theorem twu_sampleNotice (c : ChannelId) (ch : Channel) (e : Nat) : (s.sampleNotice c ch e).twu = s.twu := by
  obtain hn | ⟨_, _, _, _, _, _, hn⟩ := sampleNotice_cases s c ch e <;> rw [hn]
  rfl

@[simp] theorem twu_dealNext : s.dealNext.twu = s.twu := by
  unfold State.dealNext
  split
  · rfl
  · split
    · exact twu_ite s (twu_sampleNotice _ _ _ _) rfl
    · rfl

theorem twu_dealMany : ∀ (k : Nat) (s : State), (State.dealMany k s).twu = s.twu
  | 0, _ => rfl
  | k + 1, s => (twu_dealMany k s.dealNext).trans (twu_dealNext s)

theorem twu_publishRecord : s.publishRecord.twu = s.twu := twu_ite s rfl rfl

/-! ## The link -/

@[simp] theorem twu_heard : s.heard.twu = s.twu := twu_ite s rfl rfl
@[simp] theorem twu_hold (r : Request) : (s.hold r).twu = s.twu := twu_ite s rfl rfl
@[simp] theorem twu_arrive (i : Instr) : (s.arrive i).twu = s.twu := by simp [State.arrive]
@[simp] theorem twu_goodFrame (f : Frame) : (s.goodFrame f).twu = s.twu := twu_ite s (twu_heard s) (by simp)

@[simp] theorem twu_transmitNext (b : Bool) : (s.transmitNext b).twu = s.twu := by
  unfold State.transmitNext
  split
  · rfl
  · exact twu_ite s rfl rfl

@[simp] theorem twu_enterFallback : s.enterFallback.twu = s.twu := by
  unfold State.enterFallback
  dsimp only
  rw [State.notify_twu, twu_settle, State.evaluationFollows_twu, State.onPdc_twu, twu_setMode, State.onSlp_twu]

@[simp] theorem twu_discardSlot (i : SlotId) : (s.discardSlot i).twu = s.twu := by
  unfold State.discardSlot
  split
  · split <;> rfl
  · rfl

@[simp] theorem twu_linkActs (old : Slp) : (s.linkActs old).twu = s.twu := by
  unfold State.linkActs State.discardActs
  dsimp only
  rw [twu_whenNew _ _ _ fun t => twu_foldl t (fun u _ => twu_ite u (by simp) rfl) _,
    twu_whenNew _ _ _ (f := State.supervisionActs) fun _ => rfl, twu_whenNew _ _ _ fun t => State.onSlp_twu _ t]

end Ops

end Sys2Proof.Machine
end

section
/-! PROOFS. The walk of the commands: each that is not of the TWU, nor of start-up, leaves the TWU alone. -/

namespace Sys2Proof.Machine

/-! ## Requests -/

/-- What holds before a request holds after it, if it stands the arrival, the rule that serves the request in its phase,
and the reply. -/
theorem requestIn_keeps {P : State → Prop} {f g : State → Answer} {i : Instr} {s : State} (h : P s)
    (arrive : ∀ t, P t → P (t.arrive i)) (reply : ∀ (t : State) c d, P t → P (t.reply c d))
    (whileLoading : ∀ t, t.phase = .loading → P t → P (f t).state)
    (rule : ∀ t, t.phase = .running → P t → P (g t).state) : P (s.requestIn i f g) := by
  have served (t : State) (ht : P t) (phase : t.phase ≠ .resetHeld) : P (t.serve f g) := by
    unfold State.serve
    refine reply _ _ _ ?_
    cases hp : t.phase with
    | resetHeld => exact absurd hp phase
    | loading => exact whileLoading t hp ht
    | running => exact rule t hp ht
  unfold State.requestIn
  by_cases hp : s.phase = .resetHeld
  · rw [hp]; exact h
  · have taken : P (if s.slp.replyOutstanding then s.arrive i
        else match s.slp.requests with
          | [] => (s.arrive i).serve f g
          | r :: _ => if r.command = i then s.serve f g else s.arrive i) := by
      split
      · exact arrive s h
      · split
        · exact served _ (arrive s h) (by rwa [(arrive_blocks s i).1])
        · split
          · exact served s h hp
          · exact arrive s h
    split
    · exact h
    all_goals exact taken

/-- The rule of a request leaves the TWU alone. -/
def KeepsTwu (rule : State → Answer) : Prop := ∀ t, (rule t).state.twu = t.twu

namespace KeepsTwu

theorem refuse (c : Code) : KeepsTwu fun t => .refuse t c := fun _ => rfl

theorem withArgs {α : Type} {k : α → State → Answer} (a : Form α) (h : ∀ x, KeepsTwu (k x)) :
    KeepsTwu (withArgs a k) := by
  cases a with
  | args x => exact h x
  | mismatch => exact refuse _

theorem outsideFallback {k : State → Answer} (h : KeepsTwu k) : KeepsTwu (outsideFallback k) := by
  intro t
  unfold Machine.outsideFallback
  split
  · rfl
  · exact h t

end KeepsTwu

/-- What the rule of the owner of a deferred request leaves. -/
def Verdict.KeepsTwu (t : State) : Verdict → Prop
  | .answered u => u.twu = t.twu
  | .refused _ | .opens => True

theorem newRequest_twu (s : State) (k : DeferredKind) (g : Target) (args : List Byte) {v : Verdict}
    {act : Nat → State → State} (data : List Byte) (hv : v.KeepsTwu s) (ha : ∀ m t, (act m t).twu = t.twu) :
    (newRequest k g args v act data s).state.twu = s.twu := by
  unfold newRequest
  split
  · rfl
  · exact hv
  · split
    · rfl
    · exact ha _ _

theorem KeepsTwu.deferred {k : DeferredKind} {g : Target} {args : List Byte} {v : State → Verdict}
    {act : Nat → State → State} {data : List Byte} (hv : ∀ t, (v t).KeepsTwu t) (ha : ∀ m t, (act m t).twu = t.twu) :
    KeepsTwu (deferredRequest k g args v act data) := by
  intro t
  unfold deferredRequest
  split
  · split
    · unfold foundSlot
      split
      · split <;> rfl
      · rfl
    · exact newRequest_twu t k g args data (hv t) ha
  · exact newRequest_twu t k g args data (hv t) ha

theorem washVerdict_keepsTwu (n : ScreenId) (t : State) : (washVerdict n t).KeepsTwu t := by
  unfold washVerdict
  split
  iterate 4 trivial
  all_goals split <;> trivial

theorem startVerdict_keepsTwu (p : PumpId) (t : State) : (startVerdict p t).KeepsTwu t := by
  unfold startVerdict
  split
  · trivial
  · split
    · rfl
    all_goals trivial

theorem stopVerdict_keepsTwu (p : PumpId) (f : Bool) (t : State) : (stopVerdict p f t).KeepsTwu t := by
  unfold stopVerdict
  split
  · trivial
  · split
    iterate 4 rfl
    iterate 2 trivial
    split <;> trivial

theorem saveVerdict_keepsTwu (t : State) : (saveVerdict t).KeepsTwu t := by
  unfold saveVerdict; split <;> trivial

/-! ## The commands -/

/-- A command ends in a next state with the TWU of `s`. -/
def LeavesTwu (s : State) (o : Host.Outcome State Fault Refusal) : Prop := ∃ t, o = .next t ∧ t.twu = s.twu

namespace LeavesTwu

variable {s : State}

theorem next {t : State} (h : t.twu = s.twu) : LeavesTwu s (.next t) := ⟨t, rfl, h⟩

/-- A command that acts on a condition, and otherwise does nothing. -/
theorem onCondition {c : Prop} [Decidable c] {t : State} (h : t.twu = s.twu) :
    LeavesTwu s (.next (if c then t else s)) := next (twu_ite s h rfl)

theorem requestIn {f g : State → Answer} (hf : KeepsTwu f) (hg : KeepsTwu g) (i : Instr) (s : State) :
    LeavesTwu s (.next (s.requestIn i f g)) :=
  next (requestIn_keeps (P := fun t => t.twu = s.twu) rfl (fun t h => (twu_arrive t i).trans h)
    (fun t c d h => (reply_twu t c d).trans h) (fun t _ h => (hf t).trans h) fun t _ h => (hg t).trans h)

/-- A request with arguments whose rule leaves the TWU alone. -/
theorem args {α : Type} {k : α → State → Answer} (i : Instr) (a : Form α) (s : State) (h : ∀ x, KeepsTwu (k x)) :
    LeavesTwu s (.next (s.request i (withArgs a k))) := requestIn (.refuse _) (.withArgs a h) i s

end LeavesTwu

section Events
variable (s : State)

theorem leavesTwu_indexPulse (n : ScreenId) : LeavesTwu s (execIndexPulse n s) := by
  refine .onCondition ?_
  split
  · rfl
  · exact twu_ite s rfl (by simp)

theorem leavesTwu_pfbFalling (p : PumpId) : LeavesTwu s (execPfbFalling p s) := by
  refine .onCondition (twu_ite s ?_ rfl)
  split
  · exact twu_ite s rfl (by simp)
  · simp
  all_goals rfl

theorem leavesTwu_shedTimerExpiry (k : ScopeId) : LeavesTwu s (execShedTimerExpiry k s) := by
  refine .next ?_
  split
  · exact twu_ite s (by simp) rfl
  · rfl

theorem leavesTwu_saveConfigEnd (e : SaveEnd) : LeavesTwu s (execSaveConfigEnd e s) := by
  refine .next ?_
  split
  · rfl
  · exact twu_ite s (by simp [State.reportSave]) rfl

theorem leavesTwu_batchSent : LeavesTwu s (execBatchSent s) := by
  refine .next ?_
  split
  · simp
  all_goals rfl

end Events

section Requests
variable (s : State)

theorem leavesTwu_getTidePoints (a : Form (Nat × Nat)) : LeavesTwu s (execGetTidePoints a s) := by
  refine .args _ a s fun x t => ?_
  split
  · rfl
  · dsimp only; split <;> rfl

theorem leavesTwu_getScreen (a : Form Nat) : LeavesTwu s (execGetScreen a s) := by
  refine .args _ a s fun x t => ?_
  split <;> rfl

theorem leavesTwu_getPump (a : Form Nat) : LeavesTwu s (execGetPump a s) := by
  refine .args _ a s fun x t => ?_
  split <;> rfl

theorem leavesTwu_setChannel (a : Form ChannelArgs) : LeavesTwu s (execSetChannel a s) := by
  refine .args _ a s fun x t => ?_
  split
  · rfl
  · split
    · rfl
    · split
      · rfl
      · split <;> rfl

theorem leavesTwu_setScreen (a : Form ScreenArgs) : LeavesTwu s (execSetScreen a s) := by
  refine .args _ a s fun x t => ?_
  split
  · rfl
  · split <;> rfl

theorem leavesTwu_setWashTiming (a : Form WashTimingArgs) : LeavesTwu s (execSetWashTiming a s) := by
  refine .args _ a s fun x t => ?_
  split
  · rfl
  · simp

theorem setPumpOn_keepsTwu (p : PumpId) (k : Option PumpClass) (c : PumpArgs) : KeepsTwu (setPumpOn p k c) :=
  fun t => twu_ite t rfl (by simp)

theorem leavesTwu_setPump (a : Form PumpArgs) : LeavesTwu s (execSetPump a s) := by
  refine .args _ a s fun x t => ?_
  split
  · rfl
  · split
    · rfl
    · split
      · exact setPumpOn_keepsTwu _ _ _ t
      · split
        · rfl
        · exact setPumpOn_keepsTwu _ _ _ t

theorem leavesTwu_setPumpTiming (a : Form PumpTimingArgs) : LeavesTwu s (execSetPumpTiming a s) := by
  refine .args _ a s fun x t => ?_
  split
  · rfl
  · simp

theorem leavesTwu_setDutyOrder (a : Form (List Nat)) : LeavesTwu s (execSetDutyOrder a s) := by
  refine .args _ a s fun x t => ?_
  split
  · rfl
  · exact twu_ite t rfl (by simp)

theorem leavesTwu_setDutyMode (a : Form Nat) : LeavesTwu s (execSetDutyMode a s) := by
  refine .args _ a s fun x t => ?_
  split
  · rfl
  · exact KeepsTwu.outsideFallback (fun u => by simp) t

theorem leavesTwu_setLink (a : Form LinkArgs) : LeavesTwu s (execSetLink a s) := by
  refine .args _ a s fun x t => ?_
  split
  · rfl
  · split
    · rfl
    · simp

theorem leavesTwu_stopWash (a : Form Nat) : LeavesTwu s (execStopWash a s) := by
  refine .args _ a s fun x t => ?_
  split
  · rfl
  · exact KeepsTwu.outsideFallback (fun u => by simp) t

theorem leavesTwu_clearScreen (a : Form Nat) : LeavesTwu s (execClearScreen a s) := by
  refine .args _ a s fun x t => ?_
  split
  · rfl
  · split
    · split
      · rfl
      · simp
    all_goals rfl

theorem leavesTwu_setService (a : Form (Nat × Nat)) : LeavesTwu s (execSetService a s) := by
  refine .args _ a s fun x t => ?_
  split
  · refine KeepsTwu.outsideFallback (fun u => ?_) t
    dsimp only
    rw [twu_settle, twu_publishCapacity]
    exact twu_ite u (by simp) (by simp)
  · rfl

theorem leavesTwu_enablePump (a : Form Nat) : LeavesTwu s (execEnablePump a s) := by
  refine .args _ a s fun x t => ?_
  split
  · rfl
  · split
    · simp
    all_goals rfl

theorem leavesTwu_disablePump (a : Form Nat) : LeavesTwu s (execDisablePump a s) := by
  refine .args _ a s fun x t => ?_
  split
  · rfl
  · split <;> simp [Answer.refuse]

theorem leavesTwu_clearPump (a : Form Nat) : LeavesTwu s (execClearPump a s) := by
  refine .args _ a s fun x t => ?_
  split
  · rfl
  · split
    · split
      · rfl
      · simp
    all_goals rfl

theorem leavesTwu_resetHours (a : Form Nat) : LeavesTwu s (execResetHours a s) := by
  refine .args _ a s fun x t => ?_
  split <;> rfl

theorem leavesTwu_washScreen (a : Form (Nat × Nat)) : LeavesTwu s (execWashScreen a s) := by
  refine .args _ a s fun x t => ?_
  split
  · rfl
  · exact KeepsTwu.outsideFallback (.deferred (washVerdict_keepsTwu _) fun m u => twu_hostWash u _ _ m) t

theorem leavesTwu_startPump (a : Form Nat) : LeavesTwu s (execStartPump a s) := by
  refine .args _ a s fun x t => ?_
  split
  · rfl
  · exact KeepsTwu.outsideFallback (.deferred (startVerdict_keepsTwu _) fun m u => twu_hostStart u _ m) t

theorem leavesTwu_stopPump (a : Form (Nat × Nat)) : LeavesTwu s (execStopPump a s) := by
  refine .args _ a s fun x t => ?_
  split
  · exact KeepsTwu.outsideFallback (.deferred (stopVerdict_keepsTwu _ _) fun m u => twu_hostStop u _ _ m) t
  · rfl

end Requests

/-- The commands of start-up, and those of the TWU: the scan event, its timers, the intake time, the tide and the bands. -/
def Instr.touchesTwu : Instr → Bool
  | .powerOn _ | .resetNAsserted | .resetNReleased _ | .loadingEnd _ | .replySent _ => true
  | .scanEvent | .trendTimerExpiry | .reminderTimerExpiry | .intakeTimeCount => true
  | .setTrend _ | .setBandEntry _ | .setBandReminder _ | .setClockAbsolute _ | .setClockStep _ | .tidePoints _ => true
  | .tideCommitNow _ | .tideSeal _ | .tideClear _ | .ackBand _ => true
  | _ => false

/-- Every command but those ends in a next state with the TWU as it was. -/
theorem exec_leavesTwu (c : Instr) (hc : Instr.touchesTwu c = false) (s : State) : LeavesTwu s (exec c s) := by
  cases c
  case powerOn | resetNAsserted | resetNReleased | loadingEnd | replySent | scanEvent | trendTimerExpiry
    | reminderTimerExpiry | intakeTimeCount | setTrend | setBandEntry | setBandReminder | setClockAbsolute
    | setClockStep | tidePoints | tideCommitNow | tideSeal | tideClear | ackBand => cases hc
  case scanTimerExpiry v dealt => exact .onCondition (twu_dealMany _ _)
  case indexPulse n => exact leavesTwu_indexPulse s n
  case sjamRising n => exact .next (twu_jamLevel s n true)
  case sjamFalling n => exact .next (twu_jamLevel s n false)
  case passTimeout n => exact .onCondition (by simp)
  case hdokChange level => exact .next (twu_ite s rfl (twu_ite s (by simp) rfl))
  case headerLossDelayExpiry => exact .onCondition (by simp)
  case sluiceRunEnd => exact .onCondition (by simp)
  case headerPurgeTimerExpiry => exact .onCondition (by simp)
  case headerPurgeComplete => exact .onCondition (by simp)
  case purgeOverdue => exact .onCondition (by simp)
  case pfbRising p => exact .next (twu_ite s rfl (twu_ite s (by simp) rfl))
  case pfbFalling p => exact leavesTwu_pfbFalling s p
  case ptrpActive p level => exact .next (twu_ite s (by simp) rfl)
  case startTimeout p => exact .onCondition (by simp)
  case stopTimeout p => exact .onCondition (by simp)
  case recoveryTimerExpiry p => exact .onCondition (by simp)
  case startSpacingExpiry => exact .onCondition (by simp)
  case rotationTimerExpiry => exact .onCondition (by simp)
  case shedTimerExpiry k => exact leavesTwu_shedTimerExpiry s k
  case lowLevelStop p => exact .onCondition (by simp)
  case discardTimerExpiry i => exact .onCondition (by simp)
  case supervisionTimerExpiry => exact .onCondition (twu_ite s rfl (by simp))
  case saveConfigEnd e => exact leavesTwu_saveConfigEnd s e
  case frameReceived f => exact .onCondition (twu_ite s (twu_goodFrame _ _) rfl)
  case framingError => exact .onCondition rfl
  case rxGapTimeout => exact .onCondition rfl
  case lenAbove120 => exact .onCondition rfl
  case batchSent => exact leavesTwu_batchSent s
  case noticeBatch => exact .onCondition rfl
  case quietTimeExpiry => exact .onCondition rfl
  case frameStart => exact .onCondition rfl
  case unknownKind k => exact .requestIn (.refuse _) (.refuse _) _ s
  case getStatus a => exact .requestIn (.withArgs a fun _ _ => rfl) (.withArgs a fun _ _ => rfl) _ s
  case getLevels a => exact .args _ a s fun _ _ => by split <;> rfl
  case getTideSummary a => exact .args _ a s fun _ _ => rfl
  case getTidePoints a => exact leavesTwu_getTidePoints s a
  case getCondition a => exact .args _ a s fun _ _ => rfl
  case getScreen a => exact leavesTwu_getScreen s a
  case getPump a => exact leavesTwu_getPump s a
  case getNotices a => exact .args _ a s fun _ _ => rfl
  case getConfig a => exact .args _ a s fun _ _ => by split <;> rfl
  case setChannel a => exact leavesTwu_setChannel s a
  case setDensity a => exact .args _ a s fun _ _ => rfl
  case setScan a => exact .args _ a s fun _ _ => rfl
  case setSea a => exact .args _ a s fun _ _ => by dsimp only; split <;> rfl
  case setScreen a => exact leavesTwu_setScreen s a
  case setWashTiming a => exact leavesTwu_setWashTiming s a
  case setPump a => exact leavesTwu_setPump s a
  case setPumpTiming a => exact leavesTwu_setPumpTiming s a
  case setDutyOrder a => exact leavesTwu_setDutyOrder s a
  case setDutyMode a => exact leavesTwu_setDutyMode s a
  case setDemand a => exact .args _ a s fun _ => .outsideFallback fun t => twu_ite t rfl (by simp)
  case setLink a => exact leavesTwu_setLink s a
  case stopWash a => exact leavesTwu_stopWash s a
  case clearScreen a => exact leavesTwu_clearScreen s a
  case setService a => exact leavesTwu_setService s a
  case enablePump a => exact leavesTwu_enablePump s a
  case disablePump a => exact leavesTwu_disablePump s a
  case clearPump a => exact leavesTwu_clearPump s a
  case resetHours a => exact leavesTwu_resetHours s a
  case resume a => exact .args _ a s fun _ _ => rfl
  case softResetLink a => exact .args _ a s fun _ _ => rfl
  case softResetFull a => exact .args _ a s fun _ _ => rfl
  case washScreen a => exact leavesTwu_washScreen s a
  case startPump a => exact leavesTwu_startPump s a
  case stopPump a => exact leavesTwu_stopPump s a
  case saveConfig a => exact .args _ a s fun _ => .deferred saveVerdict_keepsTwu fun _ _ => rfl

end Sys2Proof.Machine
end

section
/-! PROOFS. Before the end of LOADING a command leaves every block at its start-up value (R192). -/

namespace Sys2Proof.Machine

variable {s t : State}

/-! ## The start-up values, block by block -/

/-- The SWC without its screens and HDOK. -/
def Swc.sansPins (w : Swc) : Swc := { w with screens := Vector.replicate 6 {}, hdok := false }

/-- The PDC without its pumps. -/
def Pdc.sansPumps (d : Pdc) : Pdc := { d with pumps := defaultPumps }

/-- The SLP without its line, its requests, LINK_ERROR, the strap, a save and the memory. -/
def Slp.sansLine (l : Slp) : Slp :=
  { l with
    receiver := .hunting, requests := [], waiting := none, tx := .free, linkError := false, fromImage := false
    save := none, memory := [] }

/-- A screen at its start-up value, SJAM as it stands. -/
def Screen.AtStart (sc : Screen) : Prop := sc = { jam := sc.jam }

/-- Pump `p` at its start-up value, PFB and PTRP as they stand. -/
def Pump.AtStart (p : PumpId) (q : Pump) : Prop :=
  q = { cls := if p.val < 6 then .large else .small, feedback := q.feedback, trip := q.trip }

theorem atStartUp_iff : s.AtStartUp ↔
    (s.lau = {} ∧ s.twu = {}) ∧ ((∀ n, (s.screen n).AtStart) ∧ s.swc.sansPins = {})
      ∧ ((∀ p, (s.pump p).AtStart p) ∧ s.pdc.sansPumps = {}) ∧ s.slp.sansLine = {} := by
  constructor
  · intro h
    obtain ⟨lau, twu, swc, pdc, slp⟩ := h
    exact ⟨⟨lau, twu⟩, ⟨atStartUp_screen ⟨lau, twu, swc, pdc, slp⟩, (congrArg Swc.sansPins swc :)⟩,
      ⟨atStartUp_pump ⟨lau, twu, swc, pdc, slp⟩, (congrArg Pdc.sansPumps pdc :)⟩, (congrArg Slp.sansLine slp :)⟩
  · rintro ⟨⟨lau, twu⟩, ⟨screens, swc⟩, ⟨pumps, pdc⟩, slp⟩
    have hs : s.swc.screens = Vector.ofFn fun n : ScreenId => { jam := (s.screen n).jam } :=
      screens_ext fun n => (screens n).trans (by simp)
    have hp : s.pdc.pumps = Vector.ofFn fun p : PumpId =>
        { cls := if p.val < 6 then .large else .small, feedback := (s.pump p).feedback, trip := (s.pump p).trip } :=
      Vector.ext fun i hi => (pumps ⟨i, hi⟩).trans (by simp)
    refine ⟨lau, twu, ?_, ?_, ?_⟩
    · rw [← hs]
      exact (congrArg (fun w : Swc => { w with screens := s.swc.screens, hdok := s.swc.hdok }) swc :)
    · rw [← hp]
      exact (congrArg (fun d : Pdc => { d with pumps := s.pdc.pumps }) pdc :)
    · exact (congrArg (fun l : Slp => { l with
        receiver := s.slp.receiver, requests := s.slp.requests, waiting := s.slp.waiting, tx := s.slp.tx
        linkError := s.slp.linkError, fromImage := s.slp.fromImage, save := s.slp.save
        memory := s.slp.memory }) slp :)

/-! ## Before the end of LOADING -/

/-- LOADING has not ended, and every block is at its start-up value. -/
structure State.Starting (s : State) : Prop where
  phase : s.phase ≠ .running
  start : s.AtStartUp

namespace State.Starting

/-- A change of neither the blocks nor the phase. -/
theorem same (h : s.Starting) (phase : t.phase = s.phase)
    (blocks : (t.lau, t.twu, t.swc, t.pdc, t.slp) = (s.lau, s.twu, s.swc, s.pdc, s.slp)) : t.Starting := by
  simp only [Prod.mk.injEq] at blocks
  obtain ⟨lau, twu, swc, pdc, slp⟩ := blocks
  refine ⟨phase ▸ h.phase, ?_⟩
  have start := atStartUp_iff.1 h.start
  rw [atStartUp_iff]
  simpa only [State.screen, State.pump, lau, twu, swc, pdc, slp] using start

theorem idle (h : s.Starting) : s.active = false := by simpa [State.active] using h.phase

/-- A change of the line alone. -/
theorem onSlp (h : s.Starting) {f : Slp → Slp} (kept : (f s.slp).sansLine = s.slp.sansLine) : (s.onSlp f).Starting := by
  obtain ⟨sea, swc, pdc, slp⟩ := atStartUp_iff.1 h.start
  exact ⟨h.phase, atStartUp_iff.2 ⟨sea, swc, pdc, kept.trans slp⟩⟩

/-- A new level of SJAM. -/
theorem jam (h : s.Starting) (n : ScreenId) (level : Bool) :
    (s.onScreen n fun sc => { sc with jam := level }).Starting := by
  obtain ⟨sea, ⟨screens, swc⟩, pdc, slp⟩ := atStartUp_iff.1 h.start
  refine ⟨h.phase, atStartUp_iff.2 ⟨sea, ⟨fun m => ?_, swc⟩, pdc, slp⟩⟩
  rw [State.screen_onScreen]
  split
  · exact (congrArg (fun sc : Screen => { sc with jam := level }) (screens m) :)
  · exact screens m

/-- A new level of PFB or PTRP. -/
theorem onPump (h : s.Starting) (p : PumpId) {f : Pump → Pump} (kept : ∀ q, q.AtStart p → (f q).AtStart p) :
    (s.onPump p f).Starting := by
  obtain ⟨sea, swc, ⟨pumps, pdc⟩, slp⟩ := atStartUp_iff.1 h.start
  refine ⟨h.phase, atStartUp_iff.2 ⟨sea, swc, ⟨fun q => ?_, pdc⟩, slp⟩⟩
  rw [State.pump_onPump]
  split
  · next same => subst same; exact kept _ (pumps p)
  · exact pumps q

theorem feedback (h : s.Starting) (p : PumpId) (level : Bool) : (s.feedbackLevel p level).Starting :=
  h.onPump p fun _ hq => (congrArg (fun q : Pump => { q with feedback := level }) hq :)

theorem trip (h : s.Starting) (p : PumpId) (level : Bool) : (s.onPump p fun q => { q with trip := level }).Starting :=
  h.onPump p fun _ hq => (congrArg (fun q : Pump => { q with trip := level }) hq :)

/-- A new level of HDOK. -/
theorem hdok (h : s.Starting) (level : Bool) : (s.onSwc fun w => { w with hdok := level }).Starting := by
  obtain ⟨sea, ⟨screens, swc⟩, pdc, slp⟩ := atStartUp_iff.1 h.start
  exact ⟨h.phase, atStartUp_iff.2 ⟨sea, ⟨screens, swc⟩, pdc, slp⟩⟩

theorem ite {c : Prop} [Decidable c] {a b : State} (h : a.Starting) (k : b.Starting) :
    (if c then a else b).Starting := by
  split
  · exact h
  · exact k

/-! ## The link -/

/-- The link has nothing to say of itself: no notice, no new rate, no reset, no time. -/
theorem quiet (h : s.Starting) : s.slp.notices = [] ∧ s.slp.nextRate = none ∧ s.slp.fullReset = false
    ∧ s.slp.timeSet = false := by
  obtain ⟨-, -, -, -, slp⟩ := h.start
  exact ⟨(congrArg Slp.notices slp :), (congrArg Slp.nextRate slp :), (congrArg Slp.fullReset slp :),
    (congrArg Slp.timeSet slp :)⟩

theorem batchDue (h : s.Starting) : s.batchDue = false := by simp [State.batchDue, h.idle]

theorem reply (h : s.Starting) (c : Code) (d : List Byte) : (s.reply c d).Starting := by
  unfold State.reply
  split
  · exact h
  · have sent (l : Slp) (r : Reply) : (l.send r).sansLine = l.sansLine := by rw [send_eq]; rfl
    exact h.onSlp (sent _ _)

theorem markLinkError (h : s.Starting) : s.markLinkError.Starting := h.onSlp rfl

theorem hunt (h : s.Starting) : s.hunt.Starting := h.onSlp rfl

theorem heard (h : s.Starting) : s.heard = s := by simp [State.heard, h.idle]

theorem hold (h : s.Starting) (r : Request) : (s.hold r).Starting := ite (h.onSlp rfl) h.markLinkError

theorem arrive (h : s.Starting) (i : Instr) : (s.arrive i).Starting := by
  unfold State.arrive
  rw [h.heard]
  exact h.hold _

theorem goodFrame (h : s.Starting) (f : Frame) : (s.goodFrame f).Starting := by
  unfold State.goodFrame
  rw [h.heard]
  exact ite h.markLinkError (h.hold _)

theorem transmitNext (h : s.Starting) (b : Bool) : (s.transmitNext b).Starting := by
  unfold State.transmitNext
  split
  · exact h.onSlp rfl
  · rw [h.batchDue]; exact h

/-- A request that LOADING answers without doing anything. -/
theorem requestIn (h : s.Starting) {f g : State → Answer} (whileLoading : ∀ t, (f t).state = t) (i : Instr) :
    (s.requestIn i f g).Starting :=
  requestIn_keeps h (fun _ ht => ht.arrive i) (fun _ c d ht => ht.reply c d)
    (fun t _ ht => by rw [whileLoading]; exact ht) fun _ running ht => absurd running ht.phase

theorem request (h : s.Starting) (i : Instr) (g : State → Answer) : (s.request i g).Starting :=
  h.requestIn (fun _ => rfl) i

end State.Starting

theorem startUp_starting (s : State) (strap : Bool) : (s.startUp strap).Starting :=
  ⟨nofun, startUp_atStartUp s strap⟩

/-! ## The commands -/

/-- A command ends in a state that is still before the end of LOADING. -/
def StaysStarting (o : Host.Outcome State Fault Refusal) : Prop := ∃ t, o = .next t ∧ t.Starting

theorem staysStarting_next (h : t.Starting) : StaysStarting (.next t) := ⟨t, rfl, h⟩

section Events
variable (h : s.Starting)
include h

theorem staysStarting_jam (n : ScreenId) (level : Bool) : (s.jamLevel n level).Starting := by
  have read := h.jam n level
  unfold State.jamLevel
  dsimp only
  rw [read.idle]
  exact .ite h read

theorem staysStarting_hdokChange (level : Bool) : StaysStarting (execHdokChange level s) := by
  unfold execHdokChange
  rw [h.idle]
  exact staysStarting_next (.ite h (h.hdok level))

theorem staysStarting_pfbRising (p : PumpId) : StaysStarting (execPfbRising p s) := by
  have read := h.feedback p true
  unfold execPfbRising
  dsimp only
  rw [read.idle]
  exact staysStarting_next (.ite h read)

theorem staysStarting_pfbFalling (p : PumpId) : StaysStarting (execPfbFalling p s) := by
  have read := h.feedback p false
  unfold execPfbFalling
  dsimp only
  rw [read.idle]
  exact staysStarting_next (.ite read h)

theorem staysStarting_ptrpActive (p : PumpId) (level : Bool) : StaysStarting (execPtrpActive p level s) := by
  have read := h.trip p level
  unfold execPtrpActive
  dsimp only
  rw [read.idle]
  exact staysStarting_next read

theorem staysStarting_shedTimerExpiry (k : ScopeId) : StaysStarting (execShedTimerExpiry k s) := by
  unfold execShedTimerExpiry
  refine staysStarting_next ?_
  split
  · rw [h.idle]; exact h
  · exact h

theorem staysStarting_saveConfigEnd (e : SaveEnd) : StaysStarting (execSaveConfigEnd e s) := by
  unfold execSaveConfigEnd
  refine staysStarting_next ?_
  split
  · exact h
  · next sv _ =>
    have ended : (s.onSlp fun l => { l with memory := savedMemory sv.image l.memory e, save := none }).Starting :=
      h.onSlp rfl
    rw [h.idle]
    exact ended

theorem staysStarting_replySent (strap : Bool) : StaysStarting (execReplySent strap s) := by
  obtain ⟨-, rate, -, -⟩ := h.quiet
  refine staysStarting_next ?_
  split
  · have sent : (s.onSlp fun l => { l with requests := l.requests.drop 1, tx := .free }.takeRate).Starting :=
      h.onSlp (by simp only [Slp.takeRate, Slp.sansLine, rate])
    exact .ite (startUp_starting _ _) (sent.transmitNext _)
  all_goals exact h

theorem staysStarting_batchSent : StaysStarting (execBatchSent s) := by
  refine staysStarting_next ?_
  split
  · exact State.Starting.transmitNext (h.onSlp rfl) _
  all_goals exact h

end Events

/-- Every command but LOADING_END leaves a part that has not ended LOADING at its start-up values. -/
theorem exec_staysStarting (c : Instr) (hc : ∀ e, c ≠ .loadingEnd e) (h : s.Starting) : StaysStarting (exec c s) := by
  have idle := h.idle
  have still (o : Host.Outcome State Fault Refusal) (ho : o = .next s) : StaysStarting o := ⟨s, ho, h⟩
  cases c
  case loadingEnd e => exact absurd rfl (hc e)
  case powerOn c => exact staysStarting_next (startUp_starting _ _)
  case resetNAsserted => exact staysStarting_next (.ite h ⟨nofun, resetHeld_atStartUp _⟩)
  case resetNReleased c => exact staysStarting_next (.ite (startUp_starting _ _) h)
  case scanTimerExpiry v dealt => exact still _ (by simp [exec, execScanTimerExpiry, idle])
  case scanEvent => exact still _ (by simp [exec, execScanEvent, idle])
  case trendTimerExpiry => exact still _ (by simp [exec, execTrendTimerExpiry, idle])
  case reminderTimerExpiry => exact still _ (by simp [exec, execReminderTimerExpiry, idle])
  case intakeTimeCount => exact still _ (by simp [exec, execIntakeTimeCount, h.quiet])
  case indexPulse n => exact still _ (by simp [exec, execIndexPulse, idle])
  case sjamRising n => exact staysStarting_next (staysStarting_jam h n true)
  case sjamFalling n => exact staysStarting_next (staysStarting_jam h n false)
  case passTimeout n => exact still _ (by simp [exec, execPassTimeout, idle])
  case hdokChange level => exact staysStarting_hdokChange h level
  case headerLossDelayExpiry => exact still _ (by simp [exec, execHeaderLossDelayExpiry, idle])
  case sluiceRunEnd => exact still _ (by simp [exec, execSluiceRunEnd, idle])
  case headerPurgeTimerExpiry => exact still _ (by simp [exec, execHeaderPurgeTimerExpiry, idle])
  case headerPurgeComplete => exact still _ (by simp [exec, execHeaderPurgeComplete, idle])
  case purgeOverdue => exact still _ (by simp [exec, execPurgeOverdue, idle])
  case pfbRising p => exact staysStarting_pfbRising h p
  case pfbFalling p => exact staysStarting_pfbFalling h p
  case ptrpActive p level => exact staysStarting_ptrpActive h p level
  case startTimeout p => exact still _ (by simp [exec, execStartTimeout, idle])
  case stopTimeout p => exact still _ (by simp [exec, execStopTimeout, idle])
  case recoveryTimerExpiry p => exact still _ (by simp [exec, execRecoveryTimerExpiry, idle])
  case startSpacingExpiry => exact still _ (by simp [exec, execStartSpacingExpiry, idle])
  case rotationTimerExpiry => exact still _ (by simp [exec, execRotationTimerExpiry, idle])
  case shedTimerExpiry k => exact staysStarting_shedTimerExpiry h k
  case lowLevelStop p => exact still _ (by simp [exec, execLowLevelStop, idle])
  case discardTimerExpiry i => exact still _ (by simp [exec, execDiscardTimerExpiry, idle])
  case supervisionTimerExpiry => exact still _ (by simp [exec, execSupervisionTimerExpiry, idle])
  case saveConfigEnd e => exact staysStarting_saveConfigEnd h e
  case frameReceived f => exact staysStarting_next (.ite (.ite (h.hunt.goodFrame f) h.hunt.markLinkError) h)
  case framingError => exact staysStarting_next (.ite h.hunt.markLinkError h)
  case rxGapTimeout => exact staysStarting_next (.ite h.hunt.markLinkError h)
  case lenAbove120 => exact staysStarting_next (.ite h.hunt.markLinkError h)
  case frameStart => exact staysStarting_next (.ite (h.onSlp rfl) h)
  case replySent c => exact staysStarting_replySent h c
  case batchSent => exact staysStarting_batchSent h
  case noticeBatch => exact still _ (by simp [exec, execNoticeBatch, State.batchReady, h.batchDue])
  case quietTimeExpiry => exact still _ (by simp [exec, execQuietTimeExpiry, State.quietFalls, idle])
  case getStatus a => exact staysStarting_next (h.requestIn (fun t => by cases a <;> rfl) _)
  all_goals exact staysStarting_next (h.request _ _)

end Sys2Proof.Machine
end

section
/-! PROOFS. The Intake Condition stays the one that the claims and the bands give (R60..R63), and the blocks stay at
their start-up values through LOADING: O10. -/

namespace Sys2Proof.Machine

variable {s t : State}

/-! ## When the Intake Condition is current -/

theorem conditionCurrent_of_twu (h : s.ConditionCurrent) (e : t.twu = s.twu) : t.ConditionCurrent := by
  unfold State.ConditionCurrent at *
  rw [e]; exact h

/-- The Intake Condition rests on the claims and on the caps and modes of the bands. -/
theorem recomputed_congr {v w : Twu} (claims : w.claims = v.claims) (condition : w.condition = v.condition)
    (bands : ∀ b : BandId, w.bands[b].cap = v.bands[b].cap ∧ w.bands[b].mode = v.bands[b].mode) :
    w.recomputed = v.recomputed := by
  have each : ∀ l : List BandId, capOf (l.map fun b => w.bands[b]) = capOf (l.map fun b => v.bands[b])
      ∧ modeOf (l.map fun b => w.bands[b]) = modeOf (l.map fun b => v.bands[b]) := by
    intro l
    simp only [capOf, modeOf, List.foldl_map, List.any_map, Function.comp_def, bands, and_self]
  have claiming : capOf w.claiming = capOf v.claiming ∧ modeOf w.claiming = modeOf v.claiming := by
    unfold Twu.claiming
    rw [claims]
    exact each _
  unfold Twu.recomputed
  rw [claims, condition, claiming.1, claiming.2]

/-- A change that leaves the claims, the Intake Condition and the caps and modes of the bands. -/
theorem conditionCurrent_of_bands (h : s.ConditionCurrent) (claims : t.twu.claims = s.twu.claims)
    (condition : t.twu.condition = s.twu.condition)
    (bands : ∀ b : BandId, t.twu.bands[b].cap = s.twu.bands[b].cap ∧ t.twu.bands[b].mode = s.twu.bands[b].mode) :
    t.ConditionCurrent := by
  unfold State.ConditionCurrent at *
  rw [recomputed_congr claims condition bands, condition]
  exact h

/-- The bank check touches no claim, no band and not the Intake Condition. -/
theorem State.BankFrame.condition (h : s.BankFrame t) (k : s.ConditionCurrent) : t.ConditionCurrent := by
  unfold State.ConditionCurrent at *
  rw [h.twu]
  exact k

/-- With no band claiming, the Intake Condition is the one of start-up. -/
theorem conditionCurrent_of_unclaimed (claims : t.twu.claims = {}) (condition : t.twu.condition = {}) :
    t.ConditionCurrent := by
  unfold State.ConditionCurrent Twu.recomputed Twu.claiming
  rw [claims, condition]
  rfl

/-- A publication brings the Intake Condition up to date. -/
theorem recompute_current (s : State) : s.recompute.ConditionCurrent := by
  unfold State.recompute
  dsimp only
  split
  · next same => exact same.symm
  · exact conditionCurrent_of_twu (by rfl) (State.readersAct_work _ s.twu.condition fun _ => False).twu

theorem settled_current (s : State) : s.recompute.settle.ConditionCurrent :=
  conditionCurrent_of_twu (recompute_current s) (twu_settle _)

theorem rateEvent_current (s : State) : s.rateEvent.ConditionCurrent := settled_current _

theorem handLevels_current (s : State) : s.handLevels.ConditionCurrent := settled_current _

theorem twuReads_current (s : State) (before : SeaClass) : (s.twuReads before).ConditionCurrent := by
  unfold State.twuReads
  split
  · split
    · exact handLevels_current _
    · exact rateEvent_current _
  · exact handLevels_current s

/-- Whichever reader is last, the TWU has brought the Intake Condition up to date (R22). -/
theorem read_current (s : State) (before : SeaClass) (k : Nat) : (State.read before k s).ConditionCurrent := by
  have sea (s : State) := twuReads_current s before
  unfold State.read
  split
  · exact conditionCurrent_of_twu (sea s) (by simp)
  · exact conditionCurrent_of_twu (sea s) (by simp)
  · exact conditionCurrent_of_twu (sea _) (twu_pdcReads _)
  · exact sea _
  · exact conditionCurrent_of_twu (sea _) (twu_swcReads _)
  · exact sea _

theorem remind_current (h : s.ConditionCurrent) (b : BandId) : (s.remind b).ConditionCurrent := by
  unfold State.remind
  split
  · refine conditionCurrent_of_bands h rfl rfl fun c => ?_
    rw [State.notify_twu, State.band_onBand]
    split <;> exact ⟨rfl, rfl⟩
  · exact h

theorem reminders_current (h : s.ConditionCurrent) : (allBands.foldl State.remind s).ConditionCurrent :=
  List.foldlRecOn (motive := State.ConditionCurrent) allBands State.remind h fun _ k b _ => remind_current k b

/-! ## The commands of the TWU -/

/-- A command ends in a next state whose Intake Condition is current. -/
def EndsCurrent (o : Host.Outcome State Fault Refusal) : Prop := ∃ t, o = .next t ∧ t.ConditionCurrent

namespace EndsCurrent

theorem next (h : t.ConditionCurrent) : EndsCurrent (.next t) := ⟨t, rfl, h⟩

/-- A command that acts on a condition, and otherwise does nothing. -/
theorem onCondition {c : Prop} [Decidable c] (h : s.ConditionCurrent) (k : t.ConditionCurrent) :
    EndsCurrent (.next (if c then t else s)) := by
  split
  · exact next k
  · exact next h

/-- A request with arguments whose rule keeps the Intake Condition current. -/
theorem args {α : Type} {k : α → State → Answer} (h : s.ConditionCurrent) (i : Instr) (a : Form α)
    (rule : ∀ x t, t.ConditionCurrent → (k x t).state.ConditionCurrent) :
    EndsCurrent (.next (s.request i (withArgs a k))) :=
  next (requestIn_keeps h (fun t ht => conditionCurrent_of_twu ht (twu_arrive t i))
    (fun t c d ht => conditionCurrent_of_twu ht (reply_twu t c d)) (fun _ _ ht => ht) fun t _ ht => by
      cases a with
      | args x => exact rule x t ht
      | mismatch => exact ht)

end EndsCurrent

section Commands
variable (h : s.ConditionCurrent)
include h

theorem endsCurrent_trendTimerExpiry : EndsCurrent (execTrendTimerExpiry s) := by
  refine .onCondition h ?_
  dsimp only
  split
  · exact h
  · exact rateEvent_current _

theorem endsCurrent_replySent (strap : Bool) : EndsCurrent (execReplySent strap s) := by
  refine .next ?_
  split
  · dsimp only
    split
    · exact conditionCurrent_of_unclaimed rfl rfl
    · exact conditionCurrent_of_twu h (twu_transmitNext _ _)
  all_goals exact h

theorem endsCurrent_setTrend (a : Form Nat) : EndsCurrent (execSetTrend a s) := by
  refine .args h _ a fun x t ht => ?_
  dsimp only
  split
  · exact ht
  · exact rateEvent_current _

theorem endsCurrent_setBandEntry (a : Form BandArgs) : EndsCurrent (execSetBandEntry a s) := by
  refine .args h _ a fun x t ht => ?_
  split
  · exact ht
  · split
    · exact ht
    · exact settled_current _

theorem endsCurrent_setBandReminder (a : Form Nat) : EndsCurrent (execSetBandReminder a s) := by
  refine .args h _ a fun x t ht => ?_
  dsimp only
  split
  · exact ht
  · exact ht

theorem endsCurrent_setClockStep (a : Form Int) : EndsCurrent (execSetClockStep a s) := by
  refine .args h _ a fun x t ht => ?_
  split
  · exact (checkBanks_frame _).condition ht
  · exact ht

theorem endsCurrent_tidePoints (a : Form (List TidePoint)) : EndsCurrent (execTidePoints a s) := by
  refine .args h _ a fun x t ht => ?_
  dsimp only
  split
  · exact ht
  · split
    · exact ht
    · exact ht

theorem endsCurrent_tideCommitNow (a : Form Unit) : EndsCurrent (execTideCommitNow a s) := by
  refine .args h _ a fun x t ht => ?_
  dsimp only
  split
  · exact ((swapBanks_frame t 2).trans (checkBanks_frame _)).condition ht
  · exact ht

theorem endsCurrent_tideSeal (a : Form Unit) : EndsCurrent (execTideSeal a s) := by
  refine .args h _ a fun x t ht => ?_
  dsimp only
  split
  · exact (checkBanks_frame _).condition ht
  · exact ht

/-- An acknowledgement touches the latches alone (R55). -/
theorem endsCurrent_ackBand (a : Form Nat) : EndsCurrent (execAckBand a s) := by
  refine .args h _ a fun v t ht => ?_
  dsimp only
  split
  · exact ht
  · refine conditionCurrent_of_bands ht rfl rfl fun b => ?_
    simp only [State.onTwu_twu, Fin.getElem_fin, Vector.getElem_ofFn]
    split <;> exact ⟨rfl, rfl⟩

end Commands

/-- Every command of a running part keeps the Intake Condition current. -/
theorem exec_endsCurrent (c : Instr) (running : s.phase = .running) (h : s.ConditionCurrent) :
    EndsCurrent (exec c s) := by
  have others (hc : Instr.touchesTwu c = false) : EndsCurrent (exec c s) := by
    obtain ⟨t, ht, twu⟩ := exec_leavesTwu c hc s
    exact ⟨t, ht, conditionCurrent_of_twu h twu⟩
  cases c
  case powerOn c => exact .next (conditionCurrent_of_unclaimed rfl rfl)
  case resetNAsserted =>
    refine .next ?_
    split
    · exact h
    · exact conditionCurrent_of_unclaimed rfl rfl
  case resetNReleased c => exact .onCondition h (conditionCurrent_of_unclaimed rfl rfl)
  case loadingEnd e => exact ⟨s, by simp [exec, execLoadingEnd, running], h⟩
  case replySent c => exact endsCurrent_replySent h c
  case scanEvent => exact .onCondition h (read_current _ _ _)
  case trendTimerExpiry => exact endsCurrent_trendTimerExpiry h
  case reminderTimerExpiry => exact .onCondition h (reminders_current h)
  case intakeTimeCount => exact .onCondition h ((checkBanks_frame _).condition h)
  case setTrend a => exact endsCurrent_setTrend h a
  case setBandEntry a => exact endsCurrent_setBandEntry h a
  case setBandReminder a => exact endsCurrent_setBandReminder h a
  case setClockAbsolute a => exact .args h _ a fun _ _ ht => (checkBanks_frame _).condition ht
  case setClockStep a => exact endsCurrent_setClockStep h a
  case tidePoints a => exact endsCurrent_tidePoints h a
  case tideCommitNow a => exact endsCurrent_tideCommitNow h a
  case tideSeal a => exact endsCurrent_tideSeal h a
  case tideClear a => exact .args h _ a fun _ _ ht => ht
  case ackBand a => exact endsCurrent_ackBand h a
  all_goals exact others rfl

/-! ## A running part goes on, or starts up -/

/-- A command ends in a part that runs, or in one at its start-up values. -/
def RunsOrStarts (o : Host.Outcome State Fault Refusal) : Prop := ∃ t, o = .next t ∧ t.LoadingAtStart

theorem loadingAtStart_of_running (h : t.phase = .running) : t.LoadingAtStart := fun hp => absurd h hp

theorem loadingAtStart_of_atStartUp (h : t.AtStartUp) : t.LoadingAtStart := fun _ => h

theorem phase_dealNext (s : State) : s.dealNext.phase = s.phase := by
  unfold State.dealNext
  split
  · rfl
  · split
    · have dealt (c : ChannelId) (v e : Nat) : (s.dealChannel c v e).phase = s.phase := by
        unfold State.dealChannel
        dsimp only
        split
        · obtain hn | ⟨_, _, _, _, _, _, hn⟩ := sampleNotice_cases _ _ _ _ <;> rw [hn] <;> rfl
        · rfl
      exact dealt _ _ _
    · rfl

theorem phase_dealMany : ∀ (k : Nat) (s : State), (State.dealMany k s).phase = s.phase
  | 0, _ => rfl
  | k + 1, s => (phase_dealMany k s.dealNext).trans (phase_dealNext s)

/-- A settings request of the LAU. -/
theorem request_running {α : Type} {k : α → State → Answer} (i : Instr) (a : Form α) (running : s.phase = .running)
    (rule : ∀ x t, (k x t).state.phase = t.phase) : RunsOrStarts (.next (s.request i (withArgs a k))) := by
  refine ⟨_, rfl, loadingAtStart_of_running (requestIn_keeps (P := fun t => t.phase = .running) running
    (fun t ht => (arrive_blocks t i).1.trans ht) (fun t c d ht => (reply_phase t c d).trans ht) (fun _ _ ht => ht)
    fun t _ ht => ?_)⟩
  cases a with
  | args x => exact (rule x t).trans ht
  | mismatch => exact ht

/-- A running part goes on until start-up begins. -/
theorem exec_runsOrStarts (c : Instr) (running : s.phase = .running) : RunsOrStarts (exec c s) := by
  have others (hc : Instr.touchesLau c = false) : RunsOrStarts (exec c s) := by
    obtain ⟨t, ht, core⟩ := exec_leavesCore c hc s
    exact ⟨t, ht, loadingAtStart_of_running ((congrArg Prod.fst core).trans running)⟩
  cases c
  case powerOn c => exact ⟨_, rfl, loadingAtStart_of_atStartUp (startUp_atStartUp _ _)⟩
  case resetNAsserted =>
    exact ⟨_, congrArg Host.Outcome.next (if_neg (by rw [running]; decide)),
      loadingAtStart_of_atStartUp (resetHeld_atStartUp _)⟩
  case resetNReleased c =>
    exact ⟨s, congrArg Host.Outcome.next (if_neg (by rw [running]; decide)), loadingAtStart_of_running running⟩
  case loadingEnd e =>
    exact ⟨s, congrArg Host.Outcome.next (if_neg (by rw [running]; decide)), loadingAtStart_of_running running⟩
  case replySent c =>
    refine ⟨_, rfl, ?_⟩
    split
    · dsimp only
      split
      · exact loadingAtStart_of_atStartUp (startUp_atStartUp _ _)
      · exact loadingAtStart_of_running ((congrArg Prod.fst (coreFields_transmitNext _ _)).trans running)
    all_goals exact loadingAtStart_of_running running
  case scanTimerExpiry v dealt =>
    refine ⟨_, rfl, loadingAtStart_of_running ?_⟩
    split
    · exact (phase_dealMany _ _).trans running
    · exact running
  case scanEvent =>
    refine ⟨_, rfl, loadingAtStart_of_running ?_⟩
    split
    · exact ((State.scanEnd_reads _).frame.core.phase.trans (phase_dealMany 12 s)).trans running
    · exact running
  case setChannel a =>
    refine request_running _ a running fun x t => ?_
    split
    · rfl
    · split
      · rfl
      · split
        · rfl
        · split <;> rfl
  case setDensity a => exact request_running _ a running fun _ _ => rfl
  case setScan a => exact request_running _ a running fun _ _ => rfl
  case setSea a => exact request_running _ a running fun _ _ => by split <;> rfl
  all_goals exact others rfl

/-! ## The end of LOADING -/

/-- No record of an image claims anything for a band. -/
theorem applyRecord_claims (s : State) (r : Record) : ((s.applyRecord r).twu.claims, (s.applyRecord r).twu.condition) =
    (s.twu.claims, s.twu.condition) := by
  unfold State.applyRecord
  split
  case h_1 | h_4 | h_6 | h_8 | h_12 => split <;> rfl
  all_goals rfl

theorem takeSettings_claims (s : State) (answers : Bool) :
    ((s.takeSettings answers).twu.claims, (s.takeSettings answers).twu.condition) = (s.twu.claims, s.twu.condition) := by
  unfold State.takeSettings State.loadImage
  split
  · split
    · exact foldl_keeps (fun s => (s.twu.claims, s.twu.condition)) State.applyRecord applyRecord_claims _ s
    · rfl
  · rfl

theorem startScreens_twu (s : State) : s.startScreens.twu = s.twu :=
  (State.foldl_work State.startScreen startScreen_work allScreens s).twu

theorem startPumps_twu (s : State) : s.startPumps.twu = s.twu :=
  (State.foldl_duty State.startPump _ startPump_duty allPumps s).sea.1

theorem begun_twu (s : State) : s.begun.twu = s.twu := rfl

theorem startBlocks_twu (s : State) (samples : Vector Nat 12) : (s.startBlocks samples).twu = s.twu := by
  rw [startBlocks_eq, begun_twu, startPumps_twu, startScreens_twu]
  rfl

/-- LOADING ends in a part that runs, no band claiming a quantity yet (R65). -/
theorem loadingEnd_current (e : LoaderEnd) (h : s.Starting) :
    ∃ t, exec (.loadingEnd e) s = .next t ∧ t.LoadingAtStart ∧ t.ConditionCurrent := by
  obtain ⟨-, twu, -, -, -⟩ := h.start
  have current : s.ConditionCurrent := conditionCurrent_of_unclaimed (by rw [twu]) (by rw [twu])
  refine ⟨_, rfl, ?_⟩
  split
  · have claims := takeSettings_claims (s.onSlp Slp.finishSave) e.answers
    rw [State.onSlp_twu, twu, Prod.mk.injEq] at claims
    refine ⟨loadingAtStart_of_running rfl, ?_⟩
    refine conditionCurrent_of_unclaimed ?_ ?_
    · rw [startBlocks_twu]; exact claims.1
    · rw [startBlocks_twu]; exact claims.2
  · exact ⟨fun _ => h.start, current⟩

/-! ## Steps -/

theorem State.Starting.conditionCurrent (h : t.Starting) : t.ConditionCurrent := by
  obtain ⟨-, twu, -, -, -⟩ := h.start
  exact conditionCurrent_of_unclaimed (by rw [twu]) (by rw [twu])

/-- Every command keeps both. -/
theorem exec_conditionStaysCurrent (c : Instr) (start : s.LoadingAtStart) (current : s.ConditionCurrent) :
    ∃ t, exec c s = .next t ∧ t.LoadingAtStart ∧ t.ConditionCurrent := by
  by_cases running : s.phase = .running
  · obtain ⟨t, ht, kept⟩ := exec_runsOrStarts c running
    obtain ⟨u, hu, keptCurrent⟩ := exec_endsCurrent c running current
    obtain rfl : t = u := by simpa [ht] using hu
    exact ⟨t, ht, kept, keptCurrent⟩
  · have starting : s.Starting := ⟨running, start running⟩
    by_cases hc : ∃ e, c = .loadingEnd e
    · obtain ⟨e, rfl⟩ := hc
      exact loadingEnd_current e starting
    · obtain ⟨t, ht, kept⟩ := exec_staysStarting c (fun e he => hc ⟨e, he⟩) starting
      exact ⟨t, ht, fun _ => kept.start, kept.conditionCurrent⟩

/-- A step on an empty queue keeps both: the TWU's timers alone count. -/
theorem idle_conditionStaysCurrent (start : s.LoadingAtStart) (current : s.ConditionCurrent) :
    s.idle.LoadingAtStart ∧ s.idle.ConditionCurrent := by
  unfold State.idle
  split
  · split
    · next active =>
      have running : s.phase = .running := by simpa [State.active] using active
      split
      · exact ⟨loadingAtStart_of_running ((phase_dealNext s).trans running),
          conditionCurrent_of_twu current (twu_dealNext s)⟩
      · exact ⟨loadingAtStart_of_running running, current⟩
    · exact ⟨start, current⟩
  · exact ⟨start, current⟩

/-- Settles O10: by the command at the front of the queue, before the end of LOADING and after it. -/
theorem conditionStaysCurrent : Obligations.ConditionStaysCurrent := by
  intro s t start current h
  unfold step at h
  split at h
  · obtain rfl : s.idle = t := by simpa using h
    exact idle_conditionStaysCurrent start current
  · next c rest _ =>
    obtain ⟨u, hu, kept⟩ := exec_conditionStaysCurrent (s := { s with pending := rest }) c start current
    obtain rfl : u = t := by simpa [hu] using h
    exact kept

end Sys2Proof.Machine
end

section
/-! PROOFS. The steps that decide a claim (R51, R52): O26. -/

namespace Sys2Proof.Machine

variable {t : Twu} {q : Quantity} {v : Int} {b : BandId} {r : Rank} {cur : Option BandId}

/-! ## Bands that a value may claim -/

/-- A band that watches the quantity and whose range contains the value (R51). -/
def Twu.InRange (t : Twu) (q : Quantity) (v : Int) (b : BandId) : Prop :=
  t.bands[b].watches q = true ∧ t.bands[b].covers v = true

theorem Band.watches_iff {b : Band} : b.watches q = true ↔ b.enabled = true ∧ b.quantity = q := by
  simp [Band.watches]

theorem Band.covers_iff {b : Band} : b.covers v = true ↔ b.low ≤ v ∧ v < b.high := by simp [Band.covers]

theorem Band.widened_iff {b : Band} :
    b.widened v = true ↔ b.low - b.hysteresis ≤ v ∧ v < b.high + b.hysteresis := by simp [Band.widened]

/-- The current band keeps the claim while it watches the quantity and its widened range contains the value. -/
theorem Twu.keeps_iff {subtractive : Bool} : t.keeps q v subtractive (some b) = true ↔
    t.bands[b].watches q = true ∧ (t.bands[b].rank = .subtractive ↔ subtractive = true)
      ∧ t.bands[b].widened v = true := by
  cases subtractive <;> simp [Twu.keeps, and_assoc]

/-! ## The lowest number of a rank -/

theorem Twu.chosen_of_least (hb : t.InRange q v b) (rank : t.bands[b].rank = r)
    (least : ∀ b', t.InRange q v b' → t.bands[b'].rank = r → b ≤ b') : t.chosen q v r = some b := by
  unfold Twu.chosen
  rw [allBands_eq, ← Fin.find?_eq_find?_finRange, Fin.find?_eq_some_iff]
  refine ⟨by simpa using ⟨⟨hb.1, rank⟩, hb.2⟩, fun b' lower => Bool.eq_false_iff.2 fun holds => ?_⟩
  simp only [Bool.and_eq_true, decide_eq_true_eq] at holds
  obtain ⟨⟨watches, rank'⟩, covers⟩ := holds
  exact absurd (least b' ⟨watches, covers⟩ rank') (not_le.2 lower)

theorem Twu.chosen_none (h : ∀ b, t.InRange q v b → t.bands[b].rank ≠ r) : t.chosen q v r = none := by
  unfold Twu.chosen
  refine List.find?_eq_none.2 fun b _ holds => ?_
  simp only [Bool.and_eq_true, decide_eq_true_eq] at holds
  obtain ⟨⟨watches, rank⟩, covers⟩ := holds
  exact h b ⟨watches, covers⟩ rank

/-! ## The highest rank -/

/-- The band that takes the claim by its rank: the highest rank, and of equal rank the lowest number (step 2). -/
def Twu.ranked (t : Twu) (q : Quantity) (v : Int) : Option BandId :=
  (t.chosen q v .fast).or ((t.chosen q v .medium).or (t.chosen q v .slow))

theorem Twu.ranked_of_best (hb : t.InRange q v b) (ranked : t.bands[b].rank ≠ .subtractive)
    (best : ∀ b', t.InRange q v b' → t.bands[b'].rank ≠ .subtractive →
      t.bands[b].rank.code < t.bands[b'].rank.code ∨ (t.bands[b].rank = t.bands[b'].rank ∧ b ≤ b')) :
    t.ranked q v = some b := by
  have own : t.chosen q v t.bands[b].rank = some b := chosen_of_least hb rfl fun b' hb' same => by
    rcases best b' hb' (same ▸ ranked) with lower | ⟨_, le⟩
    · rw [same] at lower; exact absurd lower (Nat.lt_irrefl _)
    · exact le
  have higher (r : Rank) (hr : r.code < t.bands[b].rank.code) : t.chosen q v r = none :=
    chosen_none fun b' hb' same => by
      have ranked' : t.bands[b'].rank ≠ .subtractive := by
        rintro sub
        rw [← same, sub] at hr
        cases h : t.bands[b].rank <;> rw [h] at hr <;> exact absurd hr (by decide)
      rcases best b' hb' ranked' with lower | ⟨equal, _⟩
      · rw [same] at lower; omega
      · rw [equal, same] at hr; exact Nat.lt_irrefl _ hr
  unfold Twu.ranked
  cases h : t.bands[b].rank with
  | fast => rw [h] at own; rw [own]; rfl
  | medium => rw [h] at own higher; rw [own, higher .fast (by decide)]; rfl
  | slow => rw [h] at own higher; rw [own, higher .fast (by decide), higher .medium (by decide)]; rfl
  | subtractive => exact absurd h ranked

theorem Twu.ranked_none (h : ∀ b, t.InRange q v b → t.bands[b].rank = .subtractive) : t.ranked q v = none := by
  have none (r : Rank) (hr : r ≠ .subtractive) : t.chosen q v r = none :=
    chosen_none fun b hb same => hr (same.symm.trans (h b hb))
  unfold Twu.ranked
  rw [none .fast (by decide), none .medium (by decide), none .slow (by decide)]
  rfl

/-! ## The claim -/

theorem Twu.claimFor_kept (h : t.keeps q v false cur = true) : t.claimFor q cur (some v) = cur := if_pos h

theorem Twu.claimFor_ranked (h : t.keeps q v false cur = false) (hb : t.ranked q v = some b) :
    t.claimFor q cur (some v) = some b := by
  unfold Twu.ranked at hb
  simp [Twu.claimFor, h, hb]

theorem Twu.claimFor_subtractive (h : t.keeps q v false cur = false) (hb : t.ranked q v = none) :
    t.claimFor q cur (some v) = if t.keeps q v true cur then cur else t.chosen q v .subtractive := by
  unfold Twu.ranked at hb
  simp only [Twu.claimFor, h, hb]
  rfl

/-- A current band that a step of R51 does not keep. -/
theorem Twu.keeps_false {subtractive : Bool} (h : ∀ b, cur = some b → t.keeps q v subtractive (some b) = false) :
    t.keeps q v subtractive cur = false := by
  cases cur with
  | none => rfl
  | some b => exact h b rfl

/-- Settles O26: step by step, in the order of R51. -/
theorem claimIsDecided : Obligations.ClaimIsDecided := by
  intro t q v cur watch inRange inWide ranked hwatch hrange hwide hranked
  have range (b : BandId) : watch b ∧ inRange b ↔ t.InRange q v b := by
    rw [hwatch, hrange, Twu.InRange, Band.watches_iff, Band.covers_iff]
  have keptRanked (b : BandId) : t.keeps q v false (some b) = true ↔ watch b ∧ ranked b ∧ inWide b := by
    rw [Twu.keeps_iff, Band.watches_iff, Band.widened_iff, hwatch, hranked, hwide]
    simp
  have keptSubtractive (b : BandId) : t.keeps q v true (some b) = true ↔ watch b ∧ ¬ ranked b ∧ inWide b := by
    rw [Twu.keeps_iff, Band.watches_iff, Band.widened_iff, hwatch, hranked, hwide]
    simp
  refine ⟨rfl, fun b hb hw hr hi => ?_, fun notKept => ?_⟩
  · rw [hb]
    exact Twu.claimFor_kept ((keptRanked b).2 ⟨hw, hr, hi⟩)
  have step1 : t.keeps q v false cur = false :=
    Twu.keeps_false fun b hb => Bool.eq_false_iff.2 fun k => notKept b hb ((keptRanked b).1 k)
  refine ⟨fun b hw hr hi best => ?_, fun noneRanked => ?_⟩
  · refine Twu.claimFor_ranked step1 (Twu.ranked_of_best ((range b).1 ⟨hw, hi⟩) ((hranked b).1 hr) fun b' hb' hr' => ?_)
    obtain ⟨hw', hi'⟩ := (range b').2 hb'
    exact best b' hw' ((hranked b').2 hr') hi'
  have subtractive (b : BandId) (hb : t.InRange q v b) : t.bands[b].rank = .subtractive := by
    obtain ⟨hw, hi⟩ := (range b).2 hb
    by_contra hr
    exact noneRanked b ⟨hw, (hranked b).2 hr, hi⟩
  have step3 := Twu.claimFor_subtractive step1 (Twu.ranked_none subtractive)
  refine ⟨fun b hb hw hi => ?_, fun notKeptEither => ?_⟩
  · have kept : t.keeps q v true cur = true := by
      rw [hb]
      exact (keptSubtractive b).2 ⟨hw, fun hr => notKept b hb ⟨hw, hr, hi⟩, hi⟩
    rw [step3, if_pos kept, hb]
  have step4 : t.claimFor q cur (some v) = t.chosen q v .subtractive := by
    rw [step3, Twu.keeps_false fun b hb => Bool.eq_false_iff.2 fun k => ?_]
    · rfl
    · obtain ⟨hw, -, hi⟩ := (keptSubtractive b).1 k
      exact notKeptEither b hb ⟨hw, hi⟩
  refine ⟨fun b hw hi least => ?_, fun noneIn => ?_⟩
  · have hb := (range b).1 ⟨hw, hi⟩
    refine step4.trans (Twu.chosen_of_least hb (subtractive b hb) fun b' hb' _ => ?_)
    obtain ⟨hw', hi'⟩ := (range b').2 hb'
    exact least b' hw' hi'
  · exact step4.trans (Twu.chosen_none fun b hb _ => noneIn b ((range b).2 hb))

end Sys2Proof.Machine
end

section
/-! PROOFS. A change of claim, the cap and the mode of the claiming bands, and the publication (R53, R54, R60..R63): O27. -/

namespace Sys2Proof.Machine

variable {s : State} {q : Quantity} {new : Option BandId}

/-! ## The evaluation of a claim -/

theorem Claims.of_put (c : Claims) (q q' : Quantity) (b : Option BandId) :
    (c.put q b).of q' = if q' = q then b else c.of q' := by
  cases q <;> cases q' <;> rfl

theorem Band.latch_eq (b : Band) :
    b.latch = if b.noticeClass = .alarm then { b with latched := true, reminders := 0 } else b := by
  unfold Band.latch
  cases b.noticeClass <;> rfl

/-- The claim replaced, with the notice of its change (R53). -/
def State.claimReported (s : State) (q : Quantity) (new : Option BandId) : State :=
  (s.onTwu fun t => { t with claims := t.claims.put q new }).notify (s.twu.claimClass new) .bandEntered (bandNumber new)
    q.code (available (s.twu.handed.of q)) (bandNumber (s.twu.claims.of q) : Nat)

/-- The band that takes a claim is latched, if its notice class is ALARM (R54). -/
def State.latchTaker (s : State) (new : Option BandId) : State :=
  match new with
  | some b => s.onBand b Band.latch
  | none => s

theorem State.latchTaker_band (s : State) (new : Option BandId) (b : BandId) :
    (s.latchTaker new).twu.bands[b] =
      if new = some b ∧ s.twu.bands[b].noticeClass = .alarm then
        { s.twu.bands[b] with latched := true, reminders := 0 }
      else s.twu.bands[b] := by
  cases new with
  | none => rw [if_neg (by rintro ⟨h, -⟩; cases h)]; rfl
  | some c =>
    show (s.onBand c Band.latch).twu.bands[b] = _
    rw [State.band_onBand, Band.latch_eq]
    simp only [Option.some.injEq, ite_and]

theorem State.latchTaker_slp (s : State) (new : Option BandId) : (s.latchTaker new).slp = s.slp := by
  cases new <;> rfl

theorem State.evaluateClaim_same (h : s.twu.claimFor q (s.twu.claims.of q) (s.twu.handed.of q) = s.twu.claims.of q) :
    s.evaluateClaim q = s := if_pos h

theorem State.evaluateClaim_changed (hn : new = s.twu.claimFor q (s.twu.claims.of q) (s.twu.handed.of q))
    (changed : new ≠ s.twu.claims.of q) : s.evaluateClaim q = (s.claimReported q new).latchTaker new := by
  subst hn
  exact if_neg changed

/-- What the evaluation leaves beside the TWU and the link. -/
theorem State.evaluateClaim_blocks (s : State) (q : Quantity) :
    (s.evaluateClaim q).twu.condition = s.twu.condition ∧ (s.evaluateClaim q).lau = s.lau
      ∧ (s.evaluateClaim q).swc = s.swc ∧ (s.evaluateClaim q).pdc = s.pdc := by
  unfold State.evaluateClaim
  dsimp only
  split
  · exact ⟨rfl, rfl, rfl, rfl⟩
  · split <;> exact ⟨rfl, rfl, rfl, rfl⟩

/-- The notice of a change of claim is the youngest of a queue with room. -/
theorem State.evaluateClaim_notices (hn : new = s.twu.claimFor q (s.twu.claims.of q) (s.twu.handed.of q))
    (changed : new ≠ s.twu.claims.of q) (room : s.slp.notices.length < 32) :
    (s.evaluateClaim q).slp.notices = s.slp.notices ++ [⟨s.twu.claimClass new, .bandEntered, bandNumber new, q.code,
      available (s.twu.handed.of q), (bandNumber (s.twu.claims.of q) : Nat), s.stamp⟩] := by
  have reported : (s.claimReported q new).slp.notices = _ := State.notify_room _ _ _ _ _ _ _ room
  rw [State.evaluateClaim_changed hn changed, State.latchTaker_slp]
  exact reported

theorem Twu.claimClass_eq (t : Twu) (c : Option BandId) :
    t.claimClass c = (match c with
      | some b => if t.bands[b].noticeClass = .alarm then .alarm else .status
      | none => .status) := by
  cases c with
  | none => rfl
  | some b => unfold Twu.claimClass; dsimp only; cases t.bands[b].noticeClass <;> rfl

/-! ## The cap and the mode of the claiming bands -/

/-- The least of some caps, NONE being no bound (R61). -/
def LeastCap (caps : List (Option Nat)) : Option Nat → Prop
  | none => ∀ x ∈ caps, x = none
  | some c => some c ∈ caps ∧ ∀ c', some c' ∈ caps → c ≤ c'

theorem leastCap_lesserCap {a x : Option Nat} {caps : List (Option Nat)} {r : Option Nat}
    (h : LeastCap (lesserCap a x :: caps) r) : LeastCap (a :: x :: caps) r := by
  cases a with
  | none =>
    cases r with
    | none => simpa [LeastCap, lesserCap] using h
    | some c => simpa [LeastCap, lesserCap] using h
  | some a =>
    cases x with
    | none =>
      cases r with
      | none => simp [LeastCap, lesserCap] at h
      | some c => simpa [LeastCap, lesserCap] using h
    | some x =>
      cases r with
      | none => simp [LeastCap, lesserCap] at h
      | some c =>
        simp only [LeastCap, lesserCap, List.mem_cons, Option.some.injEq] at h ⊢
        obtain ⟨taken, least⟩ := h
        have bound := least _ (.inl rfl)
        constructor
        · rcases taken with rfl | hc
          · rcases Nat.le_total a x with le | le
            · exact .inl (by omega)
            · exact .inr (.inl (by omega))
          · exact .inr (.inr hc)
        rintro c' (rfl | rfl | hc)
        · omega
        · omega
        · exact least c' (.inr hc)

theorem foldl_lesserCap : ∀ (bs : List Band) (a : Option Nat),
    LeastCap (a :: bs.map Band.cap) (bs.foldl (fun c b => lesserCap c b.cap) a)
  | [], a => by cases a <;> simp [LeastCap]
  | b :: bs, a => leastCap_lesserCap (foldl_lesserCap bs (lesserCap a b.cap))

theorem capOf_least (bs : List Band) : LeastCap (none :: bs.map Band.cap) (capOf bs) := foldl_lesserCap bs none

theorem capOf_none_iff (bs : List Band) : capOf bs = none ↔ ∀ b ∈ bs, b.cap = none := by
  have least := capOf_least bs
  cases h : capOf bs with
  | none => rw [h] at least; simpa [LeastCap] using least
  | some c =>
    rw [h] at least
    obtain ⟨b, hb, hc⟩ : ∃ b ∈ bs, b.cap = some c := by simpa [LeastCap] using least.1
    refine iff_of_false (by simp) fun none => ?_
    rw [none b hb] at hc
    cases hc

theorem capOf_some {bs : List Band} {c : Nat} (h : capOf bs = some c) :
    (∃ b ∈ bs, b.cap = some c) ∧ ∀ b ∈ bs, ∀ c', b.cap = some c' → c ≤ c' := by
  have least := capOf_least bs
  rw [h] at least
  obtain ⟨taken, bound⟩ := least
  exact ⟨by simpa using taken, fun b hb c' hc => bound c' (by simpa using ⟨b, hb, hc⟩)⟩

theorem modeOf_hold_iff (bs : List Band) : modeOf bs = .hold ↔ ∃ b ∈ bs, b.mode = .hold := by
  unfold modeOf
  split
  · next h => simpa using h
  · next h => split <;> simpa using h

theorem modeOf_storm_iff (bs : List Band) :
    modeOf bs = .storm ↔ (∀ b ∈ bs, b.mode ≠ .hold) ∧ ∃ b ∈ bs, b.mode = .storm := by
  unfold modeOf
  split
  · next h =>
    obtain ⟨b, hb, mode⟩ : ∃ b ∈ bs, b.mode = .hold := by simpa using h
    exact iff_of_false (by simp) fun storm => storm.1 b hb mode
  · next h =>
    have noHold : ∀ b ∈ bs, b.mode ≠ .hold := by simpa using h
    split
    · next k => exact iff_of_true rfl ⟨noHold, by simpa using k⟩
    · next k => exact iff_of_false (by simp) fun storm => k (by simpa using storm.2)

theorem modeOf_normal_iff (bs : List Band) : modeOf bs = .normal ↔ ∀ b ∈ bs, b.mode = .normal := by
  have hold := modeOf_hold_iff bs
  have storm := modeOf_storm_iff bs
  cases h : modeOf bs with
  | hold =>
    obtain ⟨b, hb, mode⟩ := hold.1 h
    exact iff_of_false (by simp) fun all => by rw [all b hb] at mode; cases mode
  | storm =>
    obtain ⟨-, b, hb, mode⟩ := storm.1 h
    exact iff_of_false (by simp) fun all => by rw [all b hb] at mode; cases mode
  | normal =>
    refine iff_of_true rfl fun b hb => ?_
    rw [h] at hold storm
    cases mode : b.mode with
    | normal => rfl
    | hold => cases hold.2 ⟨b, hb, mode⟩
    | storm =>
      have noHold : ∀ b ∈ bs, b.mode ≠ .hold := fun c hc holds => nomatch hold.2 ⟨c, hc, holds⟩
      cases storm.2 ⟨noHold, b, hb, mode⟩

/-! ## The publication -/

/-- The record recomputed, with the number of its publication (R63). -/
def State.published (s : State) : State :=
  s.onTwu fun t => { t with condition := { s.twu.recomputed with number := (s.twu.condition.number + 1) % 65536 } }

theorem State.recompute_same (h : s.twu.recomputed = s.twu.condition) : s.recompute = s := if_pos h

theorem State.recompute_new (h : s.twu.recomputed ≠ s.twu.condition) :
    s.recompute = s.published.readersAct s.twu.condition := if_neg h

/-- Settles O27: the evaluation by whether the claim changes, the cap and the mode by the bands' own, and the publication by
whether a field has changed. -/
theorem claimsReportedAndPublished : Obligations.ClaimsReportedAndPublished := by
  refine ⟨fun s q new hn => ⟨fun same => State.evaluateClaim_same (hn ▸ same), fun changed => ?_⟩,
    fun bs => ⟨capOf_none_iff bs, fun c => capOf_some, modeOf_hold_iff bs, modeOf_storm_iff bs, modeOf_normal_iff bs⟩,
    fun s => ?_⟩
  · obtain ⟨condition, lau, swc, pdc⟩ := s.evaluateClaim_blocks q
    refine ⟨fun q' => ?_, fun b => ?_, fun room => ?_, condition, (s.evaluateClaim_claim q).link, lau, swc, pdc⟩
    · rw [State.evaluateClaim_claims, Claims.of_put, hn]
    · rw [State.evaluateClaim_changed hn changed]
      exact State.latchTaker_band _ _ _
    · refine ⟨_, State.evaluateClaim_notices hn changed room, rfl, rfl, rfl, ?_, ?_, ?_, ?_⟩
      · cases q <;> rfl
      · cases new <;> rfl
      · cases s.twu.claims.of q <;> rfl
      · exact Twu.claimClass_eq _ _
  · refine ⟨fun same => State.recompute_same same.symm, fun changed => ?_, s.recompute_claim.lau,
      s.recompute_claim.core.phase, s.recompute_claim.link⟩
    rw [State.recompute_new (Ne.symm changed), (State.readersAct_work _ _ fun _ => False).twu]
    rfl

end Sys2Proof.Machine
end

section
/-! PROOFS. The reminder timer, its setting, and ACK BAND (R55..R57): O28. -/

namespace Sys2Proof.Machine

variable {s : State}

/-! ## The reminder of a band -/

/-- The notice that a reminder of the band queues (R56). -/
def State.reminder (s : State) (b : BandId) : Notice :=
  ⟨.alarm, .bandReminder, b.val + 1, s.twu.bands[b].quantity.code,
    if s.twu.claims.of s.twu.bands[b].quantity = some b then 1 else 0,
    (min (s.twu.bands[b].reminders + 1) 32767 : Nat), s.stamp⟩

/-- A latched band's count goes up by one. -/
def Band.reminded (b : Band) : Band :=
  if b.latched then { b with reminders := min (b.reminders + 1) 32767 } else b

theorem Band.reminded_latched {b : Band} (h : b.latched = true) :
    b.reminded = { b with reminders := min (b.reminders + 1) 32767 } := if_pos h

theorem State.remind_latched {b : BandId} (h : s.twu.bands[b].latched = true) :
    s.remind b = (s.onBand b Band.reminded).onSlp fun l => l.enqueue (s.reminder b) := by
  have counted : s.onBand b Band.reminded
      = s.onBand b fun bd => { bd with reminders := min (bd.reminders + 1) 32767 } := by
    simp only [State.onBand, State.onTwu, Band.reminded_latched h]
  rw [State.remind, if_pos h, counted]
  dsimp only
  rw [State.band_onBand, if_pos rfl, State.notify, State.reminder]
  unfold flag
  simp only [decide_eq_true_eq, Nat.cast_ite, Nat.cast_one, Nat.cast_zero]
  rfl

theorem State.remind_unlatched {b : BandId} (h : s.twu.bands[b].latched ≠ true) : s.remind b = s := if_neg h

theorem State.remind_band (s : State) (b c : BandId) :
    (s.remind b).twu.bands[c] = if b = c then s.twu.bands[c].reminded else s.twu.bands[c] := by
  by_cases latched : s.twu.bands[b].latched = true
  · rw [State.remind_latched latched]
    exact State.band_onBand b c _ s
  · rw [State.remind_unlatched latched]
    split
    · next h => exact (if_neg (h ▸ latched)).symm
    · rfl

/-- A reminder touches the bands and the queue of notices alone. -/
theorem State.remind_frame (s : State) (b : BandId) :
    (s.remind b).twu = { s.twu with bands := (s.remind b).twu.bands } ∧ (s.remind b).phase = s.phase
      ∧ (s.remind b).lau = s.lau ∧ (s.remind b).swc = s.swc ∧ (s.remind b).pdc = s.pdc
      ∧ (s.remind b).draws = s.draws ∧ s.LinkFrame (s.remind b) := by
  by_cases latched : s.twu.bands[b].latched = true
  · rw [State.remind_latched latched]
    have counted : s.LinkFrame (s.onBand b Band.reminded) := .of_eq rfl
    exact ⟨rfl, rfl, rfl, rfl, rfl, rfl, counted.trans (State.notify_link _ .alarm .bandReminder _ _ _ _)⟩
  · rw [State.remind_unlatched latched]
    exact ⟨rfl, rfl, rfl, rfl, rfl, rfl, .refl s⟩

theorem State.reminds_frame (l : List BandId) (s : State) :
    (l.foldl State.remind s).twu = { s.twu with bands := (l.foldl State.remind s).twu.bands }
      ∧ (l.foldl State.remind s).phase = s.phase
      ∧ (l.foldl State.remind s).lau = s.lau ∧ (l.foldl State.remind s).swc = s.swc
      ∧ (l.foldl State.remind s).pdc = s.pdc ∧ (l.foldl State.remind s).draws = s.draws
      ∧ s.LinkFrame (l.foldl State.remind s) := by
  induction l generalizing s with
  | nil => exact ⟨rfl, rfl, rfl, rfl, rfl, rfl, .refl s⟩
  | cons b l ih =>
    obtain ⟨twu, phase, lau, swc, pdc, draws, link⟩ := s.remind_frame b
    obtain ⟨twu', phase', lau', swc', pdc', draws', link'⟩ := ih (s.remind b)
    refine ⟨twu'.trans ?_, phase'.trans phase, lau'.trans lau, swc'.trans swc, pdc'.trans pdc, draws'.trans draws,
      link.trans link'⟩
    rw [twu]
    rfl

theorem State.remind_notices (b : BandId) (room : s.slp.notices.length < 32) :
    (s.remind b).slp.notices = s.slp.notices ++ (if s.twu.bands[b].latched then [s.reminder b] else []) := by
  split
  · next latched =>
    rw [State.remind_latched latched]
    exact congrArg Slp.notices (Slp.enqueue_room (s.reminder b) room)
  · next latched => rw [State.remind_unlatched latched, List.append_nil]

/-- A reminder of one band leaves another's. -/
theorem State.reminder_remind {b c : BandId} (h : b ≠ c) :
    (s.remind b).reminder c = s.reminder c ∧ (s.remind b).twu.bands[c] = s.twu.bands[c] := by
  obtain ⟨twu, -, -, -, -, -, link⟩ := s.remind_frame b
  have claims : (s.remind b).twu.claims = s.twu.claims := (congrArg Twu.claims twu :)
  have band : (s.remind b).twu.bands[c] = s.twu.bands[c] := by rw [State.remind_band, if_neg h]
  refine ⟨?_, band⟩
  unfold State.reminder
  rw [band, claims, link.stamp]

/-- The reminders of some bands are queued in the bands' order. -/
theorem State.reminds_notices (l : List BandId) (distinct : l.Nodup) (room : s.slp.notices.length + l.length ≤ 32) :
    (l.foldl State.remind s).slp.notices =
      s.slp.notices ++ (l.filter fun b => s.twu.bands[b].latched).map s.reminder := by
  induction l generalizing s with
  | nil => exact (List.append_nil _).symm
  | cons b l ih =>
    obtain ⟨fresh, distinct⟩ := List.nodup_cons.1 distinct
    rw [List.length_cons] at room
    have first := State.remind_notices (s := s) b (by omega)
    have others (c : BandId) (hc : c ∈ l) := State.reminder_remind (s := s) (fun h : b = c => fresh (h ▸ hc))
    have latched : (l.filter fun c => (s.remind b).twu.bands[c].latched) = l.filter fun c => s.twu.bands[c].latched :=
      List.filter_congr fun c hc => by rw [(others c hc).2]
    have same : (l.filter fun c => s.twu.bands[c].latched).map (s.remind b).reminder
        = (l.filter fun c => s.twu.bands[c].latched).map s.reminder :=
      List.map_congr_left fun c hc => (others c (List.mem_of_mem_filter hc)).1
    rw [List.foldl_cons, ih distinct (by rw [first, List.length_append]; split <;> simp <;> omega), first, latched, same,
      List.append_assoc, List.filter_cons]
    split <;> rfl

/-! ## The timer's expiry and the requests -/

/-- The expiry's state: the timer restarted, and each latched band reminded. -/
def State.reminded (s : State) : State :=
  allBands.foldl State.remind (s.onTwu fun t => { t with reminderTimer := 0 })

theorem State.reminded_frame (s : State) :
    s.reminded.twu = { s.twu with reminderTimer := 0, bands := s.reminded.twu.bands } ∧ s.reminded.phase = s.phase
      ∧ s.reminded.lau = s.lau ∧ s.reminded.swc = s.swc ∧ s.reminded.pdc = s.pdc ∧ s.reminded.draws = s.draws
      ∧ s.LinkFrame s.reminded := by
  unfold State.reminded
  generalize allBands = bands
  obtain ⟨twu, phase, lau, swc, pdc, draws, link⟩ :=
    State.reminds_frame bands (s.onTwu fun t => { t with reminderTimer := 0 })
  have restarted : s.LinkFrame (s.onTwu fun t => { t with reminderTimer := 0 }) := .of_eq rfl
  exact ⟨twu, phase, lau, swc, pdc, draws, restarted.trans link⟩

theorem State.reminded_band (s : State) (b : BandId) : s.reminded.twu.bands[b] = s.twu.bands[b].reminded := by
  unfold State.reminded
  rw [allBands_eq]
  have each := foldl_each (fun s b => s.twu.bands[b]) State.remind Band.reminded State.remind_band (List.finRange 8)
    (List.nodup_finRange 8) (s.onTwu fun t => { t with reminderTimer := 0 }) b
  rw [if_pos (List.mem_finRange b)] at each
  exact each

theorem State.reminded_notices (room : s.slp.notices.length ≤ 24) :
    s.reminded.slp.notices = s.slp.notices ++ (allBands.filter fun b => s.twu.bands[b].latched).map s.reminder := by
  have eight : allBands.Nodup ∧ allBands.length = 8 := by decide
  unfold State.reminded
  generalize allBands = bands at eight ⊢
  exact State.reminds_notices (s := s.onTwu fun t => { t with reminderTimer := 0 }) bands eight.1
    (by rw [eight.2]; exact Nat.add_le_add_right room 8)

theorem exec_reminderTimerExpiry (running : s.phase = .running) (on : s.twu.reminderInterval ≠ 0)
    (due : s.twu.reminderInterval * 1000 ≤ s.twu.reminderTimer) :
    exec .reminderTimerExpiry s = .next s.reminded := by
  have active : (s.active && s.twu.reminderDue) = true := by
    simp [State.active, Twu.reminderDue, reached, running, on, due]
  exact congrArg Host.Outcome.next (if_pos active)

theorem exec_setBandReminder {v w : Nat} (h : s.Takes (.setBandReminder (.args v))) (hw : w = heldToOrOff 60 3600 v) :
    exec (.setBandReminder (.args v)) s =
      .next ((if w = s.twu.reminderInterval then s
          else s.onTwu fun t => { t with reminderInterval := w, reminderTimer := 0 }).reply
        (if w = v then .ok else .okAdjusted) (if w = v then [] else encodeField .u16 w)) := by
  subst hw
  refine congrArg Host.Outcome.next ((request_takes h _).trans ?_)
  simp only [withArgs, clampOff_eq (show 60 ≤ 3600 by decide), okCode_ne, takenData_ne]

/-- The bands with the ones named acknowledged. -/
def Twu.acknowledged (t : Twu) (v : Nat) : Twu :=
  { t with bands := Vector.ofFn fun b : BandId => if v = 0 ∨ v = b.val + 1 then t.bands[b].acknowledge else t.bands[b] }

theorem Twu.acknowledged_band (t : Twu) (v : Nat) (b : BandId) :
    (t.acknowledged v).bands[b] = if v = 0 ∨ v = b.val + 1 then t.bands[b].acknowledge else t.bands[b] := by
  unfold Twu.acknowledged
  rw [Fin.getElem_fin, Vector.getElem_ofFn]

theorem Twu.acknowledged_latched (t : Twu) (v : Nat) (b : BandId) :
    (t.acknowledged v).bands[b].latched = (t.bands[b].latched && decide (v ≠ 0 ∧ v ≠ b.val + 1)) := by
  rw [Twu.acknowledged_band]
  split
  · next named => simp [Band.acknowledge]; tauto
  · next named => simp; tauto

theorem exec_ackBand_above {v : Nat} (h : s.Takes (.ackBand (.args v))) (above : 8 < v) :
    exec (.ackBand (.args v)) s = .next (s.reply .badArgument []) := by
  refine congrArg Host.Outcome.next ((request_takes h _).trans ?_)
  simp only [withArgs, if_pos above]
  rfl

theorem exec_ackBand {v : Nat} {left : List BandId} (h : s.Takes (.ackBand (.args v))) (named : v ≤ 8)
    (hl : left = allBands.filter fun b => (s.twu.acknowledged v).bands[b].latched) :
    exec (.ackBand (.args v)) s = .next ((s.onTwu fun t => t.acknowledged v).reply .ok
      (encodeField .u8 left.length ++ left.flatMap fun b => encodeField .u8 (b.val + 1 : Nat))) := by
  subst hl
  refine congrArg Host.Outcome.next ((request_takes h _).trans ?_)
  simp only [withArgs, if_neg (Nat.not_lt.2 named)]
  rfl

/-- Settles O28: the expiry band by band over the eight bands, and the two requests by what they set. -/
theorem remindersAndAcknowledgements : Obligations.RemindersAndAcknowledgements := by
  refine ⟨fun s running on due => ?_, fun s v w h hw => exec_setBandReminder h hw,
    fun s v h => ⟨exec_ackBand_above h, fun named => ?_⟩⟩
  · obtain ⟨twu, others⟩ := s.reminded_frame
    exact ⟨_, exec_reminderTimerExpiry running on due, twu, s.reminded_band, State.reminded_notices, others⟩
  · exact ⟨_, _, exec_ackBand h named rfl,
      List.filter_congr fun b _ => s.twu.acknowledged_latched v b, rfl, s.twu.acknowledged_band v⟩

end Sys2Proof.Machine
end

section
/-! PROOFS. SET BAND in its entry form (R48, R49, R54, R60, R63): O29. -/

namespace Sys2Proof.Machine

variable {s t : State}

/-! ## Claims rest on the bands' settings -/

theorem Twu.sansClaims_band {v w : Twu} (h : w.sansClaims = v.sansClaims) (b : BandId) :
    w.bands[b].sansLatch = v.bands[b].sansLatch := by
  have bands : w.bands.map Band.sansLatch = v.bands.map Band.sansLatch := (congrArg Twu.bands h :)
  have each := congrArg (fun l : Vector Band 8 => l[b]) bands
  simpa using each

/-- The latches of the bands have no part in a claim (R51). -/
theorem Twu.claimFor_congr {v w : Twu} (h : w.sansClaims = v.sansClaims) : w.claimFor = v.claimFor := by
  have watches (b : BandId) (q : Quantity) : w.bands[b].watches q = v.bands[b].watches q :=
    (congrArg (fun b : Band => b.watches q) (sansClaims_band h b) :)
  have rank (b : BandId) : w.bands[b].rank = v.bands[b].rank := (congrArg Band.rank (sansClaims_band h b) :)
  have covers (b : BandId) (x : Int) : w.bands[b].covers x = v.bands[b].covers x :=
    (congrArg (fun b : Band => b.covers x) (sansClaims_band h b) :)
  have widened (b : BandId) (x : Int) : w.bands[b].widened x = v.bands[b].widened x :=
    (congrArg (fun b : Band => b.widened x) (sansClaims_band h b) :)
  have keeps : w.keeps = v.keeps := by
    funext q x subtractive current
    cases current with
    | none => rfl
    | some b => simp only [Twu.keeps, watches, rank, widened]
  have chosen : w.chosen = v.chosen := by
    funext q x r
    simp only [Twu.chosen, watches, rank, covers]
  funext q current value
  cases value with
  | none => rfl
  | some x => simp only [Twu.claimFor, keeps, chosen]

/-! ## Some quantities claimed anew -/

/-- The quantities of a list that `p` picks are claimed anew, in its order. -/
def State.reclaim (p : Quantity → Bool) (l : List Quantity) (s : State) : State :=
  l.foldl (fun t q => if p q then t.evaluateClaim q else t) s

/-- The claim of a quantity evaluated at the state's own claims and values. -/
def State.newClaim (s : State) (q : Quantity) : Option BandId :=
  s.twu.claimFor q (s.twu.claims.of q) (s.twu.handed.of q)

/-- A band newly takes a claim between two states. -/
def State.Newly (s t : State) (m : BandId) : Prop :=
  ∃ q : Quantity, t.twu.claims.of q = some m ∧ s.twu.claims.of q ≠ some m

variable {p : Quantity → Bool}

theorem State.reclaimOne_claim (p : Quantity → Bool) (s : State) (q : Quantity) :
    s.ClaimFrame (if p q then s.evaluateClaim q else s) := by
  split
  · exact s.evaluateClaim_claim q
  · exact .refl s

theorem State.reclaim_claim (p : Quantity → Bool) (l : List Quantity) (s : State) : s.ClaimFrame (s.reclaim p l) :=
  List.foldlRecOn (motive := fun t => s.ClaimFrame t) l _ (.refl s) fun t h q _ => h.trans (t.reclaimOne_claim p q)

theorem State.reclaimOne_claims (s : State) (q q' : Quantity) :
    (if p q then s.evaluateClaim q else s).twu.claims.of q' =
      if q' = q ∧ p q then s.newClaim q' else s.twu.claims.of q' := by
  by_cases picked : p q
  · rw [if_pos picked, State.evaluateClaim_claims, Claims.of_put]
    by_cases same : q' = q
    · subst same; rw [if_pos rfl, if_pos ⟨rfl, picked⟩]; rfl
    · rw [if_neg same, if_neg fun h => same h.1]
  · rw [if_neg picked, if_neg fun h => picked h.2]

theorem State.ClaimFrame.newClaim (h : s.ClaimFrame t) {q : Quantity} (same : t.twu.claims.of q = s.twu.claims.of q) :
    t.newClaim q = s.newClaim q := by
  rw [State.newClaim, same, h.handed, Twu.claimFor_congr h.twu]
  rfl

theorem State.reclaim_claims (l : List Quantity) (distinct : l.Nodup) (s : State) (q : Quantity) :
    (s.reclaim p l).twu.claims.of q = if q ∈ l ∧ p q then s.newClaim q else s.twu.claims.of q := by
  induction l generalizing s with
  | nil => simp [State.reclaim]
  | cons a l ih =>
    obtain ⟨fresh, distinct⟩ := List.nodup_cons.1 distinct
    have first := s.reclaimOne_claims (p := p) a q
    have frame := s.reclaimOne_claim p a
    rw [State.reclaim, List.foldl_cons, ← State.reclaim, ih distinct]
    generalize (if p a then s.evaluateClaim a else s) = u at first frame ⊢
    by_cases same : q = a
    · subst same
      rw [if_neg (fun h => fresh h.1), first]
      simp
    · rw [if_neg (fun h => same h.1)] at first
      rw [frame.newClaim first, first]
      simp [same]

/-! ## The latch of a band that newly takes a claim (R54) -/

theorem Band.latch_class (b : Band) : b.latch.noticeClass = b.noticeClass := by
  rw [Band.latch_eq]
  split <;> rfl

theorem Band.latch_latch (b : Band) : b.latch.latch = b.latch := by
  rw [Band.latch_eq b.latch, Band.latch_class]
  split
  · next alarm => rw [Band.latch_eq, if_pos alarm]
  · rfl

/-- The evaluation of a claim latches the band that newly takes it, and no other. -/
theorem State.evaluateClaim_latch (s : State) (q : Quantity) (m : BandId) :
    (¬ s.Newly (s.evaluateClaim q) m ∧ (s.evaluateClaim q).twu.bands[m] = s.twu.bands[m])
      ∨ (s.Newly (s.evaluateClaim q) m ∧ (s.evaluateClaim q).twu.bands[m] = s.twu.bands[m].latch) := by
  have claims (q' : Quantity) : (s.evaluateClaim q).twu.claims.of q' =
      if q' = q then s.newClaim q else s.twu.claims.of q' := by
    rw [State.evaluateClaim_claims, Claims.of_put]
    rfl
  by_cases changed : s.newClaim q = s.twu.claims.of q
  · refine .inl ⟨?_, by rw [State.evaluateClaim_same changed]⟩
    rintro ⟨q', now, before⟩
    rw [State.evaluateClaim_same changed] at now
    exact before now
  · have band : (s.evaluateClaim q).twu.bands[m] =
        if s.newClaim q = some m ∧ s.twu.bands[m].noticeClass = .alarm then
          { s.twu.bands[m] with latched := true, reminders := 0 }
        else s.twu.bands[m] := by
      rw [State.evaluateClaim_changed rfl changed]
      exact State.latchTaker_band (s.claimReported q (s.newClaim q)) (s.newClaim q) m
    by_cases taken : s.newClaim q = some m
    · refine .inr ⟨⟨q, by rw [claims, if_pos rfl, taken], fun before => changed (taken.trans before.symm)⟩, ?_⟩
      rw [band, Band.latch_eq, taken]
      simp only [true_and]
    · refine .inl ⟨?_, by rw [band, if_neg (fun h => taken h.1)]⟩
      rintro ⟨q', now, before⟩
      rw [claims] at now
      split at now
      · exact taken now
      · exact before now

/-- The bands that newly take a claim are latched, the others are as they were. -/
theorem State.reclaim_latch (l : List Quantity) (distinct : l.Nodup) (s : State) (m : BandId) :
    (¬ s.Newly (s.reclaim p l) m ∧ (s.reclaim p l).twu.bands[m] = s.twu.bands[m])
      ∨ (s.Newly (s.reclaim p l) m ∧ (s.reclaim p l).twu.bands[m] = s.twu.bands[m].latch) := by
  induction l generalizing s with
  | nil => exact .inl ⟨fun ⟨_, now, before⟩ => before now, rfl⟩
  | cons a l ih =>
    obtain ⟨fresh, distinct⟩ := List.nodup_cons.1 distinct
    rw [State.reclaim, List.foldl_cons, ← State.reclaim]
    have one : (¬ s.Newly (if p a then s.evaluateClaim a else s) m
          ∧ (if p a then s.evaluateClaim a else s).twu.bands[m] = s.twu.bands[m])
        ∨ (s.Newly (if p a then s.evaluateClaim a else s) m
          ∧ (if p a then s.evaluateClaim a else s).twu.bands[m] = s.twu.bands[m].latch) := by
      split
      · exact s.evaluateClaim_latch a m
      · exact .inl ⟨fun ⟨_, now, before⟩ => before now, rfl⟩
    have others (q : Quantity) (hq : q ≠ a) := (s.reclaimOne_claims (p := p) a q).trans (if_neg fun h => hq h.1)
    generalize (if p a then s.evaluateClaim a else s) = u at one others ⊢
    have kept : (u.reclaim p l).twu.claims.of a = u.twu.claims.of a :=
      (u.reclaim_claims l distinct a).trans (if_neg fun h => fresh h.1)
    have newly : s.Newly (u.reclaim p l) m ↔ s.Newly u m ∨ u.Newly (u.reclaim p l) m := by
      constructor
      · rintro ⟨q, now, before⟩
        by_cases same : q = a
        · subst same; exact .inl ⟨q, kept ▸ now, before⟩
        · exact .inr ⟨q, now, by rw [others q same]; exact before⟩
      · rintro (⟨q, now, before⟩ | ⟨q, now, before⟩)
        · by_cases same : q = a
          · subst same; exact ⟨q, kept.trans now, before⟩
          · exact absurd (others q same ▸ now) before
        · by_cases same : q = a
          · subst same; exact absurd (kept ▸ now) before
          · exact ⟨q, now, by rw [← others q same]; exact before⟩
    rw [newly]
    rcases one with ⟨not, band⟩ | ⟨new, band⟩ <;> rcases ih distinct u with ⟨not', band'⟩ | ⟨new', band'⟩
    · exact .inl ⟨not_or.2 ⟨not, not'⟩, band'.trans band⟩
    · exact .inr ⟨.inr new', by rw [band', band]⟩
    · exact .inr ⟨.inl new, band'.trans band⟩
    · exact .inr ⟨.inl new, by rw [band', band, Band.latch_latch]⟩

/-! ## The values of an entry (R48, R49) -/

theorem Quantity.code_inj {q q' : Quantity} : q.code = q'.code ↔ q = q' := by
  refine ⟨fun h => ?_, congrArg _⟩
  exact Option.some_inj.1 (by rw [← toQuantity_code q, h, toQuantity_code])

theorem toQuantity_le {v : Nat} (h : v ≤ 2) : ∃ q, toQuantity v = some q ∧ q.code = v := by
  obtain rfl | rfl | rfl : v = 0 ∨ v = 1 ∨ v = 2 := by omega
  · exact ⟨.level, rfl, rfl⟩
  · exact ⟨.residual, rfl, rfl⟩
  · exact ⟨.rate, rfl, rfl⟩

theorem toRank_le {v : Nat} (h : v ≤ 3) : ∃ r, toRank v = some r ∧ r.code = v := by
  obtain rfl | rfl | rfl | rfl : v = 0 ∨ v = 1 ∨ v = 2 ∨ v = 3 := by omega
  · exact ⟨.fast, rfl, rfl⟩
  · exact ⟨.medium, rfl, rfl⟩
  · exact ⟨.slow, rfl, rfl⟩
  · exact ⟨.subtractive, rfl, rfl⟩

theorem toMode_le {v : Nat} (h : v ≤ 2) : ∃ m, toMode v = some m ∧ m.code = v := by
  obtain rfl | rfl | rfl : v = 0 ∨ v = 1 ∨ v = 2 := by omega
  · exact ⟨.normal, rfl, rfl⟩
  · exact ⟨.storm, rfl, rfl⟩
  · exact ⟨.hold, rfl, rfl⟩

theorem toBandClass_le {v : Nat} (h : v ≤ 1) : ∃ k, toBandClass v = some k ∧ k.code = v := by
  obtain rfl | rfl : v = 0 ∨ v = 1 := by omega
  · exact ⟨.alarm, rfl, rfl⟩
  · exact ⟨.status, rfl, rfl⟩

theorem toQuantity_some {v : Nat} {q : Quantity} (h : toQuantity v = some q) : v ≤ 2 := by
  unfold toQuantity at h
  split at h <;> simp_all

theorem toRank_some {v : Nat} {r : Rank} (h : toRank v = some r) : v ≤ 3 := by
  unfold toRank at h
  split at h <;> simp_all

theorem toMode_some {v : Nat} {m : WashMode} (h : toMode v = some m) : v ≤ 2 := by
  unfold toMode at h
  split at h <;> simp_all

theorem toBandClass_some {v : Nat} {k : BandClass} (h : toBandClass v = some k) : v ≤ 1 := by
  unfold toBandClass at h
  split at h <;> simp_all

theorem yesNo_some {v : Nat} {e : Bool} (h : yesNo v = some e) : v ≤ 1 := by
  unfold yesNo at h
  split at h <;> simp_all

theorem capCode_toCap_eq (v : Nat) : capCode (toCap v) = if v = 255 then 255 else min v 8 := by
  unfold toCap
  split <;> rfl

/-- A bound held to the range of R48. -/
def heldBound (v : Int) : Int := max (-30000) (min 30000 v)

theorem clampInt_bound (v : Int) : clampInt (-30000) 30000 v = heldBound v := clampInt_eq (by decide) v

/-- The values that an entry takes from the arguments. -/
def bandArgsValues (b : BandArgs) : List Int :=
  [b.enabled, b.quantity, heldBound b.low, heldBound b.high, b.rank, (min b.hysteresis 500 : Nat),
    (if b.cap = 255 then 255 else min b.cap 8 : Nat), b.mode, b.noticeClass]

theorem bandArgsValues_fields (b : BandArgs) : encodeFields (bandWidths.zip (bandArgsValues b)) = encodeFields
    [(.u8, b.enabled), (.u8, b.quantity), (.s16, heldBound b.low), (.s16, heldBound b.high), (.u8, b.rank),
      (.u16, (min b.hysteresis 500 : Nat)), (.u8, if b.cap = 255 then 255 else (min b.cap 8 : Nat)), (.u8, b.mode),
      (.u8, b.noticeClass)] := by
  simp only [bandArgsValues, Nat.cast_ite]
  rfl

/-- An entry that is taken has its enumerations in their lists and its bounds in order. -/
theorem bandEntry_some {old new : Band} {b : BandArgs} (h : bandEntry old b = some new) :
    b.enabled ≤ 1 ∧ b.quantity ≤ 2 ∧ b.rank ≤ 3 ∧ b.mode ≤ 2 ∧ b.noticeClass ≤ 1
      ∧ heldBound b.low < heldBound b.high := by
  unfold bandEntry at h
  split at h
  · next en q r m k hen hq hr hm hk =>
    dsimp only at h
    split at h
    · next order =>
      rw [clampInt_bound, clampInt_bound] at order
      exact ⟨yesNo_some hen, toQuantity_some hq, toRank_some hr, toMode_some hm, toBandClass_some hk, order⟩
    · cases h
  · cases h

/-- The entry taken: its values are the arguments', held to their ranges, and its latch is the old one's. -/
structure BandTaken (old : Band) (b : BandArgs) (new : Band) : Prop where
  entry : bandEntry old b = some new
  values : new.values = bandArgsValues b
  low : new.low = heldBound b.low
  high : new.high = heldBound b.high
  hysteresis : new.hysteresis = min b.hysteresis 500
  cap : new.cap = toCap b.cap
  quantity : new.quantity.code = b.quantity
  latched : new.latched = old.latched
  reminders : new.reminders = old.reminders

theorem bandTaken (old : Band) {b : BandArgs} (enabled : b.enabled ≤ 1) (quantity : b.quantity ≤ 2) (rank : b.rank ≤ 3)
    (mode : b.mode ≤ 2) (class' : b.noticeClass ≤ 1) (order : heldBound b.low < heldBound b.high) :
    ∃ new, BandTaken old b new := by
  obtain ⟨q, hq, qCode⟩ := toQuantity_le quantity
  obtain ⟨r, hr, rCode⟩ := toRank_le rank
  obtain ⟨m, hm, mCode⟩ := toMode_le mode
  obtain ⟨k, hk, kCode⟩ := toBandClass_le class'
  have en : flag (b.enabled == 1) = b.enabled := by
    obtain h | h : b.enabled = 0 ∨ b.enabled = 1 := by omega
    · rw [h]; rfl
    · rw [h]; rfl
  have hyst : clampNat 0 500 b.hysteresis = min b.hysteresis 500 := by
    rw [clampNat_eq (by decide), heldTo, Nat.zero_max, Nat.min_comm]
  refine ⟨{ old with
    enabled := b.enabled == 1, quantity := q, low := heldBound b.low, high := heldBound b.high, rank := r
    hysteresis := min b.hysteresis 500, cap := toCap b.cap, mode := m, noticeClass := k },
    ?_, ?_, rfl, rfl, rfl, rfl, qCode, rfl, rfl⟩
  · unfold bandEntry
    rw [yesNo_le enabled, hq, hr, hm, hk]
    simp only [clampInt_bound, hyst, if_pos order]
  · simp only [Band.values, bandArgsValues, en, qCode, rCode, mCode, kCode, capCode_toCap_eq]

theorem bandClamped_iff {old new : Band} {b : BandArgs} (h : BandTaken old b new) : bandClamped b new = false ↔
    heldBound b.low = b.low ∧ heldBound b.high = b.high ∧ b.hysteresis ≤ 500 ∧ (b.cap ≤ 8 ∨ b.cap = 255) := by
  rw [bandClamped, h.low, h.high, h.hysteresis, h.cap, capCode_toCap_eq, decide_eq_false_iff_not]
  split <;> omega

/-! ## Which quantity a band claims -/

theorem Twu.claimedBy_none {w : Twu} {n : BandId} (h : w.claimedBy n = 255) (q : Quantity) : w.claims.of q ≠ some n := by
  unfold Twu.claimedBy at h
  split at h
  · next first _ =>
    have small : first.code ≤ 2 := by cases first <;> decide
    omega
  · next none =>
    have each := List.find?_eq_none.1 none q (by cases q <;> decide)
    simpa using each

theorem Twu.claimedBy_some {w : Twu} {n : BandId} (h : w.claimedBy n ≠ 255) :
    ∃ q : Quantity, q.code = w.claimedBy n ∧ w.claims.of q = some n := by
  unfold Twu.claimedBy at h ⊢
  split
  · next q found => exact ⟨q, rfl, by simpa using List.find?_some found⟩
  · next none => rw [none] at h; exact absurd rfl h

/-! ## SET BAND -/

/-- The entry in its band, its quantities claimed anew, and what follows (R49, R60, R63). -/
def State.withEntry (s : State) (n : BandId) (new : Band) : State :=
  (((s.onBand n fun _ => new).reevaluateQuantities s.twu.bands[n].quantity new.quantity).recompute).settle

theorem exec_setBandEntry_band {b : BandArgs} (h : s.Takes (.setBandEntry (.args b))) (above : 8 < b.band) :
    exec (.setBandEntry (.args b)) s = .next (s.reply .badArgument []) := by
  refine congrArg Host.Outcome.next ((args_takes h b _).trans ?_)
  simp only [index1_none (.inr above)]
  rfl

theorem exec_setBandEntry_refused {b : BandArgs} {n : BandId} (h : s.Takes (.setBandEntry (.args b)))
    (hn : index1 8 b.band = some n) (refused : bandEntry s.twu.bands[n] b = none) :
    exec (.setBandEntry (.args b)) s = .next (s.reply .badArgument []) := by
  refine congrArg Host.Outcome.next ((args_takes h b _).trans ?_)
  simp only [hn, refused]
  rfl

theorem exec_setBandEntry {b : BandArgs} {n : BandId} {new : Band} (h : s.Takes (.setBandEntry (.args b)))
    (hn : index1 8 b.band = some n) (taken : bandEntry s.twu.bands[n] b = some new) :
    exec (.setBandEntry (.args b)) s = .next ((s.withEntry n new).reply (okCode (bandClamped b new))
      ((if bandClamped b new then new.settings else [])
        ++ encodeFields [(.u8, (s.withEntry n new).twu.claimedBy n), (.u8, flag (s.withEntry n new).twu.bands[n].latched),
          (.u16, (s.withEntry n new).twu.condition.number)])) := by
  refine congrArg Host.Outcome.next ((args_takes h b _).trans ?_)
  simp only [hn, taken]
  rfl

/-- The quantities that the band watched or watches. -/
def pickedBy (before after q : Quantity) : Bool := decide (q = before ∨ q = after)

theorem State.reevaluateQuantities_eq (s : State) (before after : Quantity) :
    s.reevaluateQuantities before after = s.reclaim (pickedBy before after) [.level, .residual, .rate] := by
  unfold State.reevaluateQuantities State.reclaim pickedBy
  simp only [decide_eq_true_eq]

section Entry
variable {n : BandId} {new : Band}

/-- The bands claimed anew, before the publication. -/
def State.entryClaimed (s : State) (n : BandId) (new : Band) : State :=
  (s.onBand n fun _ => new).reclaim (pickedBy s.twu.bands[n].quantity new.quantity) [.level, .residual, .rate]

theorem State.withEntry_eq : s.withEntry n new = (s.entryClaimed n new).recompute.settle := by
  rw [State.withEntry, State.reevaluateQuantities_eq]
  rfl

theorem State.withEntry_claim : (s.onBand n fun _ => new).ClaimFrame (s.withEntry n new) := by
  rw [State.withEntry_eq]
  exact ((State.reclaim_claim _ _ _).trans (State.recompute_claim _)).trans (State.settle_claim _)

/-- The publication and the evaluations that follow leave the claims and the bands. -/
theorem State.withEntry_twu : (s.withEntry n new).twu.claims = (s.entryClaimed n new).twu.claims
    ∧ (s.withEntry n new).twu.bands = (s.entryClaimed n new).twu.bands := by
  rw [State.withEntry_eq, State.settle_twu, State.recompute_twu]
  exact ⟨rfl, rfl⟩

theorem State.withEntry_claims (q : Quantity) : (s.withEntry n new).twu.claims.of q =
    if q = s.twu.bands[n].quantity ∨ q = new.quantity then
      (s.withEntry n new).twu.claimFor q (s.twu.claims.of q) (s.twu.handed.of q)
    else s.twu.claims.of q := by
  rw [State.withEntry_twu.1, Twu.claimFor_congr State.withEntry_claim.twu, State.entryClaimed,
    State.reclaim_claims _ (by decide)]
  have every : q ∈ ([.level, .residual, .rate] : List Quantity) := by cases q <;> decide
  simp only [every, true_and, pickedBy, decide_eq_true_eq]
  rfl

theorem State.withEntry_condition :
    (s.withEntry n new).twu.condition = (s.withEntry n new).twu.recomputed := by
  rw [State.withEntry_eq]
  exact settled_current _

/-- A band with the class ALARM that newly takes a claim is latched, every other band keeps its latch (R54). -/
theorem State.withEntry_latch (latched : new.latched = s.twu.bands[n].latched)
    (reminders : new.reminders = s.twu.bands[n].reminders) (m : BandId) :
    (s.Newly (s.withEntry n new) m → (s.withEntry n new).twu.bands[m].noticeClass = .alarm →
        (s.withEntry n new).twu.bands[m].latched = true ∧ (s.withEntry n new).twu.bands[m].reminders = 0)
      ∧ (¬ s.Newly (s.withEntry n new) m ∨ (s.withEntry n new).twu.bands[m].noticeClass = .status →
        (s.withEntry n new).twu.bands[m].latched = s.twu.bands[m].latched
          ∧ (s.withEntry n new).twu.bands[m].reminders = s.twu.bands[m].reminders) := by
  have old : (s.onBand n fun _ => new).twu.bands[m].latched = s.twu.bands[m].latched
      ∧ (s.onBand n fun _ => new).twu.bands[m].reminders = s.twu.bands[m].reminders := by
    rw [State.band_onBand]
    split
    · next same => subst same; exact ⟨latched, reminders⟩
    · exact ⟨rfl, rfl⟩
  have each := (s.onBand n fun _ => new).reclaim_latch
    (p := pickedBy s.twu.bands[n].quantity new.quantity) [.level, .residual, .rate] (by decide) m
  have newly : s.Newly (s.withEntry n new) m ↔ (s.onBand n fun _ => new).Newly (s.entryClaimed n new) m := by
    unfold State.Newly
    rw [State.withEntry_twu.1]
    rfl
  rw [newly, State.withEntry_twu.2]
  rcases each with ⟨not, band⟩ | ⟨is, band⟩
  · refine ⟨fun h => absurd h not, fun _ => ?_⟩
    rw [State.entryClaimed, band]
    exact old
  · rw [Band.latch_eq] at band
    rw [State.entryClaimed, band]
    split
    · next alarm => exact ⟨fun _ _ => ⟨rfl, rfl⟩, fun h => nomatch alarm.symm.trans (h.resolve_left (not_not.2 is))⟩
    · next status => exact ⟨fun _ h => absurd h status, fun _ => old⟩

/-- The entry is item `n + 1` of section 3 alone. -/
theorem State.onBand_sectionValues (x i : Nat) (h : (x, i) ≠ (3, n.val + 1)) :
    (s.onBand n fun _ => new).sectionValues x i = s.sectionValues x i := by
  match x with
  | 3 =>
    show itemValues (s.twu.bands.set n new) i Band.values = itemValues s.twu.bands i Band.values
    cases i with
    | zero => rfl
    | succ j =>
      by_cases hj : j < 8
      · exact itemValues_set_ne s.twu.bands (k := n) (j := ⟨j, hj⟩) (by rintro rfl; exact h rfl) new Band.values
      · rw [itemValues, itemValues, index1_none (.inr (by omega))]
  | 0 | 1 | 2 | 4 | 5 | 6 | 7 | 8 | 9 | 10 | 11 | _ + 12 => rfl

theorem State.withEntry_sectionValues (x i : Nat) (counters : x ≠ 11) (h : (x, i) ≠ (3, n.val + 1)) :
    (s.withEntry n new).sectionValues x i = s.sectionValues x i :=
  (State.withEntry_claim.read.sameSettings.sectionValues x i fun e => absurd e counters).trans
    (State.onBand_sectionValues x i h)

theorem State.withEntry_values : (s.withEntry n new).sectionValues 3 (n.val + 1) = new.values :=
  (State.withEntry_claim.read.sameSettings.sectionValues 3 (n.val + 1) fun e => absurd e (by decide)).trans
    (itemValues_set s.twu.bands n new Band.values)

end Entry

/-- The settings of the entry, as a reply has them. -/
theorem Band.settings_eq (b : Band) : b.settings = encodeFields (bandWidths.zip b.values) := rfl

/-- Settles O29: the entry refused by its arguments, or taken in its band with its quantities claimed anew. -/
theorem bandEntryTaken : Obligations.BandEntryTaken := by
  intro s b lo hi h first hlo hhi
  obtain rfl : lo = heldBound b.low := hlo
  obtain rfl : hi = heldBound b.high := hhi
  refine ⟨fun refused => ?_, fun n hn enabled quantity rank mode class' order => ?_⟩
  · by_cases above : 8 < b.band
    · exact exec_setBandEntry_band h above
    · have hn : index1 8 b.band = some ⟨b.band - 1, by omega⟩ := dif_pos ⟨first, by omega⟩
      refine exec_setBandEntry_refused h hn (Option.eq_none_iff_forall_ne_some.2 fun new taken => ?_)
      obtain ⟨enabled, quantity, rank, mode, class', order⟩ := bandEntry_some taken
      omega
  · obtain ⟨new, taken⟩ := bandTaken s.twu.bands[n] enabled quantity rank mode class' order
    have frame : s.LinkFrame (s.onBand n fun _ => new) := .of_eq rfl
    have kept : (s.onBand n fun _ => new).ClaimFrame (s.withEntry n new) := State.withEntry_claim
    have code : okCode (bandClamped b new) = if heldBound b.low = b.low ∧ heldBound b.high = b.high
        ∧ b.hysteresis ≤ 500 ∧ (b.cap ≤ 8 ∨ b.cap = 255) then .ok else .okAdjusted := by
      simp only [← bandClamped_iff taken]
      cases bandClamped b new <;> rfl
    refine ⟨_, _, _, exec_setBandEntry h (by rw [hn]; exact index1_succ n) taken.entry, code, ?_,
      State.withEntry_sectionValues, fun q => ?_, fun m => ?_, State.withEntry_condition, kept.handed, kept.ring,
      kept.banks, kept.lau, kept.core.phase, frame.trans kept.link, _, ?_, Twu.claimedBy_none, Twu.claimedBy_some⟩
    · rw [State.withEntry_values, taken.values]
      rfl
    · have coded : q.code = b.quantity ↔ q = new.quantity := by
        rw [← taken.quantity]
        exact Quantity.code_inj
      rw [State.withEntry_claims]
      simp only [coded]
    · obtain ⟨latches, keeps⟩ := State.withEntry_latch taken.latched taken.reminders m
      exact ⟨latches, fun other => keeps (other.imp_left fun all ⟨q, now, before⟩ => before (all q now))⟩
    · rw [Band.settings_eq, taken.values, bandArgsValues_fields, okCode_eq]
      cases bandClamped b new <;> rfl

end Sys2Proof.Machine
end

section
/-! PROOFS. The header clear, and what a publication makes its readers do (R63, R74, R76, R85, R88, R100, R104, R105,
R110, R112, R113, R153): O35. -/

namespace Sys2Proof.Machine

variable {s t : State} {o : WashOutcome}

/-! ## What a result leaves of the SWC and the PDC -/

/-- The SWC beside its screens. -/
def Swc.aside (w : Swc) : Swc := { w with screens := Vector.replicate 6 {} }

/-- The SWC and the PDC but for the screens. -/
def State.aside (s : State) : Swc × Pdc := (s.swc.aside, s.pdc)

theorem State.aside_onScreen (n : ScreenId) (f : Screen → Screen) (s : State) : (s.onScreen n f).aside = s.aside := rfl

theorem State.aside_announcePending (n : ScreenId) (r : Option WashResult) (s : State) :
    (s.announcePending n r).aside = s.aside := by simp [State.aside]

theorem State.aside_releaseResults (s : State) : s.releaseResults.aside = s.aside :=
  foldl_keeps State.aside State.releaseScreen
    (fun s n => ((aside_onScreen n _ _).trans (aside_announcePending n _ _)).trans (aside_announcePending n _ s))
    allScreens s

theorem State.aside_withdrawStaged (s : State) (n : ScreenId) (next : ScreenState) :
    (s.withdrawStaged n next).aside = s.aside := by
  unfold State.withdrawStaged
  refine (aside_onScreen n _ _).trans ((aside_onScreen n _ _).trans ?_)
  split
  · rfl
  · simp [State.aside]

theorem State.aside_concludeWash (s : State) (n : ScreenId) (w : WashRecord) (next : ScreenState) (ho : o ≠ .complete) :
    (s.concludeWash n w o next).aside = s.aside := by
  have entered : (s.enterResult n (resultOf w o s.stamp)).aside = s.aside :=
    (aside_onScreen n _ _).trans (aside_announcePending n _ s)
  unfold State.concludeWash
  refine (aside_onScreen n _ _).trans ?_
  cases o
  case complete => exact absurd rfl ho
  all_goals exact (aside_withdrawStaged _ n next).trans entered

theorem State.aside_flushTrough (s : State) (n : ScreenId) (w : WashRecord) (hj : o ≠ .jammed) :
    (s.flushTrough n w o).aside = ({ s.swc.aside with sluicing := true, sluiceMs := 0, sluv := true }, s.pdc) := by
  unfold State.flushTrough
  rw [if_neg hj]
  rfl

/-! ## Every wash ended -/

/-- The end of a wash that the header clear ends, for one screen. -/
def State.endUnder (o : WashOutcome) (s : State) (n : ScreenId) : State :=
  if (s.screen n).state.isWashing then
    match (s.screen n).wash with
    | some w => (s.concludeWash n w o .idle).flushTrough n w o
    | none => s
  else s

/-- The screen after it. -/
def Screen.clearedBy (sc : Screen) (o : WashOutcome) (stamp : Nat) : Screen :=
  if sc.state.isWashing then
    match sc.wash with
    | some w => sc.ended w o stamp .idle
    | none => sc
  else sc

/-- Either no wash is under way on the screen, or its wash ends. -/
theorem State.endUnder_cases (s : State) (o : WashOutcome) (n : ScreenId) :
    (s.endUnder o n = s ∧ ∀ stamp, (s.screen n).clearedBy o stamp = s.screen n)
      ∨ ∃ w, s.endUnder o n = (s.concludeWash n w o .idle).flushTrough n w o
        ∧ ∀ stamp, (s.screen n).clearedBy o stamp = (s.screen n).ended w o stamp .idle := by
  unfold State.endUnder Screen.clearedBy
  split
  · cases (s.screen n).wash with
    | none => exact .inl ⟨rfl, fun _ => rfl⟩
    | some w => exact .inr ⟨w, rfl, fun _ => rfl⟩
  · exact .inl ⟨rfl, fun _ => rfl⟩

theorem State.endUnder_link (s : State) (o : WashOutcome) (n : ScreenId) : s.LinkFrame (s.endUnder o n) := by
  rcases s.endUnder_cases o n with ⟨same, -⟩ | ⟨w, ended, -⟩
  · rw [same]; exact .refl s
  · rw [ended]
    exact ((s.concludeWash_work w o .idle (fun _ => False) (W := fun _ => True) trivial).trans
      (State.flushTrough_work _ n w o _ _)).link

theorem State.endUnder_screen (ho : o ≠ .complete) (s : State) (n m : ScreenId) :
    (s.endUnder o n).screen m = if n = m then (s.screen m).clearedBy o s.stamp else s.screen m := by
  rcases s.endUnder_cases o n with ⟨same, cleared⟩ | ⟨w, ended, cleared⟩
  · rw [same]
    split
    · next h => rw [← h, cleared]
    · rfl
  · rw [ended, State.screen_flushTrough, State.screen_concludeWash_abort s n m w .idle ho]
    split
    · next h => rw [← h, cleared]; rfl
    · rfl

theorem State.endEach_screen (ho : o ≠ .complete) (l : List ScreenId) (distinct : l.Nodup) (s : State) {n : ScreenId}
    (hn : n ∈ l) : (l.foldl (State.endUnder o) s).screen n = (s.screen n).clearedBy o s.stamp := by
  have each := foldl_each (fun s n => (s.screen n, s.stamp)) (State.endUnder o) (fun x => (x.1.clearedBy o x.2, x.2))
    (fun s n m => by
      rw [State.endUnder_screen ho, (s.endUnder_link o n).stamp]
      split <;> rfl) l distinct s n
  rw [if_pos hn] at each
  exact (Prod.mk.inj each).1

theorem mem_allScreens (n : ScreenId) : n ∈ allScreens := by
  rw [show allScreens = List.finRange 6 by decide]
  exact List.mem_finRange n

/-- All the washes ended. -/
def State.endAll (s : State) (o : WashOutcome) : State := allScreens.foldl (State.endUnder o) s

theorem State.endAll_screen (ho : o ≠ .complete) (s : State) (n : ScreenId) :
    (s.endAll o).screen n = (s.screen n).clearedBy o s.stamp :=
  State.endEach_screen ho allScreens (by decide) s (mem_allScreens n)

/-- What the ends of the washes leave, and the sluice run that follows the first of them. -/
structure State.WashesEnded (s t : State) : Prop where
  pdc : t.pdc = s.pdc
  queue : t.swc.queue = s.swc.queue
  purge : t.swc.purge = s.swc.purge
  hprg : t.swc.hprg = s.swc.hprg
  sluv : s.swc.sluv = s.swc.sluicing → t.swc.sluv = t.swc.sluicing
  sluice : t = s ∨ t.swc.sluicing = true

theorem State.WashesEnded.trans {u : State} (h : s.WashesEnded t) (k : t.WashesEnded u) : s.WashesEnded u where
  pdc := k.pdc.trans h.pdc
  queue := k.queue.trans h.queue
  purge := k.purge.trans h.purge
  hprg := k.hprg.trans h.hprg
  sluv agree := k.sluv (h.sluv agree)
  sluice := by
    rcases k.sluice with rfl | started
    · exact h.sluice
    · exact .inr started

theorem State.WashesEnded.refl (s : State) : s.WashesEnded s := ⟨rfl, rfl, rfl, rfl, id, .inl rfl⟩

theorem State.endUnder_ended (ho : o ≠ .complete) (hj : o ≠ .jammed) (s : State) (n : ScreenId) :
    s.WashesEnded (s.endUnder o n) := by
  rcases s.endUnder_cases o n with ⟨same, -⟩ | ⟨w, ended, -⟩
  · rw [same]; exact .refl s
  · have kept := s.aside_concludeWash n w .idle ho
    have flushed := (s.concludeWash n w o .idle).aside_flushTrough n w hj
    rw [← ended] at flushed
    obtain ⟨swc, pdc⟩ := Prod.mk.inj flushed
    obtain ⟨swc', pdc'⟩ := Prod.mk.inj kept
    rw [swc'] at swc
    have sluicing : (s.endUnder o n).swc.sluicing = true := (congrArg Swc.sluicing swc :)
    exact ⟨pdc.trans pdc', (congrArg Swc.queue swc :), (congrArg Swc.purge swc :), (congrArg Swc.hprg swc :),
      fun _ => ((congrArg Swc.sluv swc :) : (s.endUnder o n).swc.sluv = true).trans sluicing.symm, .inr sluicing⟩

theorem State.endAll_ended (ho : o ≠ .complete) (hj : o ≠ .jammed) (s : State) : s.WashesEnded (s.endAll o) :=
  List.foldlRecOn (motive := fun t => s.WashesEnded t) allScreens (State.endUnder o) (.refl s)
    fun t h n _ => h.trans (t.endUnder_ended ho hj n)

/-! ## The sluice run and the header purge ended -/

/-- The sluice run, if there is one, ended with its release of the results. -/
def State.sluiceOff (s : State) : State := if s.swc.sluicing then s.endSluice else s

/-- The header purge, if there is one, ended. -/
def State.purgeOff (s : State) : State := if s.swc.purge = .idle then s else s.idlePurge

theorem State.clearHeader_eq (s : State) (o : WashOutcome) :
    s.clearHeader o = (s.endAll o).sluiceOff.purgeOff.publishHeld := by
  have washes : allScreens.foldl (State.endUnder o) s = s.endAll o := rfl
  unfold State.clearHeader
  generalize ended : List.foldl _ s allScreens = u
  rw [← washes, show List.foldl (State.endUnder o) s allScreens = u from ended]
  rfl

theorem State.fields_of_aside {u : State} {w : Swc} {d : Pdc} (h : u.aside = (w.aside, d)) :
    u.swc.sluicing = w.sluicing ∧ u.swc.sluv = w.sluv ∧ u.swc.queue = w.queue ∧ u.swc.purge = w.purge
      ∧ u.swc.hprg = w.hprg ∧ u.pdc = d := by
  obtain ⟨swc, pdc⟩ := Prod.mk.inj h
  exact ⟨(congrArg Swc.sluicing swc :), (congrArg Swc.sluv swc :), (congrArg Swc.queue swc :),
    (congrArg Swc.purge swc :), (congrArg Swc.hprg swc :), pdc⟩

theorem State.aside_endSluice (s : State) :
    s.endSluice.aside = (({ s.swc with sluicing := false, sluiceMs := 0, sluv := false } : Swc).aside, s.pdc) := by
  unfold State.endSluice
  rw [State.aside_releaseResults]
  rfl

theorem State.sluiceOff_aside (agree : s.swc.sluv = s.swc.sluicing) :
    s.sluiceOff.swc.sluicing = false ∧ s.sluiceOff.swc.sluv = false ∧ s.sluiceOff.swc.queue = s.swc.queue
      ∧ s.sluiceOff.swc.purge = s.swc.purge ∧ s.sluiceOff.swc.hprg = s.swc.hprg ∧ s.sluiceOff.pdc = s.pdc := by
  unfold State.sluiceOff
  split
  · exact State.fields_of_aside s.aside_endSluice
  · next off =>
    rw [Bool.not_eq_true] at off
    exact ⟨off, agree.trans off, rfl, rfl, rfl, rfl⟩

theorem State.sluiceOff_screen (s : State) (n : ScreenId) : s.sluiceOff.screen n =
    if s.swc.sluicing then { s.screen n with
      current := released (s.screen n).current, previous := released (s.screen n).previous }
    else s.screen n := by
  unfold State.sluiceOff
  split
  · unfold State.endSluice
    rw [State.screen_releaseResults]
    rfl
  · rfl

theorem State.purgeOff_aside (agree : s.swc.hprg = decide (s.swc.purge = .active)) :
    s.purgeOff.swc.purge = .idle ∧ s.purgeOff.swc.hprg = false ∧ s.purgeOff.swc.sluicing = s.swc.sluicing
      ∧ s.purgeOff.swc.sluv = s.swc.sluv ∧ s.purgeOff.swc.queue = s.swc.queue ∧ s.purgeOff.pdc = s.pdc
      ∧ ∀ n, s.purgeOff.screen n = s.screen n := by
  unfold State.purgeOff
  split
  · next idle => exact ⟨idle, by rw [agree, idle]; rfl, rfl, rfl, rfl, rfl, fun _ => rfl⟩
  · exact ⟨rfl, rfl, rfl, rfl, rfl, rfl, fun _ => rfl⟩

/-! ## Header held -/

theorem State.publishHeld_swc (s : State) : s.publishHeld.swc = s.swc := by
  unfold State.publishHeld; split <;> rfl

theorem State.publishHeld_pump (s : State) (p : PumpId) : s.publishHeld.pump p = s.pump p := by
  unfold State.publishHeld; split <;> rfl

theorem State.publishHeld_current (h : s.pdc.headerHeld = s.headerInUse) : s.publishHeld = s := if_pos h.symm

theorem State.publishHeld_held (s : State) : s.publishHeld.pdc.headerHeld = s.headerInUse := by
  unfold State.publishHeld
  split
  · next h => exact h.symm
  · rfl

theorem State.headerInUse_of_clear (washing : ∀ n, (s.screen n).state.isWashing = false)
    (sluicing : s.swc.sluicing = false) (purge : s.swc.purge = .idle) : s.headerInUse = false := by
  have none : s.anyWashing = false := by simp [State.anyWashing, washing]
  rw [State.headerInUse, none, sluicing, purge]
  rfl

theorem State.headerInUse_publishHeld (s : State) : s.publishHeld.headerInUse = s.headerInUse := by
  simp only [State.headerInUse, State.anyWashing, State.screen, State.publishHeld_swc]

/-! ## The header clear -/

theorem Screen.clearedBy_of_washing {sc : Screen} {w : WashRecord} {stamp : Nat} (wash : sc.wash = some w)
    (washing : sc.state.isWashing = true) : sc.clearedBy o stamp = sc.ended w o stamp .idle := by
  rw [Screen.clearedBy, if_pos washing, wash]

theorem Screen.clearedBy_of_none {sc : Screen} {stamp : Nat} (wash : sc.wash = none) : sc.clearedBy o stamp = sc := by
  rw [Screen.clearedBy, wash]
  split <;> rfl

/-- A screen whose wash the header clear ends is IDLE, with both its results final. -/
theorem clearHeader_screen_washing (ho : o ≠ .complete) (hj : o ≠ .jammed) {n : ScreenId} {w : WashRecord}
    (wash : (s.screen n).wash = some w) (washing : (s.screen n).state.isWashing = true) :
    (s.endAll o).sluiceOff.screen n = { (s.screen n).ended w o s.stamp .idle with
      current := released ((s.screen n).ended w o s.stamp .idle).current
      previous := released (s.screen n).current } := by
  have ended : (s.endAll o).screen n = (s.screen n).ended w o s.stamp .idle :=
    (s.endAll_screen ho n).trans (Screen.clearedBy_of_washing wash washing)
  have sluicing : (s.endAll o).swc.sluicing = true := by
    refine (s.endAll_ended ho hj).sluice.resolve_left fun same => ?_
    rw [same] at ended
    rw [ended] at wash
    cases wash
  rw [State.sluiceOff_screen, if_pos sluicing, ended]
  rfl

/-- Another screen is as it was, or has its results made final. -/
theorem clearHeader_screen_other (ho : o ≠ .complete) {n : ScreenId} (wash : (s.screen n).wash = none) :
    (s.endAll o).sluiceOff.screen n = s.screen n
      ∨ (s.endAll o).sluiceOff.screen n = { s.screen n with
          current := released (s.screen n).current, previous := released (s.screen n).previous } := by
  rw [State.sluiceOff_screen, State.endAll_screen ho, Screen.clearedBy_of_none wash]
  split
  · exact .inr rfl
  · exact .inl rfl

/-- No wash is under way when the washes have ended. -/
theorem clearHeader_idle (ho : o ≠ .complete) (records : s.RecordsMatch) (n : ScreenId) :
    ((s.endAll o).sluiceOff.screen n).state.isWashing = false := by
  have state : ((s.endAll o).sluiceOff.screen n).state = ((s.screen n).clearedBy o s.stamp).state := by
    rw [State.sluiceOff_screen, State.endAll_screen ho]
    split <;> rfl
  rw [state]
  cases wash : (s.screen n).wash with
  | some w =>
    rw [Screen.clearedBy_of_washing wash (by rw [← records n, wash]; rfl)]
    rfl
  | none => rw [Screen.clearedBy_of_none wash, ← records n, wash]; rfl

theorem headerClear (s : State) (o : WashOutcome) (sound : s.SwcSound) (outputs : s.OutputsAgree) (ho : o ≠ .complete)
    (hj : o ≠ .jammed) :
    (s.clearHeader o).swc.sluicing = false ∧ (s.clearHeader o).swc.sluv = false
      ∧ (s.clearHeader o).swc.purge = .idle ∧ (s.clearHeader o).swc.hprg = false
      ∧ (s.clearHeader o).pdc.headerHeld = false ∧ (s.clearHeader o).swc.queue = s.swc.queue
      ∧ (∀ p, (s.clearHeader o).pump p = s.pump p)
      ∧ ∀ n, (s.clearHeader o).screen n = (s.endAll o).sluiceOff.screen n := by
  obtain ⟨-, -, sluv, hprg⟩ := outputs
  have ended := s.endAll_ended ho hj
  obtain ⟨sluicing, sluv, queue, purge, hprg', pdc⟩ := State.sluiceOff_aside (ended.sluv sluv)
  obtain ⟨purge', hprg, sluicing', sluv', queue', pdc', screens⟩ :=
    State.purgeOff_aside (s := (s.endAll o).sluiceOff) (by rw [hprg', purge, ended.hprg, ended.purge, hprg])
  have held : (s.endAll o).sluiceOff.purgeOff.headerInUse = false :=
    State.headerInUse_of_clear (fun n => by rw [screens n]; exact clearHeader_idle ho sound.records n)
      (sluicing'.trans sluicing) purge'
  rw [State.clearHeader_eq]
  simp only [State.publishHeld_held, State.publishHeld_pump, State.screen, State.publishHeld_swc]
  refine ⟨sluicing'.trans sluicing, sluv'.trans sluv, purge', hprg, held, (queue'.trans queue).trans ended.queue,
    fun p => ?_, screens⟩
  rw [State.pump, pdc', pdc, ended.pdc]
  rfl

/-- The header clear publishes header held. -/
theorem State.clearHeader_current (s : State) (o : WashOutcome) :
    (s.clearHeader o).pdc.headerHeld = (s.clearHeader o).headerInUse := by
  rw [State.clearHeader_eq, State.publishHeld_held, State.headerInUse_publishHeld]

/-! ## Continuous washes let to finish (R104) -/

/-- A continuous wash in WASHING goes on to FINISHING. -/
def Screen.lastPass (sc : Screen) : Screen :=
  if sc.state = .washing ∧ ∃ w, sc.wash = some w ∧ w.passes = 0 then
    { sc with state := .finishing, drive := true, spray := true }
  else sc

/-- The step of `finishContinuous`, for one screen. -/
def State.finishOne (s : State) (n : ScreenId) : State :=
  if (s.screen n).state = .washing ∧ ∃ w, (s.screen n).wash = some w ∧ w.passes = 0 then s.enterScreen n .finishing else s

theorem State.finishContinuous_eq (s : State) : s.finishContinuous = allScreens.foldl State.finishOne s := by
  unfold State.finishContinuous
  congr 1
  funext t n
  unfold State.finishOne
  split
  · next w state wash => simp [state, wash]
  · next other =>
    refine (if_neg ?_).symm
    rintro ⟨state, w, wash, -⟩
    exact other w state wash

theorem State.finishOne_screen (s : State) (n m : ScreenId) :
    (s.finishOne n).screen m = if n = m then (s.screen m).lastPass else s.screen m := by
  unfold State.finishOne Screen.lastPass
  split
  · next h =>
    rw [State.screen_enterScreen]
    split
    · next same => subst same; rw [if_pos h]; rfl
    · rfl
  · next h =>
    split
    · next same => subst same; rw [if_neg h]
    · rfl

theorem State.finishContinuous_screen (s : State) (n : ScreenId) : s.finishContinuous.screen n = (s.screen n).lastPass := by
  rw [State.finishContinuous_eq, show allScreens = List.finRange 6 by decide,
    foldl_each State.screen State.finishOne Screen.lastPass State.finishOne_screen _ (List.nodup_finRange 6),
    if_pos (List.mem_finRange n)]

/-- Only the screens change. -/
theorem State.finishContinuous_frame (s : State) :
    s.finishContinuous = { s with swc := { s.swc with screens := s.finishContinuous.swc.screens } } := by
  rw [State.finishContinuous_eq]
  refine List.foldlRecOn (motive := fun t : State => t = { s with swc := { s.swc with screens := t.swc.screens } })
    allScreens State.finishOne rfl fun t h n _ => ?_
  unfold State.finishOne
  split
  · rw [h]; rfl
  · exact h

/-! ## What a publication makes the readers do -/

section Publication
variable {old : Condition}

theorem State.readersAct_plain (h : s.twu.condition.cap ≠ some 0 ∨ old.cap = some 0) :
    s.readersAct old = (s.pdcActs old).swcActs old :=
  if_neg fun ⟨zero, before⟩ => h.elim (absurd zero) before

/-- A publication that changes neither the mode nor the cap acts on nothing. -/
theorem State.readersAct_same (mode : s.twu.condition.mode = old.mode) (cap : s.twu.condition.cap = old.cap) :
    s.readersAct old = s := by
  have first : s.pdcActs old = s := if_pos cap
  rw [State.readersAct_plain (by rw [cap]; exact (em _).symm), first]
  exact if_pos ⟨mode, cap⟩

/-- The cap not becoming 0, a change of the cap makes a duty evaluation. -/
theorem State.pdcActs_plain (h : s.twu.condition.cap ≠ some 0 ∨ old.cap = some 0) :
    s.pdcActs old = if s.twu.condition.cap = old.cap then s else s.evaluationFollows := by
  unfold State.pdcActs
  dsimp only
  split
  · rfl
  · next changed => rw [if_neg fun zero => h.elim (absurd zero) fun before => changed (zero.trans before.symm)]

theorem State.swcActs_changed (h : s.twu.condition.mode ≠ old.mode ∨ s.twu.condition.cap ≠ old.cap) :
    s.swcActs old = ((s.modeActs old).capActs old).reevaluate :=
  if_neg fun ⟨mode, cap⟩ => h.elim (absurd mode) (absurd cap)

theorem State.modeActs_none (h : s.twu.condition.mode = old.mode ∨ s.twu.condition.mode = .normal) :
    s.modeActs old = s := by
  unfold State.modeActs
  split
  · rfl
  · next changed => rw [h.resolve_left changed]

theorem State.modeActs_storm (changed : s.twu.condition.mode ≠ old.mode) (storm : s.twu.condition.mode = .storm) :
    s.modeActs old = s.evaluateTriggers := by
  unfold State.modeActs
  rw [if_neg changed, storm]

theorem State.modeActs_hold (changed : s.twu.condition.mode ≠ old.mode) (hold : s.twu.condition.mode = .hold) :
    s.modeActs old = s.finishContinuous := by
  unfold State.modeActs
  rw [if_neg changed, hold]

theorem State.capActs_eq (s : State) (old : Condition) : s.capActs old =
    if old.cap = some 0 ∧ s.twu.condition.cap ≠ some 0 then s.activatePurge.publishHeld else s := by
  unfold State.capActs
  simp only [Bool.and_eq_true, decide_eq_true_eq]

/-- With the cap at 0 the arbiter grants nothing (R110). -/
theorem State.reevaluate_capZero (zero : s.twu.condition.cap = some 0) (held : s.pdc.headerHeld = s.headerInUse) :
    s.reevaluate = s := by
  have none : s.tryGrant = s := if_neg (by simp [State.mayGrantHeader, zero])
  rw [State.reevaluate, none, none, State.publishHeld_current held]

/-- The cap becoming 0 with the mode kept: the header clear and the duty evaluation, whichever reader is first. -/
theorem State.readersAct_capZero (mode : s.twu.condition.mode = old.mode) (zero : s.twu.condition.cap = some 0)
    (before : old.cap ≠ some 0) (held : s.pdc.headerHeld = s.headerInUse) :
    s.readersAct old = (s.drawn.clearHeader .abortedByCondition).evaluationFollows := by
  have changed : s.twu.condition.cap ≠ old.cap := fun same => before (same ▸ zero)
  have pdc : s.drawn.pdcActs old = (s.drawn.clearHeader .abortedByCondition).evaluationFollows := by
    unfold State.pdcActs
    exact (if_neg changed).trans (congrArg State.evaluationFollows (if_pos zero))
  -- The SWC's own part: the mode is kept and no cap is raised, so the arbiter alone re-evaluates, and grants nothing.
  have swc (u : State) (twu : u.twu = s.twu) (current : u.pdc.headerHeld = u.headerInUse) : u.swcActs old = u := by
    rw [State.swcActs_changed (.inr (by rw [twu]; exact changed)), State.modeActs_none (.inl (by rw [twu]; exact mode)),
      State.capActs_eq, if_neg (fun h => before h.1), State.reevaluate_capZero (by rw [twu]; exact zero) current]
  have twu : (s.drawn.clearHeader .abortedByCondition).twu = s.twu :=
    (s.drawn.clearHeader_work .abortedByCondition fun _ => False).twu
  have current := s.drawn.clearHeader_current .abortedByCondition
  rw [State.readersAct, if_pos ⟨zero, before⟩, pdc, swc s.drawn rfl held, pdc]
  generalize s.drawn.clearHeader .abortedByCondition = w at twu current ⊢
  rw [swc w.evaluationFollows twu current, ite_self]

/-- The cap not becoming 0, the PDC has its duty evaluation, then the SWC acts on the mode and on the cap, and the arbiter
re-evaluates. -/
theorem State.readersAct_acts (changed : s.twu.condition.mode ≠ old.mode ∨ s.twu.condition.cap ≠ old.cap)
    (kind : s.twu.condition.cap ≠ some 0 ∨ old.cap = some 0) :
    ∃ a b c : State, s.readersAct old = c.reevaluate
      ∧ a = (if s.twu.condition.cap = old.cap then s else s.evaluationFollows)
      ∧ (s.twu.condition.mode = old.mode ∨ s.twu.condition.mode = .normal → b = a)
      ∧ (s.twu.condition.mode ≠ old.mode → s.twu.condition.mode = .storm → b = a.evaluateTriggers)
      ∧ (s.twu.condition.mode ≠ old.mode → s.twu.condition.mode = .hold →
          b = { a with swc := { a.swc with screens := b.swc.screens } } ∧ ∀ n, b.screen n = (s.screen n).lastPass)
      ∧ c = (if old.cap = some 0 ∧ s.twu.condition.cap ≠ some 0 then b.activatePurge.publishHeld else b) := by
  obtain ⟨a, ha⟩ : ∃ a, a = (if s.twu.condition.cap = old.cap then s else s.evaluationFollows) := ⟨_, rfl⟩
  have twu : a.twu = s.twu := by rw [ha]; split <;> rfl
  have screens (n : ScreenId) : a.screen n = s.screen n := by rw [ha]; split <;> rfl
  have acted : (a.modeActs old).twu = s.twu := (a.modeActs_work old fun _ => False).twu.trans twu
  refine ⟨a, a.modeActs old, (a.modeActs old).capActs old, ?_, ha, fun none => ?_, fun changed storm => ?_,
    fun changed hold => ?_, ?_⟩
  · rw [State.readersAct_plain kind, State.pdcActs_plain kind, ← ha, State.swcActs_changed (by rw [twu]; exact changed)]
  · exact State.modeActs_none (by rw [twu]; exact none)
  · exact State.modeActs_storm (by rw [twu]; exact changed) (by rw [twu]; exact storm)
  · rw [State.modeActs_hold (by rw [twu]; exact changed) (by rw [twu]; exact hold)]
    exact ⟨a.finishContinuous_frame, fun n => by rw [State.finishContinuous_screen, screens]⟩
  · rw [State.capActs_eq, acted]

end Publication

/-- Settles O35: the clear by its three ends, wash, sluice run and purge, and the publication by what of it changes. -/
theorem headerClearEndsEverything : Obligations.HeaderClearEndsEverything := by
  refine ⟨fun s o sound outputs ho hj => ?_, ?_⟩
  · obtain ⟨sluicing, sluv, purge, hprg, held, queue, pumps, screens⟩ := headerClear s o sound outputs ho hj
    have work := s.clearHeader_work o fun _ => False
    refine ⟨sluicing, sluv, purge, hprg, held, queue, fun n w wash => ?_, fun n wash => ?_, pumps, work.twu, work.core.lau,
      work.link⟩
    · rw [screens]
      exact clearHeader_screen_washing ho hj wash (by rw [← sound.records n, wash]; rfl)
    · rw [screens]
      exact clearHeader_screen_other ho wash
  · rintro s v old new rfl fresh rfl rfl
    have recompute := State.recompute_new fresh
    refine ⟨fun mode cap => recompute.trans (State.readersAct_same mode cap), fun changed kind => ?_,
      fun mode zero before _ current => ?_⟩
    · obtain ⟨a, b, c, acts, rest⟩ := State.readersAct_acts (s := s.published) changed kind
      exact ⟨a, b, c, recompute.trans acts, rest⟩
    · have acts : s.published.readersAct s.twu.condition
          = (s.published.drawn.clearHeader .abortedByCondition).evaluationFollows :=
        State.readersAct_capZero mode zero before current.held
      exact ⟨s.published.drawn.clearHeader .abortedByCondition, rfl, recompute.trans acts⟩

end Sys2Proof.Machine
end

section
/-! PROOFS. Records of a wash and the states of screens: for O6 and O8. -/

namespace Sys2Proof.Machine

variable {s t u : State}

/-! ## Which screens are washing -/

theorem anyWashing_eq_false : s.anyWashing = false ↔ ∀ n, (s.screen n).state.isWashing = false := by
  simp [State.anyWashing, mem_allScreens]

/-- With a screen that may be washing anew, one more is washing at most. -/
theorem washingCount_le_succ (n : ScreenId)
    (h : ∀ m, m ≠ n → (t.screen m).state.isWashing = true → (s.screen m).state.isWashing = true) :
    t.washingCount ≤ s.washingCount + 1 := by
  have nodup : (allScreens.filter fun m => (t.screen m).state.isWashing).Nodup := (by decide : allScreens.Nodup).filter _
  refine (List.subperm_of_subset nodup (l₂ := n :: allScreens.filter fun m => (s.screen m).state.isWashing)
    fun m hm => ?_).length_le
  by_cases e : m = n
  · simp [e]
  · exact List.mem_cons_of_mem _ (List.mem_filter.2 ⟨mem_allScreens m, h m e (List.mem_filter.1 hm).2⟩)

theorem washingCount_le (h : ∀ m, (t.screen m).state.isWashing = true → (s.screen m).state.isWashing = true) :
    t.washingCount ≤ s.washingCount := by
  have nodup : (allScreens.filter fun m => (t.screen m).state.isWashing).Nodup := (by decide : allScreens.Nodup).filter _
  exact (List.subperm_of_subset nodup fun m hm =>
    List.mem_filter.2 ⟨mem_allScreens m, h m (List.mem_filter.1 hm).2⟩).length_le

/-! ## When the washes stay sound -/

/-- A screen at rest is neither queued nor washing. -/
def ScreenState.atRest : ScreenState → Bool
  | .outOfService | .idle | .jammed => true
  | .queued | .washing | .finishing => false

theorem ScreenState.atRest_iff {st : ScreenState} : st.atRest = true ↔ st ≠ .queued ∧ st.isWashing = false := by
  cases st <;> decide

/-- What the soundness of the washes reads of a screen. -/
def Screen.washView (sc : Screen) : ScreenState × Bool × Bool := (sc.state, sc.wash.isSome, sc.staged.isSome)

/-- A screen holds a wash record exactly while it is washing, and a staged wash only then. -/
def Screen.RecordFits (sc : Screen) : Prop :=
  sc.wash.isSome = sc.state.isWashing ∧ (sc.staged.isSome = true → sc.state.isWashing = true)

theorem State.SwcSound.recordFits (h : s.SwcSound) (n : ScreenId) : (s.screen n).RecordFits :=
  ⟨h.records n, h.staged n⟩

/-- Outside work a screen is at rest. -/
theorem State.SwcSound.running (h : s.SwcSound) {n : ScreenId} (moving : (s.screen n).state.atRest = false) :
    s.phase = .running := by
  by_contra still
  have rest := ScreenState.atRest_iff.2 (h.clear still n)
  rw [moving] at rest
  cases rest

theorem State.SwcSound.not_queued (h : s.SwcSound) {n : ScreenId} (hn : (s.screen n).state ≠ .queued) :
    ∀ e ∈ s.swc.queue, e.screen ≠ n :=
  fun _ he en => hn ((h.queue.2 n).1 (en ▸ List.mem_map_of_mem he))

/-- A wash record belongs to a washing screen. -/
theorem State.SwcSound.washing (h : s.SwcSound) {n : ScreenId} {w : WashRecord} (wash : (s.screen n).wash = some w) :
    (s.screen n).state.isWashing = true := by
  rw [← h.records n, wash]; rfl

theorem ScreenState.not_queued_of_washing {st : ScreenState} (h : st.isWashing = true) : st ≠ .queued := by
  rintro rfl; cases h

theorem ScreenState.moving_of_washing {st : ScreenState} (h : st.isWashing = true) : st.atRest = false := by
  cases st <;> simp_all [ScreenState.atRest, ScreenState.isWashing]

/-- One screen moves, with its entry of the wash queue: it starts to wash only where the header has room (R103), and it is
queued or washing only in a running part. -/
theorem State.SwcSound.move (h : s.SwcSound) (n : ScreenId) (phase : t.phase = s.phase)
    (others : ∀ m, m ≠ n → (t.screen m).washView = (s.screen m).washView)
    (purge : t.swc.purge = .active → s.swc.purge = .active) (own : (t.screen n).RecordFits)
    (header : (t.screen n).state.isWashing = true →
      (s.screen n).state.isWashing = true ∨ s.washingCount < 2 ∧ s.swc.purge = .idle)
    (work : (t.screen n).state.atRest = true ∨ s.phase = .running)
    (distinct : (t.swc.queue.map QueueEntry.screen).Nodup)
    (entries : ∀ m, m ∈ t.swc.queue.map QueueEntry.screen ↔
      if m = n then (t.screen n).state = .queued else m ∈ s.swc.queue.map QueueEntry.screen) : t.SwcSound := by
  have state (m : ScreenId) (e : m ≠ n) : (t.screen m).state = (s.screen m).state := congrArg Prod.fst (others m e)
  have wash (m : ScreenId) (e : m ≠ n) : (t.screen m).wash.isSome = (s.screen m).wash.isSome :=
    congrArg (fun x : ScreenState × Bool × Bool => x.2.1) (others m e)
  have staged (m : ScreenId) (e : m ≠ n) : (t.screen m).staged.isSome = (s.screen m).staged.isSome :=
    congrArg (fun x : ScreenState × Bool × Bool => x.2.2) (others m e)
  have kept (m : ScreenId) (e : m ≠ n) (hm : (t.screen m).state.isWashing = true) :
      (s.screen m).state.isWashing = true := state m e ▸ hm
  refine ⟨⟨?_, fun active => ?_⟩, fun m => ?_, fun m hm => ?_, ⟨distinct, fun m => ?_⟩, fun still m => ?_⟩
  · by_cases begun : (t.screen n).state.isWashing = true → (s.screen n).state.isWashing = true
    · refine (washingCount_le fun m hm => ?_).trans h.header.1
      by_cases e : m = n
      · subst e; exact begun hm
      · exact kept m e hm
    · push Not at begun
      obtain ⟨now, before⟩ := begun
      obtain ⟨room, -⟩ := (header now).resolve_left before
      have := washingCount_le_succ (s := s) (t := t) n kept
      omega
  · have none := anyWashing_eq_false.1 (h.header.2 (purge active))
    refine anyWashing_eq_false.2 fun m => Bool.eq_false_iff.2 fun hm => ?_
    by_cases e : m = n
    · subst e
      rcases header hm with before | ⟨-, idle⟩
      · rw [none m] at before; cases before
      · rw [purge active] at idle; cases idle
    · have := kept m e hm
      rw [none m] at this; cases this
  · by_cases e : m = n
    · subst e; exact own.1
    · rw [wash m e, state m e]; exact h.records m
  · by_cases e : m = n
    · subst e; exact own.2 hm
    · rw [staged m e] at hm; rw [state m e]; exact h.staged m hm
  · rw [entries m]
    split
    · next e => rw [e]
    · next e => rw [state m e]; exact h.queue.2 m
  · by_cases e : m = n
    · subst e
      exact ScreenState.atRest_iff.1 (work.resolve_right (phase ▸ still))
    · rw [state m e]; exact h.clear (phase ▸ still) m

/-- No screen moves. -/
theorem State.SwcSound.same (h : s.SwcSound) (phase : t.phase = s.phase)
    (screens : ∀ m, (t.screen m).washView = (s.screen m).washView)
    (purge : t.swc.purge = .active → s.anyWashing = false)
    (queue : t.swc.queue.map QueueEntry.screen = s.swc.queue.map QueueEntry.screen) : t.SwcSound := by
  have state (m : ScreenId) : (t.screen m).state = (s.screen m).state := congrArg Prod.fst (screens m)
  refine ⟨⟨(washingCount_le fun m hm => state m ▸ hm).trans h.header.1, fun active => ?_⟩, fun m => ?_, fun m hm => ?_,
    ⟨by rw [queue]; exact h.queue.1, fun m => ?_⟩, fun still m => ?_⟩
  · exact anyWashing_eq_false.2 fun m => by rw [state m]; exact anyWashing_eq_false.1 (purge active) m
  · have wash : (t.screen m).wash.isSome = (s.screen m).wash.isSome :=
      congrArg (fun x : ScreenState × Bool × Bool => x.2.1) (screens m)
    rw [wash, state m]; exact h.records m
  · have staged : (t.screen m).staged.isSome = (s.screen m).staged.isSome :=
      congrArg (fun x : ScreenState × Bool × Bool => x.2.2) (screens m)
    rw [staged] at hm
    rw [state m]; exact h.staged m hm
  · rw [queue, state m]; exact h.queue.2 m
  · rw [state m]; exact h.clear (phase ▸ still) m

theorem State.SwcSound.congr (h : s.SwcSound) (phase : t.phase = s.phase) (swc : t.swc = s.swc) : t.SwcSound := by
  refine h.same phase (fun m => by rw [State.screen, swc]; rfl) (fun active => h.header.2 (swc ▸ active)) (by rw [swc])

/-- One screen moves that has no entry in the wash queue, before or after. -/
theorem State.SwcSound.moveOff (h : s.SwcSound) (n : ScreenId) (phase : t.phase = s.phase)
    (others : ∀ m, m ≠ n → (t.screen m).washView = (s.screen m).washView)
    (purge : t.swc.purge = .active → s.swc.purge = .active) (own : (t.screen n).RecordFits)
    (header : (t.screen n).state.isWashing = true → (s.screen n).state.isWashing = true)
    (queue : t.swc.queue = s.swc.queue) (before : (s.screen n).state ≠ .queued)
    (after : (t.screen n).state ≠ .queued) : t.SwcSound := by
  have absent : n ∉ s.swc.queue.map QueueEntry.screen := fun hn => before ((h.queue.2 n).1 hn)
  refine h.move n phase others purge own (fun now => .inl (header now)) ?_ (by rw [queue]; exact h.queue.1) fun m => ?_
  · by_cases now : (t.screen n).state.isWashing = true
    · exact .inr (h.running (ScreenState.moving_of_washing (header now)))
    · exact .inl (ScreenState.atRest_iff.2 ⟨after, by simpa using now⟩)
  · rw [queue]
    split
    · next e => subst e; exact iff_of_false absent after
    · rfl

end Sys2Proof.Machine
end

section
/-! PROOFS. The outputs and the washes through the other blocks and the header arbiter: for O6 and O8. -/

namespace Sys2Proof.Machine

variable {s t u : State} {A : Prop}

/-! ## The relation -/

/-- The header arbiter may make no grant: the mode is HOLD, or HDOK is false (R103). -/
def State.GrantsBarred (s : State) : Prop := s.twu.condition.mode = .hold ∨ s.swc.hdok = false

/-- The outputs agree with the states in `t` if they do in `s`, and the washes are sound in `t` if they are in `s`; work that
is the arbiter's alone (`A`) moves no screen while its grants are barred. -/
structure State.KeepsWashes (A : Prop) (s t : State) : Prop where
  phase : t.phase = s.phase
  outputs : s.OutputsAgree → t.OutputsAgree
  washes : s.SwcSound → t.SwcSound
  barred : A → s.GrantsBarred → t.GrantsBarred ∧ t.swc.queue = s.swc.queue ∧ t.swc.screens = s.swc.screens

/-- What the outputs, the washes and the arbiter's grants rest on. -/
def State.washBase (s : State) : Phase × Swc × Vector Pump 8 × Condition :=
  (s.phase, s.swc, s.pdc.pumps, s.twu.condition)

/-- A pump's PRUN is on exactly while it is commanded (R118). -/
def Pump.RunAgrees (q : Pump) : Prop := q.run = q.state.commanded

/-- SDRV and SSPR are on exactly while the screen is washing (R67). -/
def Screen.OutputsAgree (sc : Screen) : Prop := sc.drive = sc.state.isWashing ∧ sc.spray = sc.state.isWashing

theorem State.OutputsAgree.onScreen (h : s.OutputsAgree) (n : ScreenId) {f : Screen → Screen}
    (hf : (s.screen n).OutputsAgree → (f (s.screen n)).OutputsAgree) : (s.onScreen n f).OutputsAgree := by
  obtain ⟨screens, pumps, sluv, hprg⟩ := h
  refine ⟨fun m => ?_, pumps, sluv, hprg⟩
  rw [State.screen_onScreen]
  split
  · next e => subst e; exact hf (screens n)
  · exact screens m

theorem State.OutputsAgree.enterScreen (h : s.OutputsAgree) (n : ScreenId) (st : ScreenState) :
    (s.enterScreen n st).OutputsAgree := h.onScreen n fun _ => ⟨rfl, rfl⟩

theorem State.OutputsAgree.grantHeader (h : s.OutputsAgree) (e : QueueEntry) : (s.grantHeader e).OutputsAgree := by
  have left : (s.leaveQueue e.screen).OutputsAgree := h
  exact (left.onScreen e.screen (f := fun sc => { sc with
    wash := some { passes := e.passes, cls := e.cls, mark := e.mark, counter := startCounter e.passes } })
    id).enterScreen e.screen .washing

namespace State.KeepsWashes

theorem refl (A : Prop) (s : State) : s.KeepsWashes A s := ⟨rfl, id, id, fun _ b => ⟨b, rfl, rfl⟩⟩

theorem trans (h : s.KeepsWashes A t) (k : t.KeepsWashes A u) : s.KeepsWashes A u :=
  ⟨k.phase.trans h.phase, k.outputs ∘ h.outputs, k.washes ∘ h.washes, fun a b => by
    obtain ⟨b, queue, screens⟩ := h.barred a b
    obtain ⟨b, queue', screens'⟩ := k.barred a b
    exact ⟨b, queue'.trans queue, screens'.trans screens⟩⟩

theorem ite {c : Prop} [Decidable c] {a b : State} (h : s.KeepsWashes A a) (k : s.KeepsWashes A b) :
    s.KeepsWashes A (if c then a else b) := by
  split
  · exact h
  · exact k

/-- Further work on a condition. -/
theorem when {c : Prop} [Decidable c] (h : s.KeepsWashes A t) (k : t.KeepsWashes A u) :
    s.KeepsWashes A (if c then u else t) := ite (h.trans k) h

theorem foldl {α : Type} {f : State → α → State} (h : s.KeepsWashes A t)
    (hf : ∀ (t : State) a, t.KeepsWashes A (f t a)) (l : List α) : s.KeepsWashes A (l.foldl f t) :=
  List.foldlRecOn (motive := s.KeepsWashes A) l f h fun _ k a _ => k.trans (hf _ a)

/-! ## Work outside the SWC -/

/-- A change of neither the phase, the SWC, the pumps nor the Intake Condition. -/
theorem same (h : s.KeepsWashes A t) (kept : u.washBase = t.washBase) : s.KeepsWashes A u := by
  simp only [State.washBase, Prod.mk.injEq] at kept
  obtain ⟨phase, swc, pumps, condition⟩ := kept
  refine h.trans ⟨phase, fun k => ?_, fun k => k.congr phase swc, fun _ b => ?_⟩
  · unfold State.OutputsAgree at *
    simp only [State.screen, State.pump, swc, pumps]
    exact k
  · unfold State.GrantsBarred at *
    rw [condition, swc]
    exact ⟨b, rfl, rfl⟩

/-- A change of the TWU. -/
theorem onTwu (h : s.KeepsWashes False t) {f : Twu → Twu} : s.KeepsWashes False (t.onTwu f) :=
  h.trans ⟨rfl, id, fun k => k.congr rfl rfl, nofun⟩

theorem onBand (h : s.KeepsWashes False t) {b : BandId} {f : Band → Band} : s.KeepsWashes False (t.onBand b f) := h.onTwu

variable (h : s.KeepsWashes A t)
include h

theorem onLau {f : Lau → Lau} : s.KeepsWashes A (t.onLau f) := h.same (by rfl)
theorem onSlp {f : Slp → Slp} : s.KeepsWashes A (t.onSlp f) := h.same (by rfl)
theorem onChannel {c : ChannelId} {f : Channel → Channel} : s.KeepsWashes A (t.onChannel c f) := h.same (by rfl)
theorem onScope {k : ScopeId} {f : Scope → Scope} : s.KeepsWashes A (t.onScope k f) := h.same (by rfl)
theorem drawn : s.KeepsWashes A t.drawn := h.same (by rfl)
theorem evaluationFollows : s.KeepsWashes A t.evaluationFollows := h.same (by rfl)
theorem notify {c : NoticeClass} {k : NoticeKind} {a g : Nat} {v w : Int} : s.KeepsWashes A (t.notify c k a g v w) :=
  h.same (by rfl)
theorem complete {m : Option Nat} {r d : Nat} : s.KeepsWashes A (t.complete m r d) := h.same (by simp [State.washBase])
theorem reply {c : Code} {d : List Byte} : s.KeepsWashes A (t.reply c d) := h.same (by simp [State.washBase])

/-- A change of the PDC beside its pumps. -/
theorem onPdc {f : Pdc → Pdc} (pumps : (f t.pdc).pumps = t.pdc.pumps) : s.KeepsWashes A (t.onPdc f) :=
  h.same (by simp [State.washBase, pumps])

theorem onPump {p : PumpId} {f : Pump → Pump} (hf : ∀ q : Pump, q.RunAgrees → (f q).RunAgrees) :
    s.KeepsWashes A (t.onPump p f) := by
  refine h.trans ⟨rfl, fun ⟨screens, pumps, sluv, hprg⟩ => ⟨screens, fun q => ?_, sluv, hprg⟩,
    fun k => k.congr rfl rfl, fun _ b => ⟨b, rfl, rfl⟩⟩
  rw [State.pump_onPump]
  split
  · exact hf _ (pumps q)
  · exact pumps q

/-! ## The request buffer and the line -/

theorem arrive {i : Instr} : s.KeepsWashes A (t.arrive i) := by
  obtain ⟨phase, -, -, twu, swc, pdc, -, -⟩ := arrive_blocks t i
  exact h.same (by rw [State.washBase, phase, twu, swc, pdc]; rfl)

theorem markLinkError : s.KeepsWashes A t.markLinkError := h.onSlp
theorem hunt : s.KeepsWashes A t.hunt := h.onSlp
theorem heard : s.KeepsWashes A t.heard := ite h.onSlp h
theorem hold {r : Request} : s.KeepsWashes A (t.hold r) := ite h.onSlp h.markLinkError
theorem goodFrame {f : Frame} : s.KeepsWashes A (t.goodFrame f) := ite h.heard.markLinkError h.heard.hold
theorem formBatch : s.KeepsWashes A t.formBatch := h.same (by rfl)
theorem transmitNext {b : Bool} : s.KeepsWashes A (t.transmitNext b) := by
  unfold State.transmitNext
  split
  · exact h.onSlp
  · exact ite h.formBatch h

/-! ## The header arbiter -/

theorem publishHeld : s.KeepsWashes A t.publishHeld := ite h (h.onPdc (by rfl))

/-- A change of the SWC beside its screens, its wash queue, the header purge and the outputs. -/
theorem onSwc {f : Swc → Swc}
    (kept : ((f t.swc).screens, (f t.swc).queue, (f t.swc).hdok) = (t.swc.screens, t.swc.queue, t.swc.hdok))
    (header : (f t.swc).header = t.swc.header) : s.KeepsWashes A (t.onSwc f) := by
  simp only [Swc.header, Prod.mk.injEq] at kept header
  obtain ⟨screens, queue, hdok⟩ := kept
  obtain ⟨sluicing, sluv, purge, hprg⟩ := header
  have screen (n : ScreenId) : (t.onSwc f).screen n = t.screen n := by simp only [State.screen, State.onSwc_swc, screens]
  refine h.trans ⟨rfl, fun ⟨views, pumps, sluv', hprg'⟩ => ⟨fun n => by rw [screen]; exact views n, pumps, ?_, ?_⟩,
    fun k => k.same rfl (fun m => by rw [screen]) (fun active => k.header.2 (purge ▸ active)) (by
      rw [State.onSwc_swc, queue]), fun _ b => ⟨?_, queue, screens⟩⟩
  · rw [State.onSwc_swc, sluv, sluicing]; exact sluv'
  · rw [State.onSwc_swc, hprg, purge]; exact hprg'
  · unfold State.GrantsBarred
    rw [State.onSwc_swc, hdok]; exact b

end State.KeepsWashes

/-- A grant is made to a queued screen while the header has room (R103). -/
theorem State.SwcSound.grantHeader (h : s.SwcSound) {e : QueueEntry} (he : e ∈ s.swc.queue)
    (may : s.mayGrantHeader = true) : (s.grantHeader e).SwcSound := by
  simp only [State.mayGrantHeader, Bool.and_eq_true, decide_eq_true_eq] at may
  obtain ⟨⟨⟨⟨⟨room, idle⟩, -⟩, -⟩, -⟩, -⟩ := may
  have queued : (s.screen e.screen).state = .queued := (h.queue.2 _).1 (List.mem_map_of_mem he)
  have unstaged : (s.screen e.screen).staged.isSome = false := by
    refine Bool.eq_false_iff.2 fun staged => ?_
    have := h.staged _ staged
    rw [queued] at this; cases this
  have own : (s.grantHeader e).screen e.screen = (s.screen e.screen).granted e := by simp
  have queue : (s.grantHeader e).swc.queue = s.swc.queue.filter fun d => d.screen ≠ e.screen := rfl
  refine h.move e.screen rfl (fun m hm => by simp [hm.symm]) id ?_ (fun _ => .inr ⟨room, idle⟩)
    (.inr (h.running (by rw [queued]; rfl))) ?_ fun m => ?_
  · rw [own]; exact ⟨rfl, fun _ => rfl⟩
  · rw [queue]; exact h.queue.1.sublist (List.filter_sublist.map _)
  · rw [queue, own]
    split
    · next same =>
      subst same
      simp [Screen.granted]
    · next other =>
      simp only [List.mem_map, List.mem_filter, decide_eq_true_eq]
      exact ⟨fun ⟨d, ⟨hd, _⟩, hm⟩ => ⟨d, hd, hm⟩, fun ⟨d, hd, hm⟩ => ⟨d, ⟨hd, hm ▸ other⟩, hm⟩⟩

theorem State.tryGrant_barred (h : s.GrantsBarred) : s.tryGrant = s := by
  refine if_neg ?_
  rcases h with hold | hdok
  · simp [State.mayGrantHeader, hold]
  · simp [State.mayGrantHeader, hdok]

namespace State.KeepsWashes

theorem tryGrant (h : s.KeepsWashes A t) : s.KeepsWashes A t.tryGrant := by
  refine h.trans ⟨(t.tryGrant_duty fun _ => False).core.phase, fun k => ?_, fun k => ?_, fun _ b => ?_⟩
  · unfold State.tryGrant
    split
    · split
      · exact k.grantHeader _
      · exact k
    · exact k
  · unfold State.tryGrant
    split
    · next may =>
      split
      · next next => exact k.grantHeader (State.nextWash_mem next).1 may
      · exact k
    · exact k
  · rw [State.tryGrant_barred b]
    exact ⟨b, rfl, rfl⟩

theorem reevaluate (h : s.KeepsWashes A t) : s.KeepsWashes A t.reevaluate := h.tryGrant.tryGrant.publishHeld

theorem publishRunning (h : s.KeepsWashes A t) : s.KeepsWashes A t.publishRunning :=
  ite h (h.onSwc (by rfl) (by rfl)).reevaluate

end State.KeepsWashes

end Sys2Proof.Machine
end

section
/-! PROOFS. A screen that changes its state, and the end of a wash: for O6 and O8. -/

namespace Sys2Proof.Machine

variable {s t u : State}

/-! ## One screen replaced -/

section Replaced
variable {n : ScreenId} {sc : Screen}

theorem queue_of_aside {w v : Swc} (h : w.aside = v.aside) : w.queue = v.queue ∧ w.purge = v.purge :=
  ⟨(congrArg Swc.queue h :), (congrArg Swc.purge h :)⟩

/-- One screen replaced by another that is not queued, nothing else of the SWC being changed. -/
theorem State.SwcSound.replace (h : s.SwcSound) (phase : t.phase = s.phase)
    (screens : ∀ m, t.screen m = if n = m then sc else s.screen m) (aside : t.swc.aside = s.swc.aside)
    (own : sc.RecordFits) (header : sc.state.isWashing = true → (s.screen n).state.isWashing = true)
    (before : (s.screen n).state ≠ .queued) (after : sc.state ≠ .queued) : t.SwcSound := by
  obtain ⟨queue, purge⟩ := queue_of_aside aside
  have now : t.screen n = sc := by rw [screens, if_pos rfl]
  exact h.moveOff n phase (fun m hm => by rw [screens, if_neg hm.symm]) (fun active => purge ▸ active) (now ▸ own)
    (now ▸ header) queue before (now ▸ after)

/-- One screen joins the wash queue in a running part. -/
theorem State.SwcSound.join (h : s.SwcSound) {e : QueueEntry} (he : e.screen = n) (phase : t.phase = s.phase)
    (running : s.phase = .running) (screens : ∀ m, t.screen m = if n = m then sc else s.screen m)
    (aside : t.swc.aside = ({ s.swc with queue := s.swc.queue ++ [e] } : Swc).aside)
    (state : sc.state = .queued) (wash : sc.wash = none) (staged : sc.staged = none)
    (before : (s.screen n).state ≠ .queued) : t.SwcSound := by
  obtain ⟨queue, purge⟩ := queue_of_aside aside
  have now : t.screen n = sc := by rw [screens, if_pos rfl]
  have absent : n ∉ s.swc.queue.map QueueEntry.screen := fun hn => before ((h.queue.2 n).1 hn)
  refine h.move n phase (fun m hm => by rw [screens, if_neg hm.symm]) (fun active => purge ▸ active) ?_ ?_
    (.inr running) ?_ fun m => ?_
  · rw [now, Screen.RecordFits, wash, staged, state]; exact ⟨rfl, nofun⟩
  · rw [now, state]; nofun
  · rw [queue]
    simp only [List.map_append, List.map_cons, List.map_nil, he]
    exact List.nodup_append.2 ⟨h.queue.1, List.nodup_singleton _, fun a ha b hb => by
      obtain rfl := List.mem_singleton.1 hb
      rintro rfl; exact absent ha⟩
  · rw [queue, now, state]
    simp only [List.map_append, List.map_cons, List.map_nil, List.mem_append, List.mem_singleton, he]
    split
    · next same => exact iff_of_true (.inr same) trivial
    · next other => exact or_iff_left other

/-- One screen leaves the wash queue and is at rest. -/
theorem State.SwcSound.leave (h : s.SwcSound) (phase : t.phase = s.phase)
    (screens : ∀ m, t.screen m = if n = m then sc else s.screen m)
    (aside : t.swc.aside = ({ s.swc with queue := s.swc.queue.filter fun e => e.screen ≠ n } : Swc).aside)
    (rest : sc.state.atRest = true) (wash : sc.wash = none) (staged : sc.staged = none) : t.SwcSound := by
  obtain ⟨queue, purge⟩ := queue_of_aside aside
  obtain ⟨unqueued, still⟩ := ScreenState.atRest_iff.1 rest
  have now : t.screen n = sc := by rw [screens, if_pos rfl]
  refine h.move n phase (fun m hm => by rw [screens, if_neg hm.symm]) (fun active => purge ▸ active) ?_ ?_
    (.inl (now ▸ rest)) ?_ fun m => ?_
  · rw [now, Screen.RecordFits, wash, staged, still]; exact ⟨rfl, nofun⟩
  · rw [now, still]; nofun
  · rw [queue]; exact h.queue.1.sublist (List.filter_sublist.map _)
  · rw [queue, now]
    simp only [List.mem_map, List.mem_filter, decide_eq_true_eq]
    split
    · next same => exact iff_of_false (fun ⟨d, ⟨_, hd⟩, hm⟩ => hd (hm.trans same)) unqueued
    · next other => exact ⟨fun ⟨d, ⟨hd, _⟩, hm⟩ => ⟨d, hd, hm⟩, fun ⟨d, hd, hm⟩ => ⟨d, ⟨hd, hm ▸ other⟩, hm⟩⟩

/-- A screen that is neither queued nor washing holds no wash. -/
theorem State.SwcSound.noWash (h : s.SwcSound) (still : (s.screen n).state.isWashing = false) :
    (s.screen n).wash = none ∧ (s.screen n).staged = none := by
  constructor
  · exact Option.isSome_eq_false_iff.1 ((h.records n).trans still) |> Option.isNone_iff_eq_none.1
  · refine Option.not_isSome_iff_eq_none.1 fun staged => ?_
    have := h.staged n staged
    rw [still] at this; cases this

end Replaced

/-! ## The end of a wash by COMPLETE, with a staged wash (R83, R84) -/

theorem screen_joinQueue (s : State) (n m : ScreenId) (c : WashClass) (p : Nat) (k : Option Nat) :
    (s.joinQueue n c p k).screen m =
      if n = m then { s.screen m with state := .queued, drive := false, spray := false } else s.screen m :=
  State.screen_enterScreen _ n m .queued

theorem aside_joinQueue (s : State) (n : ScreenId) (c : WashClass) (p : Nat) (k : Option Nat) :
    (s.joinQueue n c p k).aside = (({ s.swc with queue := s.swc.queue ++ [⟨n, c, p, k, 0⟩] } : Swc).aside, s.pdc) := rfl

section Complete
variable {n : ScreenId} {g : Staged}

theorem successionAllowed_enterResult (s : State) (n : ScreenId) (r : WashResult) :
    (s.enterResult n r).successionAllowed = s.successionAllowed := by
  simp [State.successionAllowed, State.enterResult, State.onScreen]

theorem staged_enterResult (s : State) (n : ScreenId) (r : WashResult) :
    ((s.enterResult n r).screen n).staged = (s.screen n).staged := by
  rw [State.screen_enterResult, if_pos rfl]

theorem aside_enterResult (s : State) (n : ScreenId) (r : WashResult) : (s.enterResult n r).aside = s.aside :=
  (State.aside_onScreen n _ _).trans (State.aside_announcePending n _ s)

/-- The staged wash succeeds the one that ends, on a screen that goes on washing (R83). -/
theorem concludeWash_succeeded (s : State) (w : WashRecord) (next : ScreenState)
    (staged : (s.screen n).staged = some g) (allowed : s.successionAllowed = true) :
    (∀ m, (s.concludeWash n w .complete next).screen m =
        if n = m then { (s.screen n).ended w .complete s.stamp .washing with
          drive := true, spray := true
          wash := some { passes := g.passes, cls := g.cls, mark := g.mark, counter := g.passes - 1, guard := some 0 } }
        else s.screen m)
      ∧ (s.concludeWash n w .complete next).aside = s.aside := by
  have entered (m : ScreenId) := s.screen_enterResult n m (resultOf w .complete s.stamp)
  have aside := aside_enterResult s n (resultOf w .complete s.stamp)
  unfold State.concludeWash State.follow
  dsimp only
  rw [staged_enterResult, staged]
  dsimp only
  rw [successionAllowed_enterResult, if_pos allowed]
  refine ⟨fun m => ?_, aside⟩
  rw [State.screen_onScreen, State.screen_enterScreen, State.screen_onScreen, entered]
  split
  · next same => subst same; rfl
  · rfl

/-- With succession barred the staged wash joins the wash queue (R84). -/
theorem concludeWash_requeued (s : State) (w : WashRecord) (next : ScreenState)
    (staged : (s.screen n).staged = some g) (barred : s.successionAllowed = false) :
    (∀ m, (s.concludeWash n w .complete next).screen m =
        if n = m then (s.screen n).ended w .complete s.stamp .queued else s.screen m)
      ∧ (s.concludeWash n w .complete next).aside =
        (({ s.swc with queue := s.swc.queue ++ [⟨n, g.cls, g.passes, g.mark, 0⟩] } : Swc).aside, s.pdc) := by
  have entered (m : ScreenId) := s.screen_enterResult n m (resultOf w .complete s.stamp)
  have aside := aside_enterResult s n (resultOf w .complete s.stamp)
  unfold State.concludeWash State.follow
  dsimp only
  rw [staged_enterResult, staged]
  dsimp only
  rw [successionAllowed_enterResult, if_neg (by simp [barred])]
  refine ⟨fun m => ?_, ?_⟩
  · rw [State.screen_onScreen, screen_joinQueue, State.screen_onScreen, entered]
    split
    · next same => subst same; rfl
    · rfl
  · exact (congrArg (fun x : Swc × Pdc =>
      (({ x.1 with queue := x.1.queue ++ [⟨n, g.cls, g.passes, g.mark, 0⟩] } : Swc), x.2)) aside :)

/-- Without a staged wash to follow the screen enters its next state (R76, R84, R85). -/
theorem concludeWash_ended (s : State) (w : WashRecord) {o : WashOutcome} {next : ScreenState}
    (still : next.isWashing = false) (alone : o ≠ .complete ∨ (s.screen n).staged = none) :
    (∀ m, (s.concludeWash n w o next).screen m = if n = m then (s.screen n).ended w o s.stamp next else s.screen m)
      ∧ (s.concludeWash n w o next).aside = s.aside := by
  by_cases ho : o = .complete
  · have staged : (s.screen n).staged = none := alone.resolve_left (absurd ho)
    subst ho
    refine ⟨fun m => ?_, ?_⟩
    · rw [State.screen_concludeWash_complete s n m w next staged]
      split
      · next same => subst same; simp only [Screen.ended, still, staged]; rfl
      · rfl
    · unfold State.concludeWash
      dsimp only
      rw [State.follow_none _ _ ((staged_enterResult s n _).trans staged)]
      exact (State.aside_onScreen n _ _).trans ((State.aside_onScreen n _ _).trans ((State.aside_onScreen n _ _).trans
        (aside_enterResult s n _)))
  · refine ⟨fun m => ?_, State.aside_concludeWash s n w next ho⟩
    rw [State.screen_concludeWash_abort s n m w next ho]
    split
    · next same => subst same; rw [still]; rfl
    · rfl

/-- All that the end of a wash makes of the SWC and the PDC, before the sluice and the arbiter: its screen is idle, goes on
with the staged wash, or joins the wash queue with it (R76, R83..R85). -/
theorem concludeWash_cases (s : State) (n : ScreenId) (w : WashRecord) (o : WashOutcome) {next : ScreenState}
    (still : next.isWashing = false) :
    ∃ (sc : Screen) (q : List QueueEntry),
      (∀ m, (s.concludeWash n w o next).screen m = if n = m then sc else s.screen m)
        ∧ (s.concludeWash n w o next).aside = (({ s.swc with queue := s.swc.queue ++ q } : Swc).aside, s.pdc)
        ∧ ((sc = (s.screen n).ended w o s.stamp next ∧ q = [])
          ∨ (∃ g : Staged, sc = { (s.screen n).ended w o s.stamp .washing with
              drive := true, spray := true
              wash := some { passes := g.passes, cls := g.cls, mark := g.mark, counter := g.passes - 1
                             guard := some 0 } } ∧ q = [])
          ∨ ∃ g : Staged, sc = (s.screen n).ended w o s.stamp .queued ∧ q = [⟨n, g.cls, g.passes, g.mark, 0⟩]) := by
  by_cases alone : o ≠ .complete ∨ (s.screen n).staged = none
  · obtain ⟨screens, aside⟩ := concludeWash_ended s w still alone
    exact ⟨_, [], screens, by rw [aside, List.append_nil]; rfl, .inl ⟨rfl, rfl⟩⟩
  · push Not at alone
    obtain ⟨rfl, some⟩ := alone
    obtain ⟨g, staged⟩ := Option.ne_none_iff_exists'.1 some
    cases allowed : s.successionAllowed with
    | true =>
      obtain ⟨screens, aside⟩ := concludeWash_succeeded s w next staged allowed
      exact ⟨_, [], screens, by rw [aside, List.append_nil]; rfl, .inr (.inl ⟨g, rfl, rfl⟩)⟩
    | false =>
      obtain ⟨screens, aside⟩ := concludeWash_requeued s w next staged allowed
      exact ⟨_, _, screens, aside, .inr (.inr ⟨g, rfl, rfl⟩)⟩

end Complete

/-! ## The operations of the SWC -/

theorem State.OutputsAgree.of_screens (h : s.OutputsAgree) {n : ScreenId} {sc : Screen}
    (screens : ∀ m, t.screen m = if n = m then sc else s.screen m) (own : sc.OutputsAgree)
    (header : t.swc.header = s.swc.header) (pdc : t.pdc = s.pdc) : t.OutputsAgree := by
  obtain ⟨views, pumps, sluv, hprg⟩ := h
  simp only [Swc.header, Prod.mk.injEq] at header
  obtain ⟨sluicing, sluv', purge, hprg'⟩ := header
  refine ⟨fun m => ?_, fun p => ?_, by rw [sluv', sluicing, sluv], by rw [hprg', purge, hprg]⟩
  · rw [screens]
    split
    · exact own
    · exact views m
  · rw [State.pump, pdc]; exact pumps p

theorem header_of_aside {w v : Swc} (h : w.aside = v.aside) : w.header = v.header := (congrArg Swc.header h :)

namespace State.KeepsWashes

theorem phase_of_work {W : ScreenId → Prop} {P : PumpId → Prop} (h : s.WorkFrame W P t) : t.phase = s.phase := h.core.phase

/-- A wash ends, to a state of rest if no staged wash follows it. -/
theorem concludeWash (h : s.KeepsWashes False t) {n : ScreenId} {w v : WashRecord} {o : WashOutcome} {next : ScreenState}
    (wash : (t.screen n).wash = some v) (rest : next.atRest = true) :
    s.KeepsWashes False (t.concludeWash n w o next) := by
  obtain ⟨unqueued, still⟩ := ScreenState.atRest_iff.1 rest
  obtain ⟨sc, q, screens, aside, cases⟩ := concludeWash_cases t n w o still
  obtain ⟨aside, pdc⟩ := Prod.mk.inj aside
  have phase : (t.concludeWash n w o next).phase = t.phase :=
    phase_of_work (t.concludeWash_work w o next (fun _ => False) (W := fun _ => True) trivial)
  refine h.trans ⟨phase, fun k => ?_, fun k => ?_, nofun⟩
  · refine k.of_screens screens ?_ (header_of_aside aside :) pdc
    rcases cases with ⟨rfl, -⟩ | ⟨g, rfl, -⟩ | ⟨g, rfl, -⟩
    · exact ⟨still.symm, still.symm⟩
    · exact ⟨rfl, rfl⟩
    · exact ⟨rfl, rfl⟩
  · have washing := k.washing wash
    have before := ScreenState.not_queued_of_washing washing
    rcases cases with ⟨rfl, rfl⟩ | ⟨g, rfl, rfl⟩ | ⟨g, rfl, rfl⟩
    · rw [List.append_nil] at aside
      exact k.replace phase screens aside ⟨still.symm, nofun⟩ (fun _ => washing) before unqueued
    · rw [List.append_nil] at aside
      exact k.replace phase screens aside ⟨rfl, nofun⟩ (fun _ => washing) before nofun
    · exact k.join (e := ⟨n, g.cls, g.passes, g.mark, 0⟩) rfl phase (k.running (ScreenState.moving_of_washing washing))
        screens aside rfl rfl rfl before

end State.KeepsWashes

end Sys2Proof.Machine
end

section
/-! PROOFS. The operations of the SWC keep the outputs and the washes: for O6 and O8. -/

namespace Sys2Proof.Machine

variable {s t u : State}

namespace State.KeepsWashes
variable (h : s.KeepsWashes False t)
include h

/-! ## Changes that move no screen -/

/-- A change that keeps of every screen its state, that it holds a wash and a staged one, and its outputs. -/
theorem reviewed (phase : u.phase = t.phase)
    (views : ∀ n, ((u.screen n).washView, (u.screen n).drive, (u.screen n).spray)
      = ((t.screen n).washView, (t.screen n).drive, (t.screen n).spray))
    (header : u.swc.header = t.swc.header)
    (queue : u.swc.queue.map QueueEntry.screen = t.swc.queue.map QueueEntry.screen)
    (pumps : ∀ p, (t.pump p).RunAgrees → (u.pump p).RunAgrees) : s.KeepsWashes False u := by
  simp only [Prod.mk.injEq] at views
  simp only [Swc.header, Prod.mk.injEq] at header
  obtain ⟨sluicing, sluv, purge, hprg⟩ := header
  refine h.trans ⟨phase, fun ⟨outputs, runs, sluv', hprg'⟩ => ⟨fun n => ?_, fun p => pumps p (runs p), ?_, ?_⟩, fun k =>
    k.same phase (fun n => (views n).1) (fun active => k.header.2 (purge ▸ active)) queue, nofun⟩
  · obtain ⟨view, drive, spray⟩ := views n
    rw [drive, spray, show (u.screen n).state = (t.screen n).state from congrArg Prod.fst view]
    exact outputs n
  · rw [sluv, sluicing, sluv']
  · rw [hprg, purge, hprg']

theorem onScreen {n : ScreenId} {f : Screen → Screen}
    (hf : ((f (t.screen n)).washView, (f (t.screen n)).drive, (f (t.screen n)).spray)
      = ((t.screen n).washView, (t.screen n).drive, (t.screen n).spray)) : s.KeepsWashes False (t.onScreen n f) := by
  refine h.reviewed (by rfl) (fun m => ?_) (by rfl) (by rfl) fun _ k => k
  rw [State.screen_onScreen]
  split
  · next e => subst e; exact hf
  · rfl

/-- A change of the SWC beside its screens and its wash queue, with the outputs that follow it. -/
theorem onHeader {f : Swc → Swc}
    (kept : ((f t.swc).screens, (f t.swc).queue) = (t.swc.screens, t.swc.queue))
    (sluv : t.swc.sluv = t.swc.sluicing → (f t.swc).sluv = (f t.swc).sluicing)
    (hprg : t.swc.hprg = decide (t.swc.purge = .active) → (f t.swc).hprg = decide ((f t.swc).purge = .active))
    (purge : (f t.swc).purge = .active → t.swc.purge = .active ∨ t.anyWashing = false) :
    s.KeepsWashes False (t.onSwc f) := by
  obtain ⟨screens, queue⟩ := Prod.mk.inj kept
  have screen (n : ScreenId) : (t.onSwc f).screen n = t.screen n := by simp only [State.screen, State.onSwc_swc, screens]
  exact h.trans ⟨rfl, fun ⟨views, pumps, k, l⟩ => ⟨fun n => by rw [screen]; exact views n, pumps, sluv k, hprg l⟩,
    fun k => k.same rfl (fun n => by rw [screen]) (fun active => (purge active).elim k.header.2 id)
      (by rw [State.onSwc_swc, queue]), nofun⟩

/-! ## Results, the sluice and the header purge -/

theorem announcePending {n : ScreenId} {r : Option WashResult} : s.KeepsWashes False (t.announcePending n r) := by
  unfold State.announcePending
  split
  · exact ite h.notify.complete h
  · exact h

theorem releaseScreen {n : ScreenId} : s.KeepsWashes False (t.releaseScreen n) :=
  h.announcePending.announcePending.onScreen (by rfl)

theorem releaseResults : s.KeepsWashes False t.releaseResults := h.foldl (fun t _ => (refl _ t).releaseScreen) _

theorem startSluice : s.KeepsWashes False t.startSluice := h.onHeader (by rfl) (fun _ => rfl) id .inl

theorem endSluice : s.KeepsWashes False t.endSluice :=
  releaseResults (h.onHeader (by rfl) (fun _ => rfl) id .inl)

theorem activatePurge : s.KeepsWashes False t.activatePurge := by
  unfold State.activatePurge
  split
  · next may =>
    simp only [Bool.and_eq_true, Bool.not_eq_true'] at may
    obtain ⟨⟨-, idle⟩, -⟩ := may
    exact h.onHeader (by rfl) id (fun _ => rfl) fun _ => .inr idle
  · exact h

theorem idlePurge : s.KeepsWashes False t.idlePurge := h.onHeader (by rfl) id (fun _ => rfl) nofun

/-- A header purge falls due (R105). -/
theorem pendPurge (idle : t.swc.purge = .idle) :
    s.KeepsWashes False (t.onSwc fun w => { w with purge := .pending, pendingMs := 0 }) :=
  h.onHeader (by rfl) id (fun off => by rw [idle] at off; exact off) nofun

theorem finishPurge : s.KeepsWashes False t.finishPurge := h.idlePurge.publishHeld.reevaluate

theorem flushTrough {n : ScreenId} {w : WashRecord} {o : WashOutcome} : s.KeepsWashes False (t.flushTrough n w o) :=
  (ite h.notify h).startSluice

theorem publishCapacity : s.KeepsWashes False t.publishCapacity := by
  have published : s.KeepsWashes False
      (t.onSwc fun w => { w with screens := w.screens.map fun sc => { sc with counts := sc.counting } }) :=
    h.reviewed rfl (fun n => by simp [State.screen, Screen.washView]) rfl rfl fun _ k => k
  exact ite published published.evaluationFollows

theorem formVerdicts : s.KeepsWashes False t.formVerdicts := by
  unfold State.formVerdicts
  refine publishCapacity (h.reviewed rfl (fun n => ?_) rfl rfl fun _ k => k)
  simp only [State.screen, State.onSwc_swc, Fin.getElem_fin, Vector.getElem_ofFn]
  split <;> rfl

/-! ## The ends of washes -/

theorem endWash {n : ScreenId} {o : WashOutcome} {next : ScreenState} (rest : next.atRest = true) :
    s.KeepsWashes False (t.endWash n o next) := by
  unfold State.endWash
  split
  · exact h
  · next w wash => exact (h.concludeWash wash rest).flushTrough.activatePurge.publishHeld.reevaluate

theorem endWashes {p : State → ScreenId → Bool} {o : WashOutcome} : s.KeepsWashes False (t.endWashes p o) :=
  h.foldl (fun t _ => ite ((refl _ t).endWash rfl) (refl _ t)) _

theorem loseHeader : s.KeepsWashes False t.loseHeader := h.endWashes

theorem endUnder {n : ScreenId} {o : WashOutcome} : s.KeepsWashes False (t.endUnder o n) := by
  unfold State.endUnder
  refine ite ?_ h
  split
  · next w wash => exact (h.concludeWash wash rfl).flushTrough
  · exact h

theorem clearHeader {o : WashOutcome} : s.KeepsWashes False (t.clearHeader o) := by
  have ended : s.KeepsWashes False (t.endAll o) := h.foldl (fun t _ => (refl _ t).endUnder) allScreens
  have sluice : s.KeepsWashes False (t.endAll o).sluiceOff := ite ended.endSluice ended
  have purge : s.KeepsWashes False (t.endAll o).sluiceOff.purgeOff := ite sluice sluice.idlePurge
  rw [State.clearHeader_eq]
  exact purge.publishHeld

/-! ## Screens that move -/

/-- A screen at rest enters another state of rest. -/
theorem enterScreen {n : ScreenId} {st : ScreenState} (before : (t.screen n).state.atRest = true)
    (rest : st.atRest = true) : s.KeepsWashes False (t.enterScreen n st) := by
  obtain ⟨unqueued, still⟩ := ScreenState.atRest_iff.1 rest
  obtain ⟨unqueued', still'⟩ := ScreenState.atRest_iff.1 before
  refine h.trans ⟨rfl, fun k => k.enterScreen n st, fun k => ?_, nofun⟩
  obtain ⟨wash, staged⟩ := k.noWash still'
  exact k.replace (n := n) (sc := { t.screen n with state := st, drive := st.isWashing, spray := st.isWashing }) rfl
    (fun m => by
      rw [State.screen_enterScreen]
      split
      · next e => rw [e]
      · rfl) rfl
    ⟨by rw [still]; exact congrArg Option.isSome wash, fun some => by
      have : (t.screen n).staged.isSome = true := some
      rw [staged] at this; cases this⟩
    (fun now => by rw [still] at now; cases now) unqueued' unqueued

theorem setWash {n : ScreenId} {w : WashRecord} (washing : (t.screen n).state.isWashing = true) :
    s.KeepsWashes False (t.setWash n w) := by
  refine h.trans ⟨rfl, fun k => k.onScreen n id, fun k => ?_, nofun⟩
  have unqueued := ScreenState.not_queued_of_washing washing
  exact k.replace (n := n) (sc := { t.screen n with wash := some w }) rfl
    (fun m => by
      rw [State.setWash, State.screen_onScreen]
      split
      · next e => rw [e]
      · rfl) rfl
    ⟨washing.symm, fun _ => washing⟩ (fun _ => washing) unqueued unqueued

/-- A washing screen goes on to FINISHING. -/
theorem finish {n : ScreenId} (washing : (t.screen n).state.isWashing = true) :
    s.KeepsWashes False (t.enterScreen n .finishing) := by
  refine h.trans ⟨rfl, fun k => k.enterScreen n _, fun k => ?_, nofun⟩
  exact k.replace (n := n) (sc := { t.screen n with state := .finishing, drive := true, spray := true }) rfl
    (fun m => by
      rw [State.screen_enterScreen]
      split
      · next e => rw [e]; rfl
      · rfl) rfl
    ⟨(k.records n).trans washing, fun _ => rfl⟩ (fun _ => washing) (ScreenState.not_queued_of_washing washing) nofun

theorem finishContinuous : s.KeepsWashes False t.finishContinuous := by
  rw [State.finishContinuous_eq]
  refine h.foldl (fun t n => ?_) _
  unfold State.finishOne
  split
  · next now => exact (refl _ t).finish (by rw [now.1]; rfl)
  · exact refl _ t

theorem purgeOverdue : s.KeepsWashes False t.purgeOverdue :=
  finishContinuous (h.onSwc (by rfl) (by rfl))

/-- An idle screen joins the wash queue in a running part. -/
theorem joinQueue {n : ScreenId} {c : WashClass} {p : Nat} {m : Option Nat} (running : s.phase = .running)
    (idle : (t.screen n).state = .idle) : s.KeepsWashes False (t.joinQueue n c p m) := by
  refine h.trans ⟨rfl, fun k => State.OutputsAgree.enterScreen (s := t.onSwc fun w =>
    { w with queue := w.queue ++ [⟨n, c, p, m, 0⟩] }) k n .queued, fun k => ?_, nofun⟩
  obtain ⟨wash, staged⟩ := k.noWash (n := n) (by rw [idle]; rfl)
  exact k.join (n := n) (sc := { t.screen n with state := .queued, drive := false, spray := false })
    (e := ⟨n, c, p, m, 0⟩) rfl rfl (h.phase.trans running)
    (fun i => by
      rw [screen_joinQueue]
      split
      · next e => rw [e]
      · rfl) rfl rfl wash staged (by rw [idle]; nofun)

theorem mergeQueue {n : ScreenId} {c : WashClass} {p : Nat} {m : Option Nat} :
    s.KeepsWashes False (t.mergeQueue n c p m) := by
  refine h.reviewed rfl (fun _ => rfl) rfl ?_ fun _ k => k
  simp only [State.mergeQueue, State.onSwc_swc, List.map_map]
  refine List.map_congr_left fun e _ => ?_
  dsimp only [Function.comp_apply]
  split <;> rfl

/-- A queue entry is removed, and its screen at rest (R79, R80). -/
theorem removeEntry {n : ScreenId} {next : ScreenState} (queued : (t.screen n).state = .queued)
    (rest : next.atRest = true) : s.KeepsWashes False (t.removeEntry n next) := by
  have told : s.KeepsWashes False (t.complete (t.queueMark n) 6 0) := h.complete
  have queued' : ((t.complete (t.queueMark n) 6 0).screen n).state = .queued := by simpa using queued
  unfold State.removeEntry
  generalize t.complete (t.queueMark n) 6 0 = u at told queued' ⊢
  refine reevaluate (told.trans ⟨rfl, fun k => State.OutputsAgree.enterScreen (s := u.leaveQueue n) k n next,
    fun k => ?_, nofun⟩)
  obtain ⟨wash, staged⟩ := k.noWash (n := n) (by rw [queued']; rfl)
  exact k.leave (n := n) (sc := { u.screen n with state := next, drive := next.isWashing, spray := next.isWashing }) rfl
    (fun m => by
      rw [State.screen_enterScreen]
      split
      · next e => rw [e]; rfl
      · rfl) rfl rest wash staged

theorem stage {n : ScreenId} {g : Staged} (washing : (t.screen n).state.isWashing = true) :
    s.KeepsWashes False (t.stage n g) := by
  refine h.trans ⟨rfl, fun k => k.onScreen n id, fun k => ?_, nofun⟩
  have unqueued := ScreenState.not_queued_of_washing washing
  exact k.replace (n := n) (sc := { t.screen n with staged := some ((t.screen n).staged.getD g) }) rfl
    (fun m => by
      rw [State.stage, State.screen_onScreen]
      split
      · next e => rw [e]
      · rfl) rfl
    ⟨k.records n, fun _ => washing⟩ (fun _ => washing) unqueued unqueued

/-! ## Triggers -/

theorem triggerScreen {n : ScreenId} (running : s.phase = .running) : s.KeepsWashes False (t.triggerScreen n) := by
  unfold State.triggerScreen
  split
  · exact h
  · split
    · next idle => exact h.joinQueue running idle
    · exact h.mergeQueue
    · next finishing => exact h.stage (by rw [finishing]; rfl)
    all_goals exact h

theorem evaluateTriggers (running : s.phase = .running) : s.KeepsWashes False t.evaluateTriggers := by
  have screens : s.KeepsWashes False (allScreens.foldl State.triggerScreen t) :=
    List.foldlRecOn (motive := s.KeepsWashes False) allScreens _ h fun _ k _ _ => k.triggerScreen running
  unfold State.evaluateTriggers
  exact ite screens screens.reevaluate

end State.KeepsWashes

end Sys2Proof.Machine
end

section
/-! PROOFS. The operations of the other blocks, and of requests, keep the outputs and the washes: for O6 and O8. -/

namespace Sys2Proof.Machine

variable {s t : State} {A : Prop} {p : PumpId}

namespace State.KeepsWashes

/-! ## Pumps -/

section Pumps
variable (h : s.KeepsWashes A t)
include h

theorem enterPump {st : PumpState} : s.KeepsWashes A (t.enterPump p st) := (h.onPump fun _ _ => by rfl).evaluationFollows

theorem rest : s.KeepsWashes A (t.rest p) := h.enterPump

theorem stopEnded : s.KeepsWashes A (t.stopEnded p) := (h.onPump fun _ k => by exact k).rest.notify.complete

theorem orderStop {o : StopOrigin} {m : Option Nat} : s.KeepsWashes A (t.orderStop p o m) := by
  have ordered := (h.enterPump (p := p) (st := .stopping)).onPump (p := p)
    (f := fun q => { q with stopTimer := 0, stopOrigin := some o, stopMark := m }) (fun _ k => by exact k) |>.publishRunning
  exact ite (ite ordered ordered.stopEnded) h

theorem lowLevelStop : s.KeepsWashes A (t.lowLevelStop p) := h.notify.orderStop

theorem lowLevelActs : s.KeepsWashes A (t.lowLevelActs p) := ite h.lowLevelStop (h.onPump fun _ k => by exact k)

theorem startEnded : s.KeepsWashes A t.startEnded := h.onPdc (by rfl)

theorem endPair : s.KeepsWashes A (t.endPair p) := h.onPdc (by rfl)

theorem changeoverStop : s.KeepsWashes A (t.changeoverStop p) := by
  unfold State.changeoverStop
  split
  · exact ite h.endPair.orderStop h
  · exact h

theorem enterRunning : s.KeepsWashes A (t.enterRunning p) := by
  unfold State.enterRunning
  have entered := (h.enterPump (p := p) (st := .running)).onPump (p := p)
    (f := fun q => { q with startTimer := 0, startMark := none, runTime := 0 }) fun _ k => by exact k
  exact when entered.notify.publishRunning.startEnded.complete.changeoverStop (refl _ _).lowLevelStop

theorem failPump {c : FailCause} : s.KeepsWashes A (t.failPump p c) := by
  unfold State.failPump
  dsimp only
  split
  · exact (h.enterPump.onPump fun _ k => by exact k).notify.startEnded.endPair.complete
  · exact (h.enterPump.onPump fun _ k => by exact k).notify.publishRunning
  · exact (h.enterPump.onPump fun _ k => by exact k).notify.complete
  all_goals exact (h.enterPump.onPump fun _ k => by exact k).notify

theorem beginStart {e : StartEntry} : s.KeepsWashes A (t.beginStart e) := by
  have begun := (h.enterPump (p := e.pump) (st := .starting)).onPump (p := e.pump) (f := fun q =>
    { q with starts := min (q.starts + 1) 65535, startTimer := 0, startOrigin := e.origin, startMark := e.mark })
    fun _ k => by exact k
  exact ite begun.failPump (ite begun.enterRunning begun)

theorem refuseStart {e : StartEntry} {c : Nat} : s.KeepsWashes A (t.refuseStart e c) := by
  unfold State.refuseStart
  split
  · exact h.complete
  · exact h.complete.endPair.evaluationFollows

omit h in
theorem grantFrom : ∀ (q : List StartEntry) {t : State}, s.KeepsWashes A t → s.KeepsWashes A (State.grantFrom q t)
  | [], _, h => h.onPdc (by rfl)
  | e :: q, t, h => by
    have taken : s.KeepsWashes A (t.onPdc fun d => { d with queue := q }) := h.onPdc (by rfl)
    unfold State.grantFrom
    dsimp only
    split
    · exact taken.beginStart
    · exact grantFrom q taken.refuseStart

theorem startArbiter : s.KeepsWashes A t.startArbiter := ite (grantFrom _ h) h

theorem joinStart {o : StartOrigin} {m : Option Nat} : s.KeepsWashes A (t.joinStart p o m) :=
  ite (h.onPdc (by rfl)) (startArbiter (h.onPdc (by rfl)))

theorem leaveStart : s.KeepsWashes A (t.leaveStart p) := h.onPdc (by rfl)

/-! ## Duty evaluations -/

theorem makeDue {k : ScopeId} : s.KeepsWashes A (t.makeDue k) := by
  unfold State.makeDue
  split
  · exact h.onScope
  · exact ite h.onScope (ite h.onScope h.onScope.orderStop)

theorem fallDue {k : ScopeId} : s.KeepsWashes A (t.fallDue k) := ite h.makeDue h.onScope

theorem updateScope {k : ScopeId} : s.KeepsWashes A (t.updateScope k) := by
  unfold State.updateScope
  refine ite ?_ h.onScope
  split
  · exact h.makeDue
  · exact h.makeDue
  · split
    · exact h.onScope
    · exact h

theorem searchChangeover : s.KeepsWashes A t.searchChangeover := by
  unfold State.searchChangeover
  refine ite ?_ h
  split
  · exact joinStart (h.onPdc (by rfl))
  · exact h.onPdc (by rfl)

theorem dutyEvaluate : s.KeepsWashes A t.dutyEvaluate := by
  have scopes := h.foldl (f := State.updateScope) (fun t _ => (refl A t).updateScope) allScopes
  unfold State.dutyEvaluate
  dsimp only
  split
  · exact scopes
  · split
    · exact scopes.joinStart
    · exact scopes.searchChangeover

omit h in
theorem evaluations : ∀ (n : Nat) {t : State}, s.KeepsWashes A t → s.KeepsWashes A (State.evaluations n t)
  | 0, _, h => h
  | n + 1, _, h => ite (evaluations n (dutyEvaluate (h.onPdc (by rfl)))) h

theorem settle : s.KeepsWashes A t.settle := h.evaluations 32

theorem setMode {m : DutyMode} : s.KeepsWashes A (t.setMode m) := by
  refine ite h (evaluationFollows ?_)
  cases m <;> exact h.onPdc (by rfl)

theorem disablePump : s.KeepsWashes A (t.disablePump p) := by
  unfold State.disablePump
  refine enterPump (onPump ?_ fun _ k => by exact k)
  split
  · exact h.leaveStart.refuseStart
  · exact h

theorem cutRecovery : s.KeepsWashes A (t.cutRecovery p) :=
  ite (ite (enterPump (h.onPump fun _ k => by exact k)) (h.onPump fun _ => id)) h

theorem changed {old new : Nat} {f : State → State} (hf : ∀ t : State, t.KeepsWashes A (f t)) :
    s.KeepsWashes A (whenNew old new f t) := ite h (h.trans (hf t))

theorem pumpTimingActs {old : Pdc} : s.KeepsWashes A (t.pumpTimingActs old) := by
  have cut (c : PumpClass) (t : State) : t.KeepsWashes A (State.cutClass c t) :=
    (refl A t).foldl (fun t _ => ite (refl A t).cutRecovery (refl A t)) _
  unfold State.pumpTimingActs
  exact h.changed (cut _) |>.changed (cut _)
    |>.changed (fun t => (refl A t).foldl (fun t _ => ite (refl A t).failPump (refl A t)) _)
    |>.changed (fun t => (refl A t).foldl (fun t _ => ite (refl A t).failPump (refl A t)) _)
    |>.changed (fun t => startArbiter ((refl A t).onPdc (by rfl)))
    |>.changed (fun t => (refl A t).evaluationFollows)
    |>.changed (fun t => (refl A t).foldl (fun t _ => ite (refl A t).lowLevelActs (refl A t)) _)
    |>.changed (fun t => ((refl A t).foldl (fun t _ => ite (refl A t).fallDue (refl A t)) _).evaluationFollows)
    |>.changed (fun t => (refl A t).evaluationFollows)
    |>.changed (fun t => (refl A t).onPdc (by rfl))
    |>.changed (fun t => ite (evaluationFollows ((refl A t).onPdc (by rfl))) (refl A t))

theorem feedbackLevel {level : Bool} : s.KeepsWashes A (t.feedbackLevel p level) := h.onPump fun _ k => by exact k

theorem hostStart {m : Nat} : s.KeepsWashes A (t.hostStart p m) := by
  unfold State.hostStart
  split
  · exact h.onPump fun _ k => by exact k
  · exact h.joinStart.settle
  all_goals exact h

/-! ## The link and the scan -/

theorem freeSlotAt {i : SlotId} : s.KeepsWashes A (t.freeSlotAt i) := h.onSlp

theorem discardSlot {i : SlotId} : s.KeepsWashes A (t.discardSlot i) := by
  unfold State.discardSlot
  split
  · split
    · exact h.freeSlotAt.notify
    · exact h
  · exact h

theorem reportSave {m r n : Nat} : s.KeepsWashes A (t.reportSave m r n) := h.notify.complete

theorem enterFallback : s.KeepsWashes A t.enterFallback := by
  unfold State.enterFallback
  exact (settle (evaluationFollows ((setMode h.onSlp).onPdc (by rfl)))).notify

theorem linkActs {old : Slp} : s.KeepsWashes A (t.linkActs old) := by
  unfold State.linkActs
  exact h.changed (fun t => (refl A t).onSlp) |>.changed (fun t => (refl A t).onSlp)
    |>.changed (fun t => (refl A t).foldl (fun t _ => ite (refl A t).discardSlot (refl A t)) _)

theorem sampleNotice {c : ChannelId} {ch : Channel} {e : Nat} : s.KeepsWashes A (t.sampleNotice c ch e) := by
  obtain hn | ⟨_, _, _, _, _, _, hn⟩ := sampleNotice_cases t c ch e <;> rw [hn]
  · exact h
  · exact h.notify

theorem dealChannel {c : ChannelId} {sample e : Nat} : s.KeepsWashes A (t.dealChannel c sample e) := by
  unfold State.dealChannel
  exact ite h.onChannel.sampleNotice h.onChannel

theorem dealNext : s.KeepsWashes A t.dealNext := by
  unfold State.dealNext
  split
  · exact h
  · split
    · exact h.dealChannel.onLau
    · exact h

omit h in
theorem dealMany : ∀ (k : Nat) {t : State}, s.KeepsWashes A t → s.KeepsWashes A (State.dealMany k t)
  | 0, _, h => h
  | k + 1, _, h => dealMany k h.dealNext

theorem publishRecord : s.KeepsWashes A t.publishRecord := ite h.onLau h.onLau.notify

end Pumps

/-! ## Claims, publications and the tide -/

section Tide
variable (h : s.KeepsWashes False t)
include h

theorem pdcActs {old : Condition} : s.KeepsWashes False (t.pdcActs old) :=
  ite h (evaluationFollows (when h (refl _ t).clearHeader))

theorem capActs {old : Condition} : s.KeepsWashes False (t.capActs old) := ite h.activatePurge.publishHeld h

theorem swapBanks {c : Nat} : s.KeepsWashes False (t.swapBanks c) := h.onTwu.notify

theorem checkBank : s.KeepsWashes False t.checkBank := by
  unfold State.checkBank
  dsimp only
  split
  · exact ite (ite h.swapBanks h.onTwu.notify) h
  · exact ite h.swapBanks h
  all_goals exact h

theorem checkBanks : s.KeepsWashes False t.checkBanks := ite h.checkBank.checkBank h

theorem evaluateClaim {q : Quantity} : s.KeepsWashes False (t.evaluateClaim q) := by
  unfold State.evaluateClaim
  dsimp only
  refine ite h ?_
  split
  · exact h.onTwu.notify.onBand
  · exact h.onTwu.notify

theorem reevaluateQuantities {a b : Quantity} : s.KeepsWashes False (t.reevaluateQuantities a b) :=
  h.foldl (fun t _ => ite (refl _ t).evaluateClaim (refl _ t)) _

theorem remind {b : BandId} : s.KeepsWashes False (t.remind b) := ite h.onBand.notify h

variable (running : s.phase = .running)
include running

theorem modeActs {old : Condition} : s.KeepsWashes False (t.modeActs old) := by
  unfold State.modeActs
  refine ite h ?_
  split
  · exact h.finishContinuous
  · exact h.evaluateTriggers running
  · exact h

theorem swcActs {old : Condition} : s.KeepsWashes False (t.swcActs old) :=
  ite h (h.modeActs running).capActs.reevaluate

theorem readersAct {old : Condition} : s.KeepsWashes False (t.readersAct old) :=
  ite (ite (h.drawn.pdcActs.swcActs running) (h.drawn.swcActs running).pdcActs) (h.pdcActs.swcActs running)

theorem recompute : s.KeepsWashes False t.recompute := by
  unfold State.recompute
  exact ite h (h.onTwu.readersAct running)

theorem rateEvent : s.KeepsWashes False t.rateEvent := by
  unfold State.rateEvent
  exact (h.onTwu.evaluateClaim.recompute running).settle

theorem emptyRing : s.KeepsWashes False t.emptyRing := h.onTwu.rateEvent running

theorem handLevels : s.KeepsWashes False t.handLevels := by
  unfold State.handLevels
  exact (h.onTwu.evaluateClaim.evaluateClaim.recompute running).settle

theorem twuReads {before : SeaClass} : s.KeepsWashes False (t.twuReads before) :=
  ite (ite ((h.drawn.emptyRing running).handLevels running) ((h.drawn.handLevels running).emptyRing running))
    (h.handLevels running)

theorem swcReads : s.KeepsWashes False t.swcReads := (h.evaluateTriggers running).formVerdicts.settle

omit running in
theorem pdcReads : s.KeepsWashes False t.pdcReads :=
  (h.foldl (f := State.marginPeriod) (fun t _ => (refl _ t).onPump fun _ k => by exact k) allPumps).evaluationFollows.settle

theorem read {before : SeaClass} {k : Nat} : s.KeepsWashes False (State.read before k t) := by
  unfold State.read
  split
  · exact ((h.twuReads running).swcReads running).pdcReads
  · exact (h.twuReads running).pdcReads.swcReads running
  · exact ((h.swcReads running).twuReads running).pdcReads
  · exact (h.swcReads running).pdcReads.twuReads running
  · exact (h.pdcReads.twuReads running).swcReads running
  · exact (h.pdcReads.swcReads running).twuReads running

theorem scanEnd : s.KeepsWashes False t.scanEnd := by
  unfold State.scanEnd
  exact h.publishRecord.drawn.read running

end Tide

/-! ## Commands of the SWC -/

section Screens
variable {n : ScreenId} (h : s.KeepsWashes False t)
include h

theorem acceptPulse {w : WashRecord} : s.KeepsWashes False (t.acceptPulse n w) := by
  unfold State.acceptPulse
  split
  · next washing =>
    have set (w : WashRecord) : s.KeepsWashes False (t.setWash n w) := h.setWash (by rw [washing]; rfl)
    refine ite (set _) (ite ((set _).finish ?_) (set _))
    rw [State.setWash, State.screen_onScreen_self]
    exact congrArg ScreenState.isWashing washing
  · next finishing => exact ((h.setWash (by rw [finishing]; rfl)).endWash rfl).settle
  all_goals exact h

theorem jamActs {rising : Bool} : s.KeepsWashes False (t.jamActs n rising) := by
  unfold State.jamActs
  split
  iterate 2 exact ite (h.endWash rfl).publishCapacity.settle h
  · exact h.reevaluate.settle
  all_goals exact h

theorem jamLevel {level : Bool} : s.KeepsWashes False (t.jamLevel n level) :=
  have read : s.KeepsWashes False (t.onScreen n fun sc => { sc with jam := level }) := h.onScreen (by rfl)
  ite h (ite read.jamActs read)

theorem stopWash : s.KeepsWashes False (t.stopWash n) := by
  unfold State.stopWash
  split
  iterate 2 exact (h.endWash rfl).settle
  · next queued => exact (h.removeEntry queued rfl).settle
  all_goals exact h

theorem serviceOut : s.KeepsWashes False (t.serviceOut n) := by
  unfold State.serviceOut
  split
  iterate 2 exact h.endWash rfl
  · next queued => exact h.removeEntry queued rfl
  iterate 2
    next rest => exact h.enterScreen (by rw [rest]; rfl) rfl
  · exact h

theorem foundJammed (rest : (t.screen n).state.atRest = true) : s.KeepsWashes False (t.foundJammed n) :=
  (h.enterScreen rest rfl).notify

theorem serviceIn : s.KeepsWashes False (t.serviceIn n) := by
  unfold State.serviceIn
  split
  · next out => exact ite (h.foundJammed (by rw [out]; rfl)) (h.enterScreen (by rw [out]; rfl) rfl)
  all_goals exact h

theorem purgeIntervalActs : s.KeepsWashes False t.purgeIntervalActs := by
  unfold State.purgeIntervalActs
  split
  · exact h.onSwc (by rfl) (by rfl)
  · exact ite h.finishPurge h
  · exact h

theorem washTimingActs {old : Swc} : s.KeepsWashes False (t.washTimingActs old) := by
  unfold State.washTimingActs
  exact h.changed (fun t => (refl _ t).endWashes)
    |>.changed (fun t => ite (refl _ t).endSluice.publishHeld (refl _ t))
    |>.changed (fun t => (refl _ t).purgeIntervalActs)
    |>.changed (fun t => ite (refl _ t).finishPurge (refl _ t))
    |>.changed (fun t => ite (refl _ t).purgeOverdue (refl _ t))
    |>.changed (fun t => ite (refl _ t).loseHeader (refl _ t))

theorem hostWash {p m : Nat} (running : s.phase = .running) : s.KeepsWashes False (t.hostWash n p m) := by
  unfold State.hostWash
  split
  · next idle => exact (h.joinQueue running idle).reevaluate.settle
  · exact h.mergeQueue.reevaluate.settle
  iterate 2
    next washing => exact h.stage (by rw [washing]; rfl)
  all_goals exact h

theorem hostStop {f : Bool} {m : Nat} : s.KeepsWashes False (t.hostStop p f m) := by
  unfold State.hostStop
  split
  · exact h.onPump fun _ k => by exact k
  · exact (ite h.clearHeader h).orderStop.settle
  all_goals exact h

end Screens

/-! ## Settings of an image, and a millisecond -/

section Loading
variable (h : s.KeepsWashes False t)
include h

theorem applyRecord {r : Record} : s.KeepsWashes False (t.applyRecord r) := by
  have pumpLoad (q : Pump) (l : List Int) (k : q.RunAgrees) : (q.load l).RunAgrees := by unfold Pump.load; split <;> exact k
  have pumpCounters (q : Pump) (l : List Int) (k : q.RunAgrees) : (q.loadCounters l).RunAgrees := by
    unfold Pump.loadCounters; split <;> exact k
  unfold State.applyRecord
  split
  · split
    · exact h.onChannel
    · exact h
  · exact h.onLau
  · exact h.onTwu
  · split
    · exact h.onBand
    · exact h
  · exact h.onTwu
  · split
    · exact h.onScreen (by unfold Screen.load; split <;> rfl)
    · exact h
  · refine h.onSwc ?_ ?_ <;> (unfold Swc.load; split <;> rfl)
  · split
    · exact h.onPump fun q => pumpLoad q _
    · exact h
  · exact h.onPdc (by unfold Pdc.load; split <;> rfl)
  · exact h.onPdc (by rfl)
  · exact h.onSlp
  · split
    · exact h.onPump fun q => pumpCounters q _
    · exact h
  · exact h

theorem takeSettings {b : Bool} : s.KeepsWashes False (t.takeSettings b) := by
  unfold State.takeSettings State.loadImage
  refine ite ?_ h
  split
  · exact (h.foldl (fun t _ => (refl _ t).applyRecord) _).onSlp
  · exact h.notify

theorem elapse : s.KeepsWashes False t.elapse := by
  refine h.reviewed rfl (fun n => ?_) rfl ?_ fun p k => ?_
  · simp [State.screen, State.elapse, Swc.elapse, Screen.elapse, Screen.washView]
  · simp [State.elapse, Swc.elapse, Function.comp_def]
  · simpa [State.pump, State.elapse, Pdc.elapse, Pump.elapse, Pump.RunAgrees] using k

theorem idle : s.KeepsWashes False t.idle := by
  unfold State.idle
  split
  · exact ite (ite h.dealNext h.elapse) h
  · exact h.same (by rfl)

end Loading

end State.KeepsWashes

end Sys2Proof.Machine
end

section
/-! PROOFS. The outputs and the washes over every command: O6, O8. -/

namespace Sys2Proof.Machine

variable {s t : State}

/-! ## Start-up -/

theorem outputsAgree_of_atStartUp (h : t.AtStartUp) : t.OutputsAgree := by
  have screens := atStartUp_screen h
  have pumps := atStartUp_pump h
  obtain ⟨-, -, swc, -, -⟩ := h
  refine ⟨fun n => ?_, fun p => ?_, ?_, ?_⟩
  · rw [screens n]; exact ⟨rfl, rfl⟩
  · rw [pumps p]; rfl
  · rw [swc]
  · rw [swc]; rfl

/-- With every screen at rest and the wash queue empty the washes are sound. -/
theorem swcSound_of_rest (rest : ∀ n, (t.screen n).state.atRest = true)
    (idle : ∀ n, (t.screen n).wash = none ∧ (t.screen n).staged = none) (queue : t.swc.queue = []) : t.SwcSound := by
  have still (n : ScreenId) := ScreenState.atRest_iff.1 (rest n)
  have none (n : ScreenId) : (t.screen n).state.isWashing = false := (still n).2
  have count : t.washingCount = 0 := by simp [State.washingCount, none]
  constructor
  case header => exact ⟨by omega, fun _ => anyWashing_eq_false.2 none⟩
  case records => intro n; rw [(idle n).1, none n]; rfl
  case staged => intro n staged; rw [(idle n).2] at staged; cases staged
  case queue =>
    unfold State.QueueMatches
    rw [queue]
    exact ⟨List.nodup_nil, fun n => iff_of_false List.not_mem_nil (still n).1⟩
  case clear => exact fun _ => still

theorem swcSound_of_atStartUp (h : t.AtStartUp) : t.SwcSound := by
  have screens := atStartUp_screen h
  obtain ⟨-, -, swc, -, -⟩ := h
  exact swcSound_of_rest (fun n => by rw [screens n]; rfl) (fun n => by rw [screens n]; exact ⟨rfl, rfl⟩) (by rw [swc])

theorem startScreen_queue (s : State) (n : ScreenId) : (s.startScreen n).swc.queue = s.swc.queue := by
  unfold State.startScreen
  split
  · split <;> rfl
  · rfl

theorem begun_queue (s : State) : s.begun.swc.queue = s.swc.queue := rfl

theorem startBlocks_queue (samples : Vector Nat 12) : (s.startBlocks samples).swc.queue = s.swc.queue := by
  rw [startBlocks_eq, begun_queue, startPumps_swc]
  exact foldl_keeps (fun s => s.swc.queue) State.startScreen startScreen_queue allScreens _

/-- The outputs are off as the blocks start, and those of the sluice and the header purge as they stand (R95, R139). -/
theorem outputsAgree_startBlocks (samples : Vector Nat 12) (h : s.OutputsAgree) :
    (s.startBlocks samples).OutputsAgree := by
  obtain ⟨-, -, sluv, hprg⟩ := h
  have header := startBlocks_header (s := s) (samples := samples)
  simp only [Swc.header, Prod.mk.injEq] at header
  obtain ⟨sluicing, sluv', purge, hprg'⟩ := header
  refine ⟨fun n => ?_, fun p => ?_, by rw [sluv', sluicing, sluv], by rw [hprg', purge, hprg]⟩
  · rw [startBlocks_screen, Screen.started]
    dsimp only
    split
    · split <;> exact ⟨rfl, rfl⟩
    · exact ⟨rfl, rfl⟩
  · rw [startBlocks_pump, Pump.started]
    split
    · dsimp only
      split <;> rfl
    · rfl

/-- Every screen begins at rest, no wash having been under way (R95). -/
theorem swcSound_startBlocks (samples : Vector Nat 12) (h : s.SwcSound) (still : s.phase ≠ .running) :
    (s.startBlocks samples).SwcSound := by
  have clear := h.clear still
  refine swcSound_of_rest (fun n => ?_) (fun n => ?_) ?_
  · rw [startBlocks_screen, Screen.started]
    dsimp only
    split
    · split <;> rfl
    · rfl
  · rw [startBlocks_screen]
    exact h.noWash (clear n).2
  · rw [startBlocks_queue]
    exact List.eq_nil_iff_forall_not_mem.2 fun e he => (clear e.screen).1 ((h.queue.2 _).1 (List.mem_map_of_mem he))

/-! ## Commands -/

/-- A command ends in a next state whose outputs agree and whose washes are sound if those of `s` are. -/
def EndsSound (s : State) (o : Host.Outcome State Fault Refusal) : Prop :=
  ∃ t, o = .next t ∧ (s.OutputsAgree → t.OutputsAgree) ∧ (s.SwcSound → t.SwcSound)

/-- The rule of a request keeps both in a running part. -/
def RuleKeepsWashes (rule : State → Answer) : Prop :=
  ∀ t : State, t.phase = .running → t.KeepsWashes False (rule t).state

theorem State.keepsWashes (s : State) : s.KeepsWashes False s := .refl _ s

namespace RuleKeepsWashes

theorem refuse (c : Code) : RuleKeepsWashes fun t => .refuse t c := fun t _ => t.keepsWashes

theorem withArgs {α : Type} {k : α → State → Answer} (a : Form α) (h : ∀ x, RuleKeepsWashes (k x)) :
    RuleKeepsWashes (withArgs a k) := by
  cases a with
  | args x => exact h x
  | mismatch => exact refuse _

theorem outsideFallback {k : State → Answer} (h : RuleKeepsWashes k) : RuleKeepsWashes (outsideFallback k) := by
  intro t running
  unfold Machine.outsideFallback
  split
  · exact t.keepsWashes
  · exact h t running

theorem foundSlot (i : SlotId) (sl : Slot) (k : DeferredKind) (args : List Byte) :
    RuleKeepsWashes (foundSlot i sl k args) := by
  intro t _
  unfold Machine.foundSlot
  split
  · split
    · exact t.keepsWashes
    · exact t.keepsWashes.freeSlotAt
  · exact t.keepsWashes

/-- A deferred request, if what answers it at once and what acts on it keep both. -/
theorem deferred {k : DeferredKind} {g : Target} {args : List Byte} {v : State → Verdict} {act : Nat → State → State}
    {data : List Byte} (hv : ∀ t u, v t = .answered u → t.KeepsWashes False u)
    (ha : ∀ m (t : State), t.phase = .running → t.KeepsWashes False (act m t)) :
    RuleKeepsWashes (deferredRequest k g args v act data) := by
  have new (t : State) (running : t.phase = .running) :
      t.KeepsWashes False (newRequest k g args (v t) act data t).state := by
    unfold newRequest
    split
    · exact t.keepsWashes
    · next u answered => exact hv t u answered
    · split
      · exact t.keepsWashes
      · have opened (i : SlotId) : t.KeepsWashes False (t.openSlot i k g args) := t.keepsWashes.onSlp
        exact (opened _).trans (ha _ _ running)
  intro t running
  unfold deferredRequest
  split
  · split
    · exact foundSlot _ _ _ _ t running
    · exact new t running
  · exact new t running

end RuleKeepsWashes

theorem washVerdict_answers {n : ScreenId} {u : State} : washVerdict n t ≠ .answered u := by
  unfold washVerdict
  split
  iterate 4 nofun
  all_goals split <;> nofun

theorem startVerdict_answers {p : PumpId} {u : State} (h : startVerdict p t = .answered u) : t.KeepsWashes False u := by
  revert h
  unfold startVerdict
  split
  · nofun
  · split
    · intro h; cases h; exact t.keepsWashes
    all_goals nofun

theorem stopVerdict_answers {p : PumpId} {f : Bool} {u : State} (h : stopVerdict p f t = .answered u) :
    t.KeepsWashes False u := by
  revert h
  unfold stopVerdict
  split
  · nofun
  · split
    · intro h; cases h; exact t.keepsWashes.leaveStart
    iterate 3
      intro h; cases h; exact t.keepsWashes
    iterate 2 nofun
    · split <;> nofun

theorem saveVerdict_answers {u : State} : saveVerdict t ≠ .answered u := by
  unfold saveVerdict; split <;> nofun

namespace EndsSound

theorem next (h : s.KeepsWashes False t) : EndsSound s (.next t) := ⟨t, rfl, h.outputs, h.washes⟩

theorem atStartUp (h : t.AtStartUp) : EndsSound s (.next t) :=
  ⟨t, rfl, fun _ => outputsAgree_of_atStartUp h, fun _ => swcSound_of_atStartUp h⟩

/-- A command that acts on a condition, and otherwise does nothing. -/
theorem onCondition {c : Prop} [Decidable c] (h : s.KeepsWashes False t) : EndsSound s (.next (if c then t else s)) :=
  next (.ite h s.keepsWashes)

/-- An event that acts in a running part. -/
theorem active {c : Bool} (h : s.phase = .running → s.KeepsWashes False t) :
    EndsSound s (.next (if s.active && c then t else s)) := by
  split
  · next act => exact next (h (by simpa [State.active] using (Bool.and_eq_true_iff.1 act).1))
  · exact next s.keepsWashes

theorem requestIn {f g : State → Answer} (hf : ∀ t : State, t.KeepsWashes False (f t).state) (hg : RuleKeepsWashes g) (i : Instr)
    (s : State) : EndsSound s (.next (s.requestIn i f g)) :=
  next (requestIn_keeps (P := s.KeepsWashes False) s.keepsWashes (fun _ h => h.arrive) (fun _ _ _ h => h.reply)
    (fun t _ h => h.trans (hf t)) fun t running h => h.trans (hg t running))

theorem request {g : State → Answer} (i : Instr) (s : State) (hg : RuleKeepsWashes g) :
    EndsSound s (.next (s.request i g)) := requestIn (fun t => t.keepsWashes) hg i s

/-- A request with arguments. -/
theorem args {α : Type} {k : α → State → Answer} (i : Instr) (a : Form α) (s : State) (h : ∀ x, RuleKeepsWashes (k x)) :
    EndsSound s (.next (s.request i (withArgs a k))) := request i s (.withArgs a h)

/-- A request that reads. -/
theorem reads {α : Type} {k : α → State → Answer} (i : Instr) (a : Form α) (s : State) (h : ∀ x t, (k x t).state = t) :
    EndsSound s (.next (s.request i (withArgs a k))) :=
  args i a s fun x t _ => by rw [h x t]; exact State.keepsWashes t

end EndsSound

section Events
variable (s : State)

theorem endsSound_resetNAsserted : EndsSound s (execResetNAsserted s) := by
  unfold execResetNAsserted
  split
  · exact .next s.keepsWashes
  · exact .atStartUp (resetHeld_atStartUp _)

theorem endsSound_resetNReleased (c : Bool) : EndsSound s (execResetNReleased c s) := by
  unfold execResetNReleased
  split
  · exact .atStartUp (startUp_atStartUp _ _)
  · exact .next s.keepsWashes

theorem endsSound_scanTimerExpiry (v : Vector Nat 12) (dealt : Nat) : EndsSound s (execScanTimerExpiry v dealt s) :=
  .onCondition (.dealMany _ s.keepsWashes.onLau)

theorem endsSound_scanEvent : EndsSound s (execScanEvent s) := by
  unfold execScanEvent
  exact .active fun running => .scanEnd (.dealMany _ s.keepsWashes) running

theorem endsSound_trendTimerExpiry : EndsSound s (execTrendTimerExpiry s) := by
  unfold execTrendTimerExpiry
  exact .active fun running => .ite s.keepsWashes.onTwu (s.keepsWashes.onTwu.onTwu.rateEvent running)

theorem endsSound_indexPulse (n : ScreenId) : EndsSound s (execIndexPulse n s) := by
  unfold execIndexPulse
  split
  · next act =>
    refine .next ?_
    split
    · exact s.keepsWashes
    · exact .ite (s.keepsWashes.setWash (Bool.and_eq_true_iff.1 act).2) s.keepsWashes.acceptPulse
  · exact .next s.keepsWashes

theorem endsSound_hdokChange (level : Bool) : EndsSound s (execHdokChange level s) := by
  have read (f : Swc → Swc) (kept : ((f s.swc).screens, (f s.swc).queue) = (s.swc.screens, s.swc.queue))
      (header : (f s.swc).header = s.swc.header) : s.KeepsWashes False (s.onSwc f) := by
    simp only [Swc.header, Prod.mk.injEq] at header
    obtain ⟨sluicing, sluv, purge, hprg⟩ := header
    exact s.keepsWashes.onHeader kept (fun k => by rw [sluv, k, sluicing]) (fun k => by rw [hprg, k, purge]) fun k =>
      .inl (purge ▸ k)
  exact .next (.ite s.keepsWashes (.ite (read _ rfl rfl).reevaluate.settle (read _ rfl rfl)))

theorem endsSound_headerPurgeTimerExpiry : EndsSound s (execHeaderPurgeTimerExpiry s) := by
  unfold execHeaderPurgeTimerExpiry
  split
  · next act =>
    simp only [Swc.purgeFalls, Bool.and_eq_true, decide_eq_true_eq] at act
    obtain ⟨-, ⟨idle, -⟩, -⟩ := act
    exact .next (s.keepsWashes.pendPurge idle).activatePurge.publishHeld.settle
  · exact .next s.keepsWashes

theorem endsSound_pfbRising (p : PumpId) : EndsSound s (execPfbRising p s) :=
  .next (.ite s.keepsWashes (.ite s.keepsWashes.feedbackLevel.enterRunning.settle s.keepsWashes.feedbackLevel))

theorem endsSound_pfbFalling (p : PumpId) : EndsSound s (execPfbFalling p s) := by
  have read : s.KeepsWashes False (s.feedbackLevel p false) := s.keepsWashes.feedbackLevel
  refine .onCondition (.ite ?_ read)
  split
  · exact .ite read read.failPump.settle
  · exact read.stopEnded.settle
  all_goals exact read

theorem endsSound_ptrpActive (p : PumpId) (level : Bool) : EndsSound s (execPtrpActive p level s) := by
  have read : s.KeepsWashes False (s.onPump p fun q => { q with trip := level }) := s.keepsWashes.onPump fun _ => id
  exact .next (.ite read.failPump.settle read)

theorem endsSound_rotationTimerExpiry : EndsSound s (execRotationTimerExpiry s) := by
  have rotated : s.KeepsWashes False
      (s.onPdc fun d => { d with order := rotate d.order, rotationTimer := 0, changeover := true }) :=
    s.keepsWashes.onPdc rfl
  exact .onCondition rotated.notify.evaluationFollows.settle

theorem endsSound_shedTimerExpiry (k : ScopeId) : EndsSound s (execShedTimerExpiry k s) := by
  refine .next ?_
  split
  · exact .ite s.keepsWashes.fallDue.settle s.keepsWashes
  · exact s.keepsWashes

theorem endsSound_startSpacingExpiry : EndsSound s (execStartSpacingExpiry s) := by
  have noted : s.KeepsWashes False (s.onPdc fun d => { d with spacingTaken := true }) := s.keepsWashes.onPdc rfl
  exact .onCondition noted.startArbiter.settle

theorem endsSound_saveConfigEnd (e : SaveEnd) : EndsSound s (execSaveConfigEnd e s) := by
  refine .next ?_
  split
  · exact s.keepsWashes
  · exact .ite s.keepsWashes.onSlp.reportSave s.keepsWashes.onSlp

theorem endsSound_replySent (c : Bool) : EndsSound s (execReplySent c s) := by
  unfold execReplySent
  split
  · dsimp only
    split
    · exact .atStartUp (startUp_atStartUp _ _)
    · exact .next s.keepsWashes.onSlp.transmitNext
  all_goals exact .next s.keepsWashes

theorem endsSound_batchSent : EndsSound s (execBatchSent s) := by
  refine .next ?_
  split
  · exact s.keepsWashes.onSlp.transmitNext
  all_goals exact s.keepsWashes

/-- LOADING ends with every screen at rest and every output off (R95, R139). -/
theorem endsSound_loadingEnd (e : LoaderEnd) : EndsSound s (execLoadingEnd e s) := by
  unfold execLoadingEnd
  split
  · next loading =>
    have set : s.KeepsWashes False ((s.onSlp Slp.finishSave).takeSettings e.answers) := s.keepsWashes.onSlp.takeSettings
    exact ⟨_, rfl, fun k => outputsAgree_startBlocks _ (set.outputs k), fun k =>
      swcSound_startBlocks _ (set.washes k) (by rw [set.phase, loading]; decide)⟩
  · exact .next s.keepsWashes

end Events

section Requests
variable (s : State)

theorem endsSound_getTidePoints (a : Form (Nat × Nat)) : EndsSound s (execGetTidePoints a s) := by
  refine .reads _ a s fun x t => ?_
  split
  · rfl
  · dsimp only; split <;> rfl

theorem endsSound_getScreen (a : Form Nat) : EndsSound s (execGetScreen a s) := by
  refine .reads _ a s fun x t => ?_
  split <;> rfl

theorem endsSound_getPump (a : Form Nat) : EndsSound s (execGetPump a s) := by
  refine .reads _ a s fun x t => ?_
  split <;> rfl

theorem endsSound_setChannel (a : Form ChannelArgs) : EndsSound s (execSetChannel a s) := by
  have set (n : ChannelId) (en : Option Bool) (c : ChannelArgs) : RuleKeepsWashes (setChannelOn n en c) :=
    fun t _ => by
      unfold setChannelOn
      dsimp only
      exact t.keepsWashes.onChannel
  refine .args _ a s fun x t running => ?_
  split
  · exact t.keepsWashes
  · split
    · exact t.keepsWashes
    · split
      · exact set _ _ _ t running
      · split
        · exact t.keepsWashes
        · exact set _ _ _ t running

theorem endsSound_setSea (a : Form SeaArgs) : EndsSound s (execSetSea a s) := by
  refine .args _ a s fun x t _ => ?_
  split
  · exact t.keepsWashes
  · dsimp only
    exact t.keepsWashes.onLau

theorem endsSound_setTrend (a : Form Nat) : EndsSound s (execSetTrend a s) :=
  .args _ a s fun _ t running => .ite t.keepsWashes (t.keepsWashes.onTwu.emptyRing running)

theorem endsSound_setBandEntry (a : Form BandArgs) : EndsSound s (execSetBandEntry a s) := by
  refine .args _ a s fun x t running => ?_
  split
  · exact t.keepsWashes
  · split
    · exact t.keepsWashes
    · exact (t.keepsWashes.onBand.reevaluateQuantities.recompute running).settle

theorem endsSound_setScreen (a : Form ScreenArgs) : EndsSound s (execSetScreen a s) := by
  refine .args _ a s fun x t _ => ?_
  split
  · exact t.keepsWashes
  · split
    · exact t.keepsWashes
    · dsimp only
      exact t.keepsWashes.onScreen (by rfl)

theorem endsSound_setWashTiming (a : Form WashTimingArgs) : EndsSound s (execSetWashTiming a s) := by
  refine .args _ a s fun x t _ => ?_
  split
  · exact t.keepsWashes
  · exact (t.keepsWashes.onSwc (by rfl) (by rfl)).washTimingActs.settle

theorem setPumpOn_keepsWashes (p : PumpId) (k : Option PumpClass) (c : PumpArgs) :
    RuleKeepsWashes (setPumpOn p k c) := by
  intro t _
  unfold setPumpOn
  have set (f : Pump → Pump) (hf : ∀ q : Pump, q.RunAgrees → (f q).RunAgrees) : t.KeepsWashes False (t.onPump p f) :=
    t.keepsWashes.onPump hf
  exact .ite (set _ fun _ k => by exact k) (set _ fun _ k => by exact k).cutRecovery.settle

theorem endsSound_setPump (a : Form PumpArgs) : EndsSound s (execSetPump a s) := by
  refine .args _ a s fun x t running => ?_
  split
  · exact t.keepsWashes
  · split
    · exact t.keepsWashes
    · split
      · exact setPumpOn_keepsWashes _ _ _ t running
      · split
        · exact t.keepsWashes
        · exact setPumpOn_keepsWashes _ _ _ t running

theorem endsSound_setPumpTiming (a : Form PumpTimingArgs) : EndsSound s (execSetPumpTiming a s) := by
  refine .args _ a s fun x t _ => ?_
  split
  · exact t.keepsWashes
  · exact (t.keepsWashes.onPdc (by rfl)).pumpTimingActs.settle

theorem endsSound_setDutyOrder (a : Form (List Nat)) : EndsSound s (execSetDutyOrder a s) := by
  refine .args _ a s fun x t _ => ?_
  split
  · exact t.keepsWashes
  · next o _ =>
    have ordered : t.KeepsWashes False (t.onPdc fun d => { d with order := o, rotationTimer := 0, changeover := true }) :=
      t.keepsWashes.onPdc (by rfl)
    exact .ite ordered ordered.evaluationFollows.settle

theorem endsSound_setDutyMode (a : Form Nat) : EndsSound s (execSetDutyMode a s) := by
  refine .args _ a s fun x t running => ?_
  split
  · exact t.keepsWashes
  · exact RuleKeepsWashes.outsideFallback (fun u _ => u.keepsWashes.setMode.settle) t running

theorem endsSound_setDemand (a : Form Nat) : EndsSound s (execSetDemand a s) :=
  .args _ a s fun _ => .outsideFallback fun t _ =>
    .ite t.keepsWashes (t.keepsWashes.onPdc (by rfl)).evaluationFollows.settle

theorem endsSound_setLink (a : Form LinkArgs) : EndsSound s (execSetLink a s) := by
  refine .args _ a s fun x t _ => ?_
  split
  · exact t.keepsWashes
  · split
    · exact t.keepsWashes
    · exact t.keepsWashes.onSlp.linkActs

theorem endsSound_setClockStep (a : Form Int) : EndsSound s (execSetClockStep a s) := by
  refine .args _ a s fun x t _ => ?_
  split
  · exact t.keepsWashes.onSlp.checkBanks
  · exact t.keepsWashes

theorem endsSound_tidePoints (a : Form (List TidePoint)) : EndsSound s (execTidePoints a s) := by
  refine .args _ a s fun x t _ => ?_
  dsimp only
  split
  · exact t.keepsWashes
  · split
    · exact t.keepsWashes
    · dsimp only
      exact t.keepsWashes.onTwu

theorem endsSound_tideCommitNow (a : Form Unit) : EndsSound s (execTideCommitNow a s) := by
  refine .args _ a s fun x t _ => ?_
  dsimp only
  split
  · exact t.keepsWashes.swapBanks.checkBanks
  · exact t.keepsWashes

theorem endsSound_tideSeal (a : Form Unit) : EndsSound s (execTideSeal a s) := by
  refine .args _ a s fun x t _ => ?_
  dsimp only
  split
  · exact t.keepsWashes.onTwu.checkBanks
  · exact t.keepsWashes

theorem endsSound_stopWash (a : Form Nat) : EndsSound s (execStopWash a s) := by
  refine .args _ a s fun x t running => ?_
  split
  · exact t.keepsWashes
  · exact RuleKeepsWashes.outsideFallback (fun u _ => u.keepsWashes.stopWash) t running

theorem endsSound_clearScreen (a : Form Nat) : EndsSound s (execClearScreen a s) := by
  refine .args _ a s fun x t _ => ?_
  split
  · exact t.keepsWashes
  · split
    · next jammed =>
      split
      · exact t.keepsWashes
      · exact (t.keepsWashes.enterScreen (by rw [jammed]; rfl) rfl).publishCapacity.settle
    all_goals exact t.keepsWashes

theorem endsSound_setService (a : Form (Nat × Nat)) : EndsSound s (execSetService a s) := by
  refine .args _ a s fun x t running => ?_
  split
  · refine RuleKeepsWashes.outsideFallback (fun u _ => ?_) t running
    have set (f : Screen → Screen) (kept : ∀ sc, ((f sc).washView, (f sc).drive, (f sc).spray)
        = (sc.washView, sc.drive, sc.spray)) (n : ScreenId) : u.KeepsWashes False (u.onScreen n f) :=
      u.keepsWashes.onScreen (kept _)
    exact (State.KeepsWashes.ite (set _ (fun _ => by rfl) _).serviceIn
      (set _ (fun _ => by rfl) _).serviceOut).publishCapacity.settle
  · exact t.keepsWashes

theorem endsSound_enablePump (a : Form Nat) : EndsSound s (execEnablePump a s) := by
  refine .args _ a s fun x t _ => ?_
  split
  · exact t.keepsWashes
  · split
    · dsimp only
      exact (t.keepsWashes.onPump fun _ k => by exact k).rest.settle
    all_goals exact t.keepsWashes

theorem endsSound_disablePump (a : Form Nat) : EndsSound s (execDisablePump a s) := by
  refine .args _ a s fun x t _ => ?_
  split
  · exact t.keepsWashes
  · split
    · exact t.keepsWashes
    iterate 3
      dsimp only
      exact t.keepsWashes.disablePump.settle
    all_goals exact t.keepsWashes

theorem endsSound_clearPump (a : Form Nat) : EndsSound s (execClearPump a s) := by
  refine .args _ a s fun x t _ => ?_
  split
  · exact t.keepsWashes
  · split
    · split
      · exact t.keepsWashes
      · dsimp only
        exact t.keepsWashes.rest.settle
    all_goals exact t.keepsWashes

theorem endsSound_resetHours (a : Form Nat) : EndsSound s (execResetHours a s) := by
  refine .args _ a s fun x t _ => ?_
  split
  · exact t.keepsWashes
  · dsimp only
    exact t.keepsWashes.onPump fun _ k => by exact k

theorem endsSound_ackBand (a : Form Nat) : EndsSound s (execAckBand a s) := by
  refine .args _ a s fun x t _ => ?_
  split
  · exact t.keepsWashes
  · dsimp only
    exact t.keepsWashes.onTwu

theorem endsSound_washScreen (a : Form (Nat × Nat)) : EndsSound s (execWashScreen a s) := by
  refine .args _ a s fun x t running => ?_
  split
  · exact t.keepsWashes
  · exact RuleKeepsWashes.outsideFallback (.deferred (fun _ _ h => absurd h washVerdict_answers)
      fun _ u running => u.keepsWashes.hostWash running) t running

theorem endsSound_startPump (a : Form Nat) : EndsSound s (execStartPump a s) := by
  refine .args _ a s fun x t running => ?_
  split
  · exact t.keepsWashes
  · exact RuleKeepsWashes.outsideFallback (.deferred (fun _ _ => startVerdict_answers)
      fun _ u _ => u.keepsWashes.hostStart) t running

theorem endsSound_stopPump (a : Form (Nat × Nat)) : EndsSound s (execStopPump a s) := by
  refine .args _ a s fun x t running => ?_
  split
  · exact RuleKeepsWashes.outsideFallback (.deferred (fun _ _ => stopVerdict_answers)
      fun _ u _ => u.keepsWashes.hostStop) t running
  · exact t.keepsWashes

end Requests

/-! ## The whole machine -/

/-- Every command keeps the outputs with the states, and the washes sound. -/
theorem exec_endsSound (c : Instr) (s : State) : EndsSound s (exec c s) := by
  cases c
  case powerOn c => exact .atStartUp (startUp_atStartUp _ _)
  case resetNAsserted => exact endsSound_resetNAsserted s
  case resetNReleased c => exact endsSound_resetNReleased s c
  case loadingEnd e => exact endsSound_loadingEnd s e
  case scanTimerExpiry v dealt => exact endsSound_scanTimerExpiry s v dealt
  case scanEvent => exact endsSound_scanEvent s
  case trendTimerExpiry => exact endsSound_trendTimerExpiry s
  case reminderTimerExpiry =>
    exact .onCondition (s.keepsWashes.onTwu.foldl (fun t _ => t.keepsWashes.remind) _)
  case intakeTimeCount => exact .onCondition s.keepsWashes.onSlp.checkBanks
  case indexPulse n => exact endsSound_indexPulse s n
  case sjamRising n => exact .next s.keepsWashes.jamLevel
  case sjamFalling n => exact .next s.keepsWashes.jamLevel
  case passTimeout n => exact .onCondition (s.keepsWashes.endWash rfl).settle
  case hdokChange level => exact endsSound_hdokChange s level
  case headerLossDelayExpiry => exact .onCondition s.keepsWashes.loseHeader.settle
  case sluiceRunEnd => exact .onCondition s.keepsWashes.endSluice.publishHeld.settle
  case headerPurgeTimerExpiry => exact endsSound_headerPurgeTimerExpiry s
  case headerPurgeComplete => exact .onCondition s.keepsWashes.finishPurge.settle
  case purgeOverdue => exact .onCondition s.keepsWashes.purgeOverdue
  case pfbRising p => exact endsSound_pfbRising s p
  case pfbFalling p => exact endsSound_pfbFalling s p
  case ptrpActive p level => exact endsSound_ptrpActive s p level
  case startTimeout p => exact .onCondition s.keepsWashes.failPump.settle
  case stopTimeout p => exact .onCondition s.keepsWashes.failPump.settle
  case recoveryTimerExpiry p => exact .onCondition s.keepsWashes.enterPump.settle
  case startSpacingExpiry => exact endsSound_startSpacingExpiry s
  case rotationTimerExpiry => exact endsSound_rotationTimerExpiry s
  case shedTimerExpiry k => exact endsSound_shedTimerExpiry s k
  case lowLevelStop p => exact .onCondition s.keepsWashes.lowLevelActs.settle
  case discardTimerExpiry i => exact .onCondition s.keepsWashes.discardSlot
  case supervisionTimerExpiry => exact .onCondition (.ite s.keepsWashes.onSlp s.keepsWashes.onSlp.enterFallback)
  case saveConfigEnd e => exact endsSound_saveConfigEnd s e
  case frameReceived f => exact .onCondition (.ite s.keepsWashes.hunt.goodFrame s.keepsWashes.hunt.markLinkError)
  case framingError => exact .onCondition s.keepsWashes.hunt.markLinkError
  case rxGapTimeout => exact .onCondition s.keepsWashes.hunt.markLinkError
  case lenAbove120 => exact .onCondition s.keepsWashes.hunt.markLinkError
  case replySent c => exact endsSound_replySent s c
  case batchSent => exact endsSound_batchSent s
  case noticeBatch => exact .onCondition s.keepsWashes.formBatch
  case quietTimeExpiry => exact .onCondition s.keepsWashes.onSlp
  case frameStart => exact .onCondition s.keepsWashes.onSlp
  case unknownKind k => exact .request _ s (.refuse _)
  case getStatus a =>
    exact .requestIn (fun t => by cases a <;> exact t.keepsWashes) (.withArgs a fun _ t _ => t.keepsWashes) _ s
  case getLevels a => exact .reads _ a s fun _ t => by split <;> rfl
  case getTideSummary a => exact .reads _ a s fun _ _ => rfl
  case getTidePoints a => exact endsSound_getTidePoints s a
  case getCondition a => exact .reads _ a s fun _ _ => rfl
  case getScreen a => exact endsSound_getScreen s a
  case getPump a => exact endsSound_getPump s a
  case getNotices a => exact .args _ a s fun _ t _ => by dsimp only; exact t.keepsWashes.onSlp
  case getConfig a => exact .reads _ a s fun _ t => by split <;> rfl
  case setChannel a => exact endsSound_setChannel s a
  case setDensity a => exact .args _ a s fun _ t _ => by dsimp only; exact t.keepsWashes.onLau
  case setScan a => exact .args _ a s fun _ t _ => by dsimp only; exact t.keepsWashes.onLau
  case setSea a => exact endsSound_setSea s a
  case setTrend a => exact endsSound_setTrend s a
  case setBandEntry a => exact endsSound_setBandEntry s a
  case setBandReminder a => exact .args _ a s fun _ t _ => .ite t.keepsWashes t.keepsWashes.onTwu
  case setScreen a => exact endsSound_setScreen s a
  case setWashTiming a => exact endsSound_setWashTiming s a
  case setPump a => exact endsSound_setPump s a
  case setPumpTiming a => exact endsSound_setPumpTiming s a
  case setDutyOrder a => exact endsSound_setDutyOrder s a
  case setDutyMode a => exact endsSound_setDutyMode s a
  case setDemand a => exact endsSound_setDemand s a
  case setLink a => exact endsSound_setLink s a
  case setClockAbsolute a => exact .args _ a s fun _ t _ => by dsimp only; exact t.keepsWashes.onSlp.checkBanks
  case setClockStep a => exact endsSound_setClockStep s a
  case tidePoints a => exact endsSound_tidePoints s a
  case tideCommitNow a => exact endsSound_tideCommitNow s a
  case tideSeal a => exact endsSound_tideSeal s a
  case tideClear a => exact .args _ a s fun _ t _ => by dsimp only; exact t.keepsWashes.onTwu
  case stopWash a => exact endsSound_stopWash s a
  case clearScreen a => exact endsSound_clearScreen s a
  case setService a => exact endsSound_setService s a
  case enablePump a => exact endsSound_enablePump s a
  case disablePump a => exact endsSound_disablePump s a
  case clearPump a => exact endsSound_clearPump s a
  case resetHours a => exact endsSound_resetHours s a
  case ackBand a => exact endsSound_ackBand s a
  case resume a => exact .args _ a s fun _ t _ => by dsimp only; exact t.keepsWashes.onSlp
  case softResetLink a => exact .args _ a s fun _ t _ => by dsimp only; exact t.keepsWashes.onSlp
  case softResetFull a => exact .args _ a s fun _ t _ => by dsimp only; exact t.keepsWashes.onSlp
  case washScreen a => exact endsSound_washScreen s a
  case startPump a => exact endsSound_startPump s a
  case stopPump a => exact endsSound_stopPump s a
  case saveConfig a =>
    exact .args _ a s fun _ => .deferred (fun _ _ h => absurd h saveVerdict_answers) fun _ t _ => t.keepsWashes.onSlp

/-- Every step keeps the outputs with the states, and the washes sound: its command does, or on an empty queue what the
part does of itself. -/
theorem step_keepsWashes (h : step s = .next t) :
    (s.OutputsAgree → t.OutputsAgree) ∧ (s.SwcSound → t.SwcSound) := by
  unfold step at h
  split at h
  · obtain rfl : s.idle = t := by simpa using h
    exact ⟨s.keepsWashes.idle.outputs, s.keepsWashes.idle.washes⟩
  · next c rest _ =>
    obtain ⟨u, hu, outputs, washes⟩ := exec_endsSound c { s with pending := rest }
    obtain rfl : u = t := by simpa [hu] using h
    have queued : s.KeepsWashes False { s with pending := rest } := s.keepsWashes.same (by rfl)
    exact ⟨outputs ∘ queued.outputs, washes ∘ queued.washes⟩

/-- Settles O6: the outputs are written where the states are (`State.KeepsWashes.outputs`), by every command. -/
theorem outputsFollowStates : Obligations.OutputsFollowStates := by
  intro s t agree h
  exact (step_keepsWashes h).1 agree

/-- Settles O8: every change of a screen keeps its records, and its queue entry, with its state
(`State.KeepsWashes.washes`). -/
theorem washesStaySound : Obligations.WashesStaySound := by
  intro s t sound h
  exact (step_keepsWashes h).2 sound

end Sys2Proof.Machine
end

section
/-! PROOFS. The triggers and the header arbiter (R98..R103): O34. -/

namespace Sys2Proof.Machine

variable {s t : State} {n : ScreenId}

/-! ## The triggers (R98, R99) -/

/-- The head loss of a screen's record has reached a threshold (R98). -/
def State.lossReaches (s : State) (n : ScreenId) (mm : Nat) : Prop :=
  s.lau.record.heads[n].unknown = false ∧ (mm : Int) ≤ s.lau.record.heads[n].loss

/-- The screen takes all four triggers (R98). -/
def State.openToTriggers (s : State) (n : ScreenId) : Prop :=
  (s.screen n).jam = false ∧ ((s.screen n).state = .idle ∨ (s.screen n).state = .queued)

theorem mem_triggers {c : WashClass} {p : Nat} : (c, p) ∈ s.triggers n ↔
    (c = .headlossHigh ∧ p = (s.screen n).defaultPasses
        ∧ (s.openToTriggers n ∨ (s.screen n).jam = false ∧ (s.screen n).state = .finishing)
        ∧ s.lossReaches n (s.screen n).high)
      ∨ (c = .headloss ∧ p = (s.screen n).defaultPasses ∧ s.openToTriggers n ∧ s.lossReaches n (s.screen n).washStart)
      ∨ (c = .storm ∧ p = s.swc.stormPasses ∧ s.openToTriggers n ∧ s.twu.condition.mode = .storm)
      ∨ (c = .interval ∧ p = (s.screen n).defaultPasses ∧ s.openToTriggers n ∧ s.intervalInForce ≠ 0
          ∧ s.intervalInForce * 60000 ≤ (s.screen n).sinceEnd) := by
  have minutes (a b : Nat) : reached a (b * 60) = decide (b * 60000 ≤ a) := by
    exact decide_eq_decide.2 (by omega)
  unfold State.triggers State.openToTriggers State.lossReaches
  dsimp only
  cases jam : (s.screen n).jam
  · cases state : (s.screen n).state <;>
      simp only [Bool.false_eq_true, if_false, List.mem_append, List.mem_ite_nil_right, minutes, Bool.and_eq_true, Bool.not_eq_true',
        decide_eq_true_eq, List.mem_singleton, Prod.mk.injEq, reduceCtorEq]
    all_goals simp
    all_goals tauto
  · simp

/-! ## Their one request (R98) -/

theorem triggerRequest_none {ts : List (WashClass × Nat)} : triggerRequest ts = none ↔ ts = [] := by
  cases ts with
  | nil => simp [triggerRequest]
  | cons t ts =>
    simp only [triggerRequest, reduceCtorEq, iff_false]
    split <;> nofun

theorem higherClass_cases (a b : WashClass) :
    (higherClass a b = a ∧ a.code ≤ b.code) ∨ (higherClass a b = b ∧ b.code ≤ a.code) := by
  unfold higherClass
  split
  · exact .inr ⟨rfl, by omega⟩
  · exact .inl ⟨rfl, by omega⟩

theorem triggerRequest_cons {x r : WashClass × Nat} {ts : List (WashClass × Nat)} (h : triggerRequest (x :: ts) = some r) :
    (ts = [] ∧ r = x) ∨ ∃ q, triggerRequest ts = some q ∧ r = (higherClass x.1 q.1, max x.2 q.2) := by
  unfold triggerRequest at h
  split at h
  · next none => exact .inl ⟨triggerRequest_none.1 none, (Option.some.inj h).symm⟩
  · next q some => exact .inr ⟨q, some, (Option.some.inj h).symm⟩

/-- The request has the highest class of the triggers. -/
theorem triggerRequest_class : ∀ {ts : List (WashClass × Nat)} {r : WashClass × Nat}, triggerRequest ts = some r →
    (∃ x ∈ ts, x.1 = r.1) ∧ ∀ x ∈ ts, r.1.code ≤ x.1.code
  | [], _, h => by simp [triggerRequest] at h
  | t :: ts, r, h => by
    obtain ⟨rfl, rfl⟩ | ⟨q, hq, rfl⟩ := triggerRequest_cons h
    · simp
    · obtain ⟨⟨x, hx, cls⟩, highest⟩ := triggerRequest_class hq
      simp only [List.mem_cons, exists_eq_or_imp, forall_eq_or_imp]
      obtain ⟨e, le⟩ | ⟨e, le⟩ := higherClass_cases t.1 q.1 <;> rw [e]
      · exact ⟨.inl rfl, le_rfl, fun z hz => le.trans (highest z hz)⟩
      · exact ⟨.inr ⟨x, hx, cls⟩, le, highest⟩

/-- The request has the largest passes of the triggers. -/
theorem triggerRequest_passes : ∀ {ts : List (WashClass × Nat)} {r : WashClass × Nat}, triggerRequest ts = some r →
    (∃ x ∈ ts, x.2 = r.2) ∧ ∀ x ∈ ts, x.2 ≤ r.2
  | [], _, h => by simp [triggerRequest] at h
  | t :: ts, r, h => by
    obtain ⟨rfl, rfl⟩ | ⟨q, hq, rfl⟩ := triggerRequest_cons h
    · simp
    · obtain ⟨⟨x, hx, passes⟩, largest⟩ := triggerRequest_passes hq
      simp only [List.mem_cons, exists_eq_or_imp, forall_eq_or_imp]
      refine ⟨?_, le_max_left _ _, fun z hz => (largest z hz).trans (le_max_right _ _)⟩
      obtain e | e := max_choice t.2 q.2 <;> rw [e]
      · exact .inl rfl
      · exact .inr ⟨x, hx, passes⟩

/-! ## The request acts (R82, R101, R102) -/

theorem triggerScreen_none (h : triggerRequest (s.triggers n) = none) : s.triggerScreen n = s := by
  rw [State.triggerScreen, h]

section Acts
variable {c : WashClass} {p : Nat} (h : triggerRequest (s.triggers n) = some (c, p))
include h

theorem triggerScreen_idle (idle : (s.screen n).state = .idle) : s.triggerScreen n = s.joinQueue n c p none := by
  simp only [State.triggerScreen, h, idle]

theorem triggerScreen_queued (queued : (s.screen n).state = .queued) : s.triggerScreen n = s.mergeQueue n c p none := by
  simp only [State.triggerScreen, h, queued]

theorem triggerScreen_finishing (finishing : (s.screen n).state = .finishing) :
    s.triggerScreen n = s.stage n ⟨p, c, none⟩ := by
  simp only [State.triggerScreen, h, finishing]

end Acts

/-- The arbiter re-evaluates once, and only if the triggers changed the queue (R100). -/
theorem evaluateTriggers_cases (s : State) :
    ((allScreens.foldl State.triggerScreen s).swc.queue = s.swc.queue →
        s.evaluateTriggers = allScreens.foldl State.triggerScreen s)
      ∧ ((allScreens.foldl State.triggerScreen s).swc.queue ≠ s.swc.queue →
        s.evaluateTriggers = (allScreens.foldl State.triggerScreen s).reevaluate) := by
  unfold State.evaluateTriggers
  generalize allScreens.foldl State.triggerScreen s = t
  exact ⟨fun h => if_pos h, fun h => if_neg h⟩

theorem joinQueue_eq (c : WashClass) (p : Nat) (m : Option Nat) : s.joinQueue n c p m = { s with swc := { s.swc with
    queue := s.swc.queue ++ [⟨n, c, p, m, 0⟩]
    screens := s.swc.screens.set n { s.screen n with state := .queued, drive := false, spray := false } } } := by
  simp [State.joinQueue, State.enterScreen, State.onScreen, State.onSwc, State.screen, ScreenState.isWashing]

theorem largerPasses_eq (a b : Nat) : largerPasses a b = if a = 0 ∨ b = 0 then 0 else if a < b then b else a := by
  unfold largerPasses
  simp only [Bool.or_eq_true, decide_eq_true_eq]
  split
  · rfl
  · split <;> omega

/-- A request with no mark leaves that of the entry. -/
theorem QueueEntry.merge_unmarked (e : QueueEntry) (c : WashClass) (p : Nat) : e.merge c p none = { e with
    cls := if c.code < e.cls.code then c else e.cls
    passes := if e.passes = 0 ∨ p = 0 then 0 else if e.passes < p then p else e.passes } := by
  rw [QueueEntry.merge, largerPasses_eq]; rfl

/-- A change of a screen is what it makes of the screen. -/
theorem onScreen_congr {f g : Screen → Screen} (h : f (s.screen n) = g (s.screen n)) : s.onScreen n f = s.onScreen n g := by
  have screens : s.swc.screens.set n (f s.swc.screens[n]) = s.swc.screens.set n (g s.swc.screens[n]) := by
    rw [show f s.swc.screens[n] = g s.swc.screens[n] from h]
  unfold State.onScreen State.onSwc
  dsimp only
  rw [screens]

theorem onScreen_self {f : Screen → Screen} (h : f (s.screen n) = s.screen n) : s.onScreen n f = s := by
  rw [onScreen_congr (g := id) h]
  have screens : s.swc.screens.set n (id s.swc.screens[n]) = s.swc.screens := by simp
  unfold State.onScreen State.onSwc
  dsimp only
  rw [screens]

theorem stage_empty {g : Staged} (h : (s.screen n).staged = none) :
    s.stage n g = s.onScreen n fun sc => { sc with staged := some g } := onScreen_congr (by rw [h]; rfl)

theorem stage_full {g : Staged} (h : (s.screen n).staged ≠ none) : s.stage n g = s := by
  obtain ⟨g', full⟩ := Option.ne_none_iff_exists'.1 h
  exact onScreen_self (by rw [full, Option.getD_some, ← full])

/-! ## One test of the arbiter (R103) -/

theorem mayGrantHeader_iff : s.mayGrantHeader = true ↔ s.washingCount < 2 ∧ s.swc.purge = .idle ∧ s.swc.hdok = true
    ∧ 1 ≤ s.swc.runningCount ∧ s.twu.condition.mode ≠ .hold ∧ s.twu.condition.cap ≠ some 0 := by
  simp only [State.mayGrantHeader, Bool.and_eq_true, decide_eq_true_eq, and_assoc]

theorem bestEntry_eq_none {q : List QueueEntry} : bestEntry q = none ↔ q = [] := by
  cases q with
  | nil => simp [bestEntry]
  | cons e q =>
    simp only [bestEntry, reduceCtorEq, iff_false]
    split
    · nofun
    · split <;> nofun

/-- The earliest entry of the highest class takes the grant. -/
theorem bestEntry_earliest {e : QueueEntry} : ∀ {before after : List QueueEntry},
    (∀ x ∈ before, e.cls.code < x.cls.code) → (∀ x ∈ after, e.cls.code ≤ x.cls.code) →
    bestEntry (before ++ e :: after) = some e
  | [], after, _, later => by
    simp only [List.nil_append, bestEntry]
    split
    · rfl
    · next b hb => rw [if_neg (Nat.not_lt.2 (later b (bestEntry_mem hb)))]
  | x :: before, after, earlier, later => by
    simp only [List.forall_mem_cons] at earlier
    simp only [List.cons_append, bestEntry, bestEntry_earliest earlier.2 later, if_pos earlier.1]

/-- The entry that takes the grant stands where it stands among those whose SJAM is inactive (R103). -/
theorem nextWash_earliest {before after : List QueueEntry} {e : QueueEntry} (queue : s.swc.queue = before ++ e :: after)
    (eligible : (s.screen e.screen).jam = false)
    (earlier : ∀ x ∈ before, (s.screen x.screen).jam = false → e.cls.code < x.cls.code)
    (later : ∀ x ∈ after, (s.screen x.screen).jam = false → e.cls.code ≤ x.cls.code) : s.nextWash = some e := by
  rw [State.nextWash, queue, List.filter_append, List.filter_cons_of_pos (by simp [eligible])]
  exact bestEntry_earliest (fun x hx => by simp at hx; exact earlier x hx.1 hx.2)
    fun x hx => by simp at hx; exact later x hx.1 hx.2

theorem tryGrant_barred (h : s.mayGrantHeader = false) : s.tryGrant = s := by rw [State.tryGrant, h]; rfl

theorem tryGrant_none (h : s.nextWash = none) : s.tryGrant = s := by
  unfold State.tryGrant
  rw [h, ite_self]

theorem tryGrant_grants {e : QueueEntry} (may : s.mayGrantHeader = true) (h : s.nextWash = some e) :
    s.tryGrant = s.grantHeader e := by rw [State.tryGrant, if_pos may, h]

theorem nextWash_eq_none (h : ∀ e ∈ s.swc.queue, (s.screen e.screen).jam = true) : s.nextWash = none := by
  rw [State.nextWash, bestEntry_eq_none, List.filter_eq_nil_iff]
  exact fun e he => by rw [h e he]; simp

/-- An entry leaves a queue in which its screen stands once. -/
theorem filter_screen_ne {before after : List QueueEntry} {e : QueueEntry}
    (once : ((before ++ e :: after).map QueueEntry.screen).Nodup) :
    (before ++ e :: after).filter (fun d => d.screen ≠ e.screen) = before ++ after := by
  simp only [List.map_append, List.map_cons, List.nodup_middle, List.nodup_cons, List.mem_append, List.mem_map] at once
  obtain ⟨absent, -⟩ := once
  have others (q : List QueueEntry) (h : ∀ d ∈ q, d.screen ≠ e.screen) : q.filter (fun d => d.screen ≠ e.screen) = q :=
    List.filter_eq_self.2 fun d hd => decide_eq_true (h d hd)
  rw [List.filter_append, List.filter_cons_of_neg (by simp), others before fun d hd k => absent (.inl ⟨d, hd, k⟩),
    others after fun d hd k => absent (.inr ⟨d, hd, k⟩)]

theorem grantHeader_eq (e : QueueEntry) : s.grantHeader e = { s with swc := { s.swc with
    queue := s.swc.queue.filter fun d => d.screen ≠ e.screen, screens := (s.grantHeader e).swc.screens } } := rfl

/-! ## O34 -/

/-- Settles O34: the triggers by the screen's state (`mem_triggers`), their request by induction on them, what it does by
the screen's state, and the arbiter's choice among the entries (`nextWash_earliest`). -/
theorem triggersAndGrants : Obligations.TriggersAndGrants := by
  refine ⟨fun s n open_ high hopen hhigh => ?_, fun s n => ⟨triggerScreen_none, fun cls p h => ?_, ?_⟩,
    fun s may hmay => ?_⟩
  · have open_iff : open_ ↔ s.openToTriggers n := hopen
    have high_iff : high ↔ s.lossReaches n (s.screen n).high := hhigh
    have inForce : (if s.slp.fallback then s.swc.fallbackInterval else s.swc.washInterval) = s.intervalInForce := rfl
    refine ⟨?_, ?_, ?_, ?_, ?_, triggerRequest_none, fun cls p h => ?_⟩
    · simp [mem_triggers, open_iff, high_iff]
    · simp [mem_triggers, open_iff, State.lossReaches]
    · simp [mem_triggers, open_iff]
    · simp [mem_triggers, open_iff, inForce]
    · rintro ⟨c, p⟩ hx
      rcases mem_triggers.1 hx with ⟨rfl, rfl, -⟩ | ⟨rfl, rfl, -⟩ | ⟨rfl, rfl, -⟩ | ⟨rfl, rfl, -⟩ <;> rfl
    · obtain ⟨has, highest⟩ := triggerRequest_class h
      obtain ⟨takes, largest⟩ := triggerRequest_passes h
      exact ⟨has, highest, takes, largest⟩
  · refine ⟨fun idle => ?_, fun queued => ?_, fun finishing => ?_⟩
    · rw [triggerScreen_idle h idle, joinQueue_eq]
    · rw [triggerScreen_queued h queued, State.mergeQueue, State.onSwc]
      simp only [QueueEntry.merge_unmarked]
    · rw [triggerScreen_finishing h finishing]
      exact ⟨stage_empty, stage_full⟩
  · intro v hv
    rw [hv]
    exact evaluateTriggers_cases s
  · have may_iff : may ↔ s.mayGrantHeader = true := hmay.trans mayGrantHeader_iff.symm
    refine ⟨fun barred => tryGrant_barred (Bool.eq_false_iff.2 fun k => barred (may_iff.2 k)),
      fun jammed => tryGrant_none (nextWash_eq_none jammed),
      fun before after e hm queue eligible earlier later once => ?_⟩
    rw [tryGrant_grants (may_iff.1 hm) (nextWash_earliest queue eligible earlier later)]
    refine ⟨?_, ?_, fun n other => ?_, ?_⟩
    · rw [queue] at once
      rw [grantHeader_eq]
      exact (congrArg _ queue).trans (filter_screen_ne once)
    · rw [State.screen_grantHeader, if_pos rfl]; rfl
    · rw [State.screen_grantHeader, if_neg (Ne.symm other)]
    · rw [grantHeader_eq]

end Sys2Proof.Machine
end

section
/-! PROOFS. The end of a wash, the pass timeout, HDOK and the loss of the header (R75..R77, R104, R108): O31. -/

namespace Sys2Proof.Machine

variable {s t v : State} {n : ScreenId} {w : WashRecord} {o : WashOutcome} {next : ScreenState}

/-! ## What a frame keeps of one screen, and of the sluice -/

theorem State.WorkFrame.screen_kept {W : ScreenId → Prop} {P : PumpId → Prop} (h : s.WorkFrame W P t) (hn : ¬ W n)
    (unqueued : ∀ e ∈ s.swc.queue, e.screen ≠ n) : t.screen n = s.screen n := by
  rcases h.wash.kept n hn with same | ⟨e, he, on, -⟩
  · exact same
  · exact absurd on (unqueued e he)

theorem State.SluiceRestarted.duty {P : PumpId → Prop} (h : s.SluiceRestarted) (k : s.DutyFrame P t) :
    t.SluiceRestarted := by
  obtain ⟨sluicing, sluv, ms⟩ := h
  exact ⟨k.sluicing.trans sluicing, k.sluv.trans sluv, k.sluiceMs.trans ms⟩

/-! ## The end of a wash -/

/-- The end of a wash, before header held is published and the arbiter re-evaluates (R76, R105). -/
def State.washEnded (s : State) (n : ScreenId) (w : WashRecord) (o : WashOutcome) (next : ScreenState) : State :=
  ((s.concludeWash n w o next).flushTrough n w o).activatePurge

theorem endWash_none (none : (s.screen n).wash = none) : s.endWash n o next = s := by rw [State.endWash, none]

theorem endWash_eq (wash : (s.screen n).wash = some w) :
    s.endWash n o next = (s.washEnded n w o next).publishHeld.reevaluate := by rw [State.endWash, wash]; rfl

theorem endWash_duty (wash : (s.screen n).wash = some w) (P : PumpId → Prop) :
    (s.washEnded n w o next).DutyFrame P (s.endWash n o next) := by
  rw [endWash_eq wash]
  exact (State.publishHeld_duty _ P).trans (State.reevaluate_duty _ P)

theorem washEnded_work (s : State) (n : ScreenId) (w : WashRecord) (o : WashOutcome) (next : ScreenState)
    (P : PumpId → Prop) : s.WorkFrame (fun m => m = n) P (s.washEnded n w o next) :=
  ((s.concludeWash_work w o next P (W := fun m => m = n) rfl).trans (State.flushTrough_work _ n w o _ P)).trans
    (State.activatePurge_work _ _ P)

theorem washEnded_screen (s : State) (n m : ScreenId) (w : WashRecord) (o : WashOutcome) (next : ScreenState) :
    (s.washEnded n w o next).screen m = (s.concludeWash n w o next).screen m := by
  rw [State.washEnded, State.screen_activatePurge, State.screen_flushTrough]

theorem washEnded_queue (s : State) (n : ScreenId) (w : WashRecord) (o : WashOutcome) (next : ScreenState) :
    (s.washEnded n w o next).swc.queue = (s.concludeWash n w o next).swc.queue := by
  rw [State.washEnded, State.activatePurge_queue, State.flushTrough_queue]

theorem washEnded_sluice (s : State) (n : ScreenId) (w : WashRecord) (o : WashOutcome) (next : ScreenState) :
    (s.washEnded n w o next).SluiceRestarted :=
  ⟨State.activatePurge_sluicing _, State.activatePurge_sluv _, State.activatePurge_sluiceMs _⟩

/-- Without a staged wash to follow, the screen is ended, and no entry joins the wash queue. -/
theorem washEnded_ended (still : next.isWashing = false) (alone : o ≠ .complete ∨ (s.screen n).staged = none) :
    (∀ m, (s.washEnded n w o next).screen m = if n = m then (s.screen n).ended w o s.stamp next else s.screen m)
      ∧ (s.washEnded n w o next).swc.queue = s.swc.queue := by
  obtain ⟨screens, aside⟩ := concludeWash_ended s w still alone
  refine ⟨fun m => (washEnded_screen s n m w o next).trans (screens m), (washEnded_queue s n w o next).trans ?_⟩
  exact (queue_of_aside (congrArg Prod.fst aside)).1

/-- The arbiter does not touch the screen whose wash has ended. -/
theorem endWash_screen (sound : s.SwcSound) (wash : (s.screen n).wash = some w) (still : next.isWashing = false)
    (alone : o ≠ .complete ∨ (s.screen n).staged = none) :
    (s.endWash n o next).screen n = (s.screen n).ended w o s.stamp next := by
  obtain ⟨screens, queue⟩ := washEnded_ended (w := w) still alone
  have unqueued := sound.not_queued (ScreenState.not_queued_of_washing (sound.washing wash))
  rw [(endWash_duty (o := o) (next := next) wash fun _ => False).screen_of_not_queued n (by rw [queue]; exact unqueued),
    screens, if_pos rfl]

theorem endWash_sluice (wash : (s.screen n).wash = some w) : (s.endWash n o next).SluiceRestarted :=
  (washEnded_sluice s n w o next).duty (endWash_duty wash fun _ => False)

/-- The duty evaluations included, the screen is ended, and the sluice purge runs with its full time (R76, R109). -/
theorem endWash_settled (sound : s.SwcSound) (wash : (s.screen n).wash = some w) (rest : next.atRest = true)
    (alone : o ≠ .complete ∨ (s.screen n).staged = none) :
    (s.endWash n o next).settle.screen n = (s.screen n).ended w o s.stamp next
      ∧ (s.endWash n o next).settle.SluiceRestarted
      ∧ s.WorkFrame (fun m => m = n) (fun _ => False) (s.endWash n o next).settle := by
  obtain ⟨unqueued, still⟩ := ScreenState.atRest_iff.1 rest
  have ended := endWash_screen sound wash still alone
  have sound' := (s.keepsWashes.endWash (n := n) (o := o) rest).washes sound
  have duty := (s.endWash n o next).settle_duty fun _ => False
  refine ⟨?_, (endWash_sluice wash).duty duty, (s.endWash_work o next _ (W := fun m => m = n) rfl).trans (duty.work _)⟩
  rw [duty.screen_of_not_queued n (sound'.not_queued (by rw [ended]; exact unqueued)), ended]

/-! ## Under barred grants no screen starts -/

theorem State.GrantsBarred.work {W : ScreenId → Prop} {P : PumpId → Prop} (h : s.GrantsBarred) (k : s.WorkFrame W P t) :
    t.GrantsBarred := by
  have hdok : t.swc.hdok = s.swc.hdok := (congrArg Swc.hdok k.wash.swc :)
  rw [State.GrantsBarred, k.twu, hdok]
  exact h

theorem endWash_barred (wash : (s.screen n).wash = some w) (barred : s.GrantsBarred) :
    (s.endWash n o next).swc.queue = (s.washEnded n w o next).swc.queue
      ∧ (s.endWash n o next).swc.screens = (s.washEnded n w o next).swc.screens := by
  rw [endWash_eq wash]
  have ended := barred.work (washEnded_work s n w o next fun _ => False)
  exact ((State.KeepsWashes.refl True (s.washEnded n w o next)).publishHeld.reevaluate.barred trivial ended).2

theorem settle_barred (barred : s.GrantsBarred) :
    s.settle.swc.queue = s.swc.queue ∧ s.settle.swc.screens = s.swc.screens :=
  ((State.KeepsWashes.refl True s).settle.barred trivial barred).2

/-! ## The pass timeout (R75) -/

theorem execPassTimeout_stalls (running : s.phase = .running) (washing : (s.screen n).state.isWashing = true)
    (wash : (s.screen n).wash = some w) (stalled : s.swc.passTimeout * 1000 ≤ w.passTimer) :
    exec (.passTimeout n) s = .next (s.endWash n .stalled .idle).settle := by
  have due : s.stalled n = true := by simp [State.stalled, wash, reached, stalled]
  exact congrArg Host.Outcome.next (if_pos (by simp [State.active, running, washing, due]))

/-! ## HDOK (R104, R108) -/

/-- HDOK as it is read in a running part. -/
def State.readHdok (s : State) (level : Bool) : State :=
  s.onSwc fun w => { w with hdok := level, falsePeriod := if level then none else some 0 }

theorem execHdokChange_same : exec (.hdokChange s.swc.hdok) s = .next s := congrArg Host.Outcome.next (if_pos rfl)

theorem execHdokChange_idle {level : Bool} (new : level ≠ s.swc.hdok) (idle : s.phase ≠ .running) :
    exec (.hdokChange level) s = .next { s with swc := { s.swc with hdok := level } } :=
  congrArg Host.Outcome.next ((if_neg new).trans (if_neg (by simpa [State.active] using idle)))

theorem execHdokChange_running {level : Bool} (new : level ≠ s.swc.hdok) (running : s.phase = .running) :
    exec (.hdokChange level) s = .next (s.readHdok level).reevaluate.settle :=
  congrArg Host.Outcome.next ((if_neg new).trans (if_pos (by simpa [State.active] using running)))

/-! ## The loss of the header (R108) -/

/-- A wash of the screen ends NO_WATER. -/
def State.loseScreen (s : State) (n : ScreenId) : State :=
  if (s.screen n).state.isWashing then s.endWash n .noWater .idle else s

theorem loseHeader_eq (s : State) : s.loseHeader = allScreens.foldl State.loseScreen s := by
  simp only [State.loseHeader, State.endWashes, Bool.true_and]; rfl

/-- What the loss of the header does to the screens of `l`, no grant being made. -/
structure State.Loses (l : List ScreenId) (s t : State) : Prop where
  screens : ∀ m, t.screen m = if m ∈ l then (s.screen m).clearedBy .noWater s.stamp else s.screen m
  queue : t.swc.queue = s.swc.queue
  sluice : s.SluiceRestarted ∨ (∃ m ∈ l, (s.screen m).wash.isSome ∧ (s.screen m).state.isWashing) → t.SluiceRestarted
  work : s.WorkFrame (fun m => (s.screen m).state.isWashing = true) (fun _ => False) t

theorem Screen.clearedBy_still {sc : Screen} {stamp : Nat} (h : sc.state.isWashing = false) :
    sc.clearedBy o stamp = sc := by rw [Screen.clearedBy, if_neg (by rw [h]; decide)]

theorem loseScreen_loses (barred : s.GrantsBarred) : s.Loses [n] (s.loseScreen n) := by
  unfold State.loseScreen
  split
  · next washing =>
    cases wash : (s.screen n).wash with
    | none =>
      rw [endWash_none wash]
      refine ⟨fun m => ?_, rfl, ?_, .refl _ _ s⟩
      · split
        · next on => rw [List.mem_singleton.1 on, Screen.clearedBy_of_none wash]
        · rfl
      · simp [wash]
    | some w =>
      obtain ⟨screens, queue⟩ := washEnded_ended (s := s) (n := n) (w := w) (o := .noWater) (next := .idle) rfl (.inl nofun)
      obtain ⟨queue', screens'⟩ := endWash_barred (o := .noWater) (next := .idle) wash barred
      have after := endWash_duty (o := .noWater) (next := .idle) wash fun _ => False
      refine ⟨fun m => ?_, queue'.trans queue, fun _ => (washEnded_sluice s n w _ _).duty after,
        ((washEnded_work s n w _ _ _).trans (after.work _)).mono (fun m e => e ▸ washing) fun _ => id⟩
      rw [State.screen, screens']
      refine (screens m).trans ?_
      simp only [List.mem_singleton, eq_comm (a := m)]
      split
      · next same => subst same; rw [Screen.clearedBy_of_washing wash washing]
      · rfl
  · next still =>
    refine ⟨fun m => ?_, rfl, ?_, .refl _ _ s⟩
    · split
      · next on => rw [List.mem_singleton.1 on, Screen.clearedBy_still (by simpa using still)]
      · rfl
    · simp [still]

theorem loseEach_loses : ∀ (l : List ScreenId) {s : State}, l.Nodup → s.GrantsBarred →
    s.Loses l (l.foldl State.loseScreen s)
  | [], s, _, _ => ⟨fun _ => by simp, rfl, by simp, .refl _ _ s⟩
  | n :: l, s, distinct, barred => by
    obtain ⟨absent, distinct⟩ := List.nodup_cons.1 distinct
    obtain ⟨screens, queue, sluice, work⟩ := loseScreen_loses (n := n) barred
    obtain ⟨screens', queue', sluice', work'⟩ := loseEach_loses l distinct (barred.work work)
    have stamp := work.link.stamp
    have other (m : ScreenId) (hm : m ∈ l) : (s.loseScreen n).screen m = s.screen m := by
      rw [screens, if_neg (by rw [List.mem_singleton]; rintro rfl; exact absent hm)]
    refine ⟨fun m => ?_, queue'.trans queue, fun h => sluice' ?_, work.trans (work'.mono (fun m hm => ?_) fun _ => id)⟩
    · rw [List.foldl_cons, screens']
      by_cases hm : m ∈ l
      · rw [if_pos hm, if_pos (List.mem_cons_of_mem n hm), other m hm, stamp]
      · rw [if_neg hm, screens]
        simp only [List.mem_cons, List.not_mem_nil, hm]
    · rcases h with restarted | ⟨m, hm, wash⟩
      · exact .inl (sluice (.inl restarted))
      · rcases List.mem_cons.1 hm with rfl | hm
        · exact .inl (sluice (.inr ⟨m, List.mem_singleton_self m, wash⟩))
        · exact .inr ⟨m, hm, by rw [other m hm]; exact wash⟩
    · by_contra still
      have same : (s.loseScreen n).screen m = s.screen m := by
        rw [screens]
        split
        · exact Screen.clearedBy_still (by simpa using still)
        · rfl
      rw [same] at hm
      exact still hm

/-- Every wash in progress ends NO_WATER, no other taking its place (R108). -/
theorem loseHeader_settled (sound : s.SwcSound) (hdok : s.swc.hdok = false) :
    (∀ n, s.loseHeader.settle.screen n = (s.screen n).clearedBy .noWater s.stamp)
      ∧ s.loseHeader.settle.swc.queue = s.swc.queue
      ∧ (s.anyWashing = true → s.loseHeader.settle.SluiceRestarted)
      ∧ s.WorkFrame (fun n => (s.screen n).state.isWashing = true) (fun _ => False) s.loseHeader.settle := by
  have barred : s.GrantsBarred := .inr hdok
  obtain ⟨screens, queue, sluice, work⟩ := loseEach_loses allScreens (by decide) barred
  rw [← loseHeader_eq] at screens queue sluice work
  obtain ⟨settled, same⟩ := settle_barred (barred.work work)
  have duty := s.loseHeader.settle_duty fun _ => False
  refine ⟨fun n => ?_, settled.trans queue, fun any => (sluice (.inr ?_)).duty duty, work.trans (duty.work _)⟩
  · rw [State.screen, same]
    exact (screens n).trans (if_pos (mem_allScreens n))
  · obtain ⟨n, hn, washing⟩ := List.any_eq_true.1 any
    exact ⟨n, hn, (sound.records n).trans washing, washing⟩

theorem execHeaderLossDelayExpiry_loses {ms : Nat} (running : s.phase = .running)
    (period : s.swc.falsePeriod = some ms) (lost : s.swc.lossDelay * 1000 ≤ ms) :
    exec .headerLossDelayExpiry s = .next s.loseHeader.settle := by
  have due : s.swc.lossReached = true := by simp [Swc.lossReached, period, reached, lost]
  exact congrArg Host.Outcome.next (if_pos (by simp [State.active, running, due]))

/-! ## O31 -/

/-- Settles O31: the end of a wash with what follows it (`endWash_settled`), HDOK by the phase, and the loss of the header
by the screens in turn, under grants that are barred (`loseEach_loses`). -/
theorem stallsAndHeaderLoss : Obligations.StallsAndHeaderLoss := by
  refine ⟨fun s n w running sound wash stalled => ?_, fun s level => ⟨?_, execHdokChange_idle, fun new running => ?_⟩,
    fun s ms running sound hdok period lost => ?_⟩
  · exact ⟨_, execPassTimeout_stalls running (sound.washing wash) wash stalled,
      endWash_settled sound wash rfl (.inl nofun)⟩
  · rintro rfl
    exact execHdokChange_same
  · have duty := (State.reevaluate_duty (s.readHdok level) fun _ => False).trans (State.settle_duty _ _)
    exact ⟨_, s.readHdok level, execHdokChange_running new running, rfl, rfl, duty.hdok,
      (congrArg Swc.falsePeriod duty.grant.swc :), duty⟩
  · obtain ⟨screens, queue, sluice, work⟩ := loseHeader_settled sound hdok
    refine ⟨_, execHeaderLossDelayExpiry_loses running period lost, fun n w wash => ?_, fun n still => ?_, sluice, queue,
      work⟩
    · rw [screens, Screen.clearedBy_of_washing wash (sound.washing wash)]
    · rw [screens, Screen.clearedBy_still still]

end Sys2Proof.Machine
end

section
/-! PROOFS. SET SCREEN and SET WASH TIMING (R68, R75, R96, R97, R105): O37. -/

namespace Sys2Proof.Machine

variable {s t v : State} {n : ScreenId} {w : WashRecord} {o : WashOutcome} {c : Prop}

/-! ## SET SCREEN (R96) -/

theorem Screen.configure_eq (sc : Screen) (c : ScreenArgs) : sc.configure c = { sc with
    washStart := setTo 0 3000 sc.washStart c.washStart, high := setTo 0 3000 sc.high c.high
    blind := setTo 0 3000 sc.blind c.blind, defaultPasses := setTo 1 64 sc.defaultPasses c.defaultPasses } := by
  simp only [Screen.configure, Nat.zero_le, Nat.one_le_ofNat, taken_clampNat]

theorem screenClamped_eq (c : ScreenArgs) : screenClamped c =
    (strays 0 3000 c.washStart || strays 0 3000 c.high || strays 0 3000 c.blind || strays 1 64 c.defaultPasses) := by
  simp only [screenClamped, Nat.zero_le, Nat.one_le_ofNat, adjusted_clampNat]

/-- SET SCREEN with no setting named. -/
theorem screenArgs_empty (c : ScreenArgs) :
    (c.washStart.isNone && c.high.isNone && c.blind.isNone && c.defaultPasses.isNone) = true
      ↔ c = { screen := c.screen } := by
  cases c
  simp [and_assoc]

theorem execSetScreen_refuses {c : ScreenArgs} (takes : s.Takes (.setScreen (.args c)))
    (bad : c.screen = 0 ∨ 6 < c.screen ∨ c = { screen := c.screen }) :
    exec (.setScreen (.args c)) s = .next (s.reply .badArgument []) := by
  refine congrArg Host.Outcome.next ((args_takes takes c _).trans ?_)
  cases screen : index1 6 c.screen with
  | none => rfl
  | some n =>
    have out (h : c.screen = 0 ∨ 6 < c.screen) : index1 6 c.screen = none := index1_none h
    rcases bad with none | out' | empty
    · rw [out (.inl none)] at screen; cases screen
    · rw [out (.inr out')] at screen; cases screen
    · simp only [if_pos ((screenArgs_empty c).2 empty)]; rfl

theorem execSetScreen_takes {c : ScreenArgs} (takes : s.Takes (.setScreen (.args c))) (screen : c.screen = n.val + 1)
    (some : c ≠ { screen := c.screen }) : exec (.setScreen (.args c)) s =
      .next ((s.onScreen n fun sc => sc.configure c).reply (okCode (screenClamped c)) (takenData (screenClamped c)
        (let sc := (s.onScreen n fun sc => sc.configure c).screen n
         [(c.washStart.isSome, .u16, sc.washStart), (c.high.isSome, .u16, sc.high), (c.blind.isSome, .u16, sc.blind),
           (c.defaultPasses.isSome, .u16, sc.defaultPasses)]))) := by
  refine congrArg Host.Outcome.next ((args_takes takes c _).trans ?_)
  simp only [screen, index1_succ, if_neg (mt (screenArgs_empty c).1 some)]

/-! ## The settings of SET WASH TIMING (R97) -/

theorem Swc.configure_eq (w : Swc) (c : WashTimingArgs) : w.configure c = { w with
    passTimeout := setTo 30 1800 w.passTimeout c.passTimeout
    indexGuard := setTo 1 30 w.indexGuard c.indexGuard
    washInterval := setToOrOff 10 1440 w.washInterval c.washInterval
    fallbackInterval := setTo 10 1440 w.fallbackInterval c.fallbackInterval
    stormPasses := setTo 1 64 w.stormPasses c.stormPasses
    sluiceTime := setTo 10 600 w.sluiceTime c.sluiceTime
    purgeInterval := setToOrOff 5 240 w.purgeInterval c.purgeInterval
    purgeTime := setTo 10 300 w.purgeTime c.purgeTime
    deferral := setTo 1 60 w.deferral c.deferral
    lossDelay := setTo 2 60 w.lossDelay c.lossDelay } := by
  simp (disch := decide) only [Swc.configure, taken_clampNat, taken_clampOff]

theorem anyClamped_nil : anyClamped [] [] = false := rfl

theorem anyClamped_cons (g : Option Nat) (x : Nat) (gs : List (Option Nat)) (xs : List Nat) :
    anyClamped (g :: gs) (x :: xs) = ((g.any fun v => decide (v ≠ x)) || anyClamped gs xs) := by
  cases g <;> rfl

theorem any_ne_taken (clamp : Nat → Nat) (g : Option Nat) (old : Nat) :
    (g.any fun v => decide (v ≠ taken clamp g old)) = adjusted clamp g := by
  cases g with
  | none => rfl
  | some v => exact decide_eq_decide.2 ne_comm

theorem timingClamped_eq (w : Swc) (c : WashTimingArgs) :
    anyClamped (washTimingValues c) (w.configure c).timings =
      (strays 30 1800 c.passTimeout || strays 1 30 c.indexGuard || straysOrOff 10 1440 c.washInterval
        || strays 10 1440 c.fallbackInterval || strays 1 64 c.stormPasses || strays 10 600 c.sluiceTime
        || straysOrOff 5 240 c.purgeInterval || strays 10 300 c.purgeTime || strays 1 60 c.deferral
        || strays 2 60 c.lossDelay) := by
  simp (disch := decide) only [washTimingValues, Swc.timings, Swc.configure, anyClamped_cons, any_ne_taken,
    anyClamped_nil, adjusted_clampNat, adjusted_clampOff, Bool.or_assoc, Bool.or_false]

/-- SET WASH TIMING with no setting named. -/
theorem washTimingArgs_empty (c : WashTimingArgs) : (washTimingValues c).all Option.isNone = true ↔ c = {} := by
  cases c
  simp [washTimingValues]

theorem execSetWashTiming_refuses (takes : s.Takes (.setWashTiming (.args {}))) :
    exec (.setWashTiming (.args {})) s = .next (s.reply .badArgument []) :=
  congrArg Host.Outcome.next (args_takes takes _ _)

theorem execSetWashTiming_takes {c : WashTimingArgs} (takes : s.Takes (.setWashTiming (.args c))) (some : c ≠ {}) :
    exec (.setWashTiming (.args c)) s =
      .next ((((s.onSwc fun w => w.configure c).washTimingActs s.swc).settle).reply
        (okCode (anyClamped (washTimingValues c) (s.swc.configure c).timings))
        (takenData (anyClamped (washTimingValues c) (s.swc.configure c).timings)
          (wordFields (washTimingValues c) (s.swc.configure c).timings))) := by
  refine congrArg Host.Outcome.next ((args_takes takes c _).trans ?_)
  simp only [if_neg (mt (washTimingArgs_empty c).1 some)]
  rfl

/-! ## What the new values do -/

section Work
variable {P : PumpId → Prop}

theorem State.WorkFrame.whenNew {W : ScreenId → Prop} {old new : Nat} {f : State → State} (h : s.WorkFrame W P t)
    (hf : ∀ t : State, t.WorkFrame W P (f t)) : s.WorkFrame W P (whenNew old new f t) :=
  State.ite_work h (h.trans (hf t))

theorem purgeOverdue_work (s : State) (P : PumpId → Prop) : s.WorkFrame (fun _ => True) P s.purgeOverdue :=
  (s.onSwc_work _ _ P rfl (fun _ h _ => h) rfl).trans (State.finishContinuous_work _ P)

theorem purgeIntervalActs_work (s : State) (W : ScreenId → Prop) (P : PumpId → Prop) :
    s.WorkFrame W P s.purgeIntervalActs := by
  unfold State.purgeIntervalActs
  split
  · exact s.onSwc_work _ W P rfl (fun _ h _ => h) rfl
  · exact State.ite_work (s.finishPurge_work W P) (.refl W P s)
  · exact .refl W P s

theorem washTimingActs_work (s : State) (old : Swc) (P : PumpId → Prop) :
    s.WorkFrame (fun _ => True) P (s.washTimingActs old) := by
  unfold State.washTimingActs
  exact (State.WorkFrame.refl _ P s)
    |>.whenNew (fun t => t.endWashes_work _ _ P)
    |>.whenNew (fun t => State.ite_work ((t.endSluice_work P).trans (State.publishHeld_work _ _ P)) (.refl _ P t))
    |>.whenNew (fun t => purgeIntervalActs_work t _ P)
    |>.whenNew (fun t => State.ite_work (t.finishPurge_work _ P) (.refl _ P t))
    |>.whenNew (fun t => State.ite_work (purgeOverdue_work t P) (.refl _ P t))
    |>.whenNew (fun t => State.ite_work (t.endWashes_work _ _ P) (.refl _ P t))

end Work

/-- The settings of the wash are the same across a piece of work. -/
theorem State.WorkFrame.timings {W : ScreenId → Prop} {P : PumpId → Prop} (h : s.WorkFrame W P t) :
    t.swc.timings = s.swc.timings := (congrArg Swc.timings h.wash.swc :)

/-! ## The header purge timer (R105) -/

/-- The header purge is IDLE, and on `c` its timer has just restarted. -/
def State.PurgeRests (c : Prop) (s : State) : Prop := s.swc.purge = .idle ∧ (c → s.swc.purgeTimer = 0)

namespace State.PurgeRests

theorem same (h : s.PurgeRests c) (kept : (t.swc.purge, t.swc.purgeTimer) = (s.swc.purge, s.swc.purgeTimer)) :
    t.PurgeRests c := by
  obtain ⟨purge, timer⟩ := Prod.mk.inj kept
  rw [PurgeRests, purge, timer]
  exact h

theorem of_aside {w : Swc} (h : s.PurgeRests c) (aside : t.swc.aside = w.aside)
    (kept : (w.purge, w.purgeTimer) = (s.swc.purge, s.swc.purgeTimer)) : t.PurgeRests c :=
  h.same ((congrArg (fun w : Swc => (w.purge, w.purgeTimer)) aside :).trans kept)

theorem duty {P : PumpId → Prop} (h : s.PurgeRests c) (k : s.DutyFrame P t) : t.PurgeRests c :=
  h.same (congrArg (fun w : Swc => (w.purge, w.purgeTimer)) k.grant.swc :)

theorem whenNew {old new : Nat} {f : State → State} (h : s.PurgeRests c)
    (hf : ∀ t : State, t.PurgeRests c → (f t).PurgeRests c) : (whenNew old new f s).PurgeRests c := by
  unfold Machine.whenNew
  split
  · exact h
  · exact hf s h

theorem washEnded (h : s.PurgeRests c) : (s.washEnded n w o .idle).PurgeRests c := by
  obtain ⟨sc, q, -, aside, -⟩ := concludeWash_cases s n w o (next := .idle) rfl
  obtain ⟨aside, -⟩ := Prod.mk.inj aside
  have concluded : (s.concludeWash n w o .idle).PurgeRests c :=
    h.of_aside aside rfl
  have flushed : ((s.concludeWash n w o .idle).flushTrough n w o).PurgeRests c := by
    refine concluded.same ?_
    unfold State.flushTrough
    split <;> rfl
  have idle := flushed.1
  have still : ((s.concludeWash n w o .idle).flushTrough n w o).activatePurge
      = (s.concludeWash n w o .idle).flushTrough n w o := if_neg (by rw [idle]; simp)
  rw [State.washEnded, still]
  exact flushed

theorem endWashes {p : State → ScreenId → Bool} (h : s.PurgeRests c) : (s.endWashes p o).PurgeRests c := by
  unfold State.endWashes
  refine List.foldlRecOn (motive := State.PurgeRests c) allScreens _ h fun t k n _ => ?_
  split
  · cases wash : (t.screen n).wash with
    | none => rw [endWash_none wash]; exact k
    | some w => exact k.washEnded.duty (endWash_duty wash fun _ => False)
  · exact k

theorem endSluice (h : s.PurgeRests c) : s.endSluice.PurgeRests c :=
  h.of_aside (Prod.mk.inj s.aside_endSluice).1 rfl

theorem interval (h : s.PurgeRests c) : s.purgeIntervalActs.PurgeRests True := by
  obtain ⟨idle, -⟩ := h
  rw [State.purgeIntervalActs, idle]
  exact ⟨idle, fun _ => rfl⟩

/-- A purge that is IDLE is not done. -/
theorem purgeTime (h : s.PurgeRests c) : (if s.swc.purgeDone then s.finishPurge else s).PurgeRests c := by
  rw [if_neg (by simp [Swc.purgeDone, h.1])]; exact h

/-- A purge that is IDLE is not late. -/
theorem deferral (h : s.PurgeRests c) : (if s.swc.purgeLate then s.purgeOverdue else s).PurgeRests c := by
  rw [if_neg (by simp [Swc.purgeLate, h.1])]; exact h

end State.PurgeRests

/-- A new header purge interval restarts the timer of an IDLE purge. -/
theorem washTimingActs_purgeTimer {old : Swc} (idle : s.swc.purge = .idle) (new : s.swc.purgeInterval ≠ old.purgeInterval) :
    (s.washTimingActs old).PurgeRests True := by
  have start : s.PurgeRests False := ⟨idle, nofun⟩
  have restarts (t : State) (k : t.PurgeRests False) :
      (whenNew old.purgeInterval s.swc.purgeInterval State.purgeIntervalActs t).PurgeRests True := by
    rw [Machine.whenNew, if_neg new]
    exact k.interval
  unfold State.washTimingActs
  dsimp only
  refine (((restarts _ ?_).whenNew fun _ k => k.purgeTime).whenNew fun _ k => k.deferral).whenNew fun t k => ?_
  · refine (start.whenNew fun _ k => k.endWashes).whenNew fun t k => ?_
    split
    · exact k.endSluice.duty (State.publishHeld_duty _ fun _ => False)
    · exact k
  · split
    · exact k.endWashes
    · exact k

/-! ## A screen whose wash has ended (R76, R87) -/

/-- The screen is idle in sound washes, and the result of its last wash is known. -/
structure State.Rested (n : ScreenId) (o : WashOutcome) (done : Nat) (s : State) : Prop where
  sound : s.SwcSound
  idle : (s.screen n).state = .idle
  result : ∃ r, (s.screen n).current = some r ∧ r.outcome = o ∧ r.done = done

namespace State.Rested
variable {d : Nat}

theorem whenNew {old new : Nat} {f : State → State} (h : s.Rested n o d) (hf : ∀ t : State, t.Rested n o d → (f t).Rested n o d) :
    (whenNew old new f s).Rested n o d := by
  unfold Machine.whenNew
  split
  · exact h
  · exact hf s h

theorem same (h : s.Rested n o d) (sound : t.SwcSound) (screen : t.screen n = s.screen n) : t.Rested n o d := by
  obtain ⟨-, idle, result⟩ := h
  exact ⟨sound, by rw [screen]; exact idle, by rw [screen]; exact result⟩

/-- Work that does not speak of the screen leaves it, for it has no queue entry. -/
theorem work {W : ScreenId → Prop} {P : PumpId → Prop} (h : s.Rested n o d) (k : s.KeepsWashes False t)
    (frame : s.WorkFrame W P t) (hn : ¬ W n) : t.Rested n o d :=
  h.same (k.washes h.sound) (frame.screen_kept hn (h.sound.not_queued (by rw [h.idle]; nofun)))

theorem endEach {p : State → ScreenId → Bool} {o' : WashOutcome} (h : s.Rested n o d) (l : List ScreenId) :
    (l.foldl (fun t m => if p t m && (t.screen m).state.isWashing then t.endWash m o' .idle else t) s).Rested n o d := by
  refine List.foldlRecOn (motive := State.Rested n o d) l _ h fun t k m _ => ?_
  split
  · next now =>
    have other : n ≠ m := by
      rintro rfl
      rw [k.idle] at now
      simp [ScreenState.isWashing] at now
    exact k.work (t.keepsWashes.endWash rfl) (t.endWash_work o' .idle (fun _ => False) (W := fun i => i = m) rfl) other
  · exact k

theorem endWashes {p : State → ScreenId → Bool} {o' : WashOutcome} (h : s.Rested n o d) :
    (s.endWashes p o').Rested n o d := h.endEach allScreens

theorem endSluice (h : s.Rested n o d) : s.endSluice.Rested n o d := by
  obtain ⟨sound, idle, r, current, outcome, done⟩ := h
  have released : s.endSluice.screen n = { s.screen n with
      previous := finalResult (s.screen n).previous, current := finalResult (s.screen n).current } :=
    State.screen_releaseResults _ n
  refine ⟨s.keepsWashes.endSluice.washes sound, by rw [released]; exact idle, { r with pending := false }, ?_, outcome, done⟩
  rw [released, current]; rfl

theorem publishHeld (h : s.Rested n o d) : s.publishHeld.Rested n o d :=
  h.work s.keepsWashes.publishHeld (s.publishHeld_work (fun _ => False) fun _ => False) id

theorem purgeIntervalActs (h : s.Rested n o d) : s.purgeIntervalActs.Rested n o d :=
  h.work s.keepsWashes.purgeIntervalActs (purgeIntervalActs_work s (fun _ => False) fun _ => False) id

theorem finishPurge (h : s.Rested n o d) : s.finishPurge.Rested n o d :=
  h.work s.keepsWashes.finishPurge (s.finishPurge_work (fun _ => False) fun _ => False) id

theorem purgeOverdue (h : s.Rested n o d) : s.purgeOverdue.Rested n o d := by
  refine h.same (s.keepsWashes.purgeOverdue.washes h.sound) ?_
  have still : (s.screen n).lastPass = s.screen n := if_neg (by rw [h.idle]; nofun)
  exact (State.finishContinuous_screen _ n).trans still

theorem settle (h : s.Rested n o d) : s.settle.Rested n o d :=
  h.work s.keepsWashes.settle (s.settle_work (fun _ => False) fun _ => False) id

theorem when {c : Prop} [Decidable c] (h : s.Rested n o d) (k : t.Rested n o d) : (if c then t else s).Rested n o d := by
  split
  · exact k
  · exact h

end State.Rested

/-! ## The pass timeout cut short (R68) -/

/-- The screen's wash is `w` still, or has ended STALLED. -/
def State.Stalls (n : ScreenId) (w : WashRecord) (s : State) : Prop :=
  s.Rested n .stalled (w.accepted - 1)
    ∨ s.SwcSound ∧ (s.screen n).wash = some w ∧ s.swc.passTimeout * 1000 ≤ w.passTimer

/-- The end of a screen's wash if that has stalled. -/
def State.stallScreen (s : State) (n : ScreenId) : State :=
  if s.stalled n && (s.screen n).state.isWashing then s.endWash n .stalled .idle else s

theorem stalls_other {m : ScreenId} (h : s.Stalls n w) (other : n ≠ m) : (s.stallScreen m).Stalls n w := by
  unfold State.stallScreen
  split
  · have ends := s.keepsWashes.endWash (n := m) (o := .stalled) (next := .idle) rfl
    have frame := s.endWash_work .stalled .idle (fun _ => False) (n := m) (W := fun i => i = m) rfl
    rcases h with rested | ⟨sound, wash, reached⟩
    · exact .inl (rested.work ends frame other)
    · have unqueued := sound.not_queued (ScreenState.not_queued_of_washing (sound.washing wash))
      have timeout : (s.endWash m .stalled .idle).swc.passTimeout = s.swc.passTimeout :=
        (congrArg Swc.passTimeout frame.wash.swc :)
      exact .inr ⟨ends.washes sound, by rw [frame.screen_kept other unqueued]; exact wash, by rw [timeout]; exact reached⟩
  · exact h

theorem stalls_self (h : s.Stalls n w) : (s.stallScreen n).Rested n .stalled (w.accepted - 1) := by
  unfold State.stallScreen
  rcases h with rested | ⟨sound, wash, reached⟩
  · rw [if_neg (by rw [rested.idle]; simp [ScreenState.isWashing])]
    exact rested
  · have stalled : s.stalled n = true := by simp [State.stalled, wash, Machine.reached, reached]
    have washing := sound.washing wash
    rw [if_pos (by rw [stalled, washing]; rfl)]
    have ended := endWash_screen (o := .stalled) (next := .idle) sound wash rfl (.inl nofun)
    exact ⟨(s.keepsWashes.endWash rfl).washes sound, by rw [ended]; rfl, by rw [ended]; exact ⟨_, rfl, rfl, rfl⟩⟩

theorem stallEach_rested (l : List ScreenId) (hn : n ∈ l) (h : s.Stalls n w) :
    (l.foldl State.stallScreen s).Rested n .stalled (w.accepted - 1) := by
  induction l generalizing s with
  | nil => cases hn
  | cons m l ih =>
    rw [List.foldl_cons]
    by_cases same : n = m
    · subst same
      exact (stalls_self h).endEach (p := fun u n => u.stalled n) l
    · exact ih (List.mem_of_ne_of_mem same hn) (stalls_other h same)

/-- A wash whose pass timer has reached the new pass timeout ends STALLED, whatever the other new values do. -/
theorem washTimingActs_stalls {old : Swc} (new : s.swc.passTimeout ≠ old.passTimeout) (h : s.Stalls n w) :
    (s.washTimingActs old).settle.Rested n .stalled (w.accepted - 1) := by
  have stalled : (whenNew old.passTimeout s.swc.passTimeout
      (fun t => t.endWashes (fun u n => u.stalled n) .stalled) s).Rested n .stalled (w.accepted - 1) := by
    rw [whenNew, if_neg new]
    exact stallEach_rested allScreens (mem_allScreens n) h
  refine State.Rested.settle ?_
  unfold State.washTimingActs
  exact stalled
    |>.whenNew (fun _ k => .when k k.endSluice.publishHeld)
    |>.whenNew (fun _ k => k.purgeIntervalActs)
    |>.whenNew (fun _ k => .when k k.finishPurge)
    |>.whenNew (fun _ k => .when k k.purgeOverdue)
    |>.whenNew (fun _ k => .when k k.endWashes)

/-! ## O37 -/

/-- Settles O37: the values taken are the clamped ones (`Swc.configure_eq`), and what the new ones do is read off the list of
their acts, for the header purge timer (`washTimingActs_purgeTimer`) and for a stalled wash (`washTimingActs_stalls`). -/
theorem washSettingsTaken : Obligations.WashSettingsTaken := by
  refine ⟨fun s c bad takes hbad => ⟨execSetScreen_refuses takes, fun n screen some => ?_⟩,
    fun s v c bad takes hv hbad => ⟨?_, fun some => ?_⟩⟩
  · refine ⟨_, ?_, rfl⟩
    rw [execSetScreen_takes takes screen some, screenClamped_eq, ← hbad, okCode_eq, takenData_eq]
    simp only [Screen.configure_eq]
  · rintro rfl
    exact execSetWashTiming_refuses takes
  · have set : v = s.onSwc fun w => w.configure c := by rw [hv, State.onSwc, Swc.configure_eq]
    have acts := washTimingActs_work v s.swc fun _ => False
    have work := acts.trans (State.settle_work _ _ _)
    have exec := execSetWashTiming_takes takes some
    rw [timingClamped_eq, ← hbad, okCode_eq, takenData_eq, ← set] at exec
    refine ⟨_, _, exec, fun none => by rw [none]; rfl, ?_, work, fun new idle => ?_, fun n w sound wash new reached => ?_⟩
    · exact congrArg (List.map Int.ofNat) work.timings
    · have idle' : v.swc.purge = .idle := by rw [set]; exact idle
      have rests := (washTimingActs_purgeTimer idle' new).duty (State.settle_duty _ fun _ => False)
      exact rests.2 trivial
    · have sound' : v.SwcSound := by rw [set]; exact (s.keepsWashes.onSwc (by rfl) (by rfl)).washes sound
      have wash' : (v.screen n).wash = .some w := by rw [set]; exact wash
      exact (washTimingActs_stalls new (.inr ⟨sound', wash', reached⟩)).result

end Sys2Proof.Machine
end

section
/-! PROOFS. SJAM rising and falling, and the capacity flags (R78, R92, R111): O32. -/

namespace Sys2Proof.Machine

variable {s t : State} {n : ScreenId} {w : WashRecord} {W : ScreenId → Prop} {P : PumpId → Prop}

/-! ## One screen changed twice, and through a piece of work -/

theorem onScreen_onScreen (s : State) (n : ScreenId) (f g : Screen → Screen) :
    (s.onScreen n f).onScreen n g = s.onScreen n fun sc => g (f sc) := by
  simp [State.onScreen, State.onSwc]

/-- A change of the settings and inputs of a screen of `W` goes along with a piece of work. -/
theorem State.WorkFrame.onScreen (h : s.WorkFrame W P t) (hn : W n) {f : Screen → Screen}
    (hf : ∀ a b : Screen, a.sansWash = b.sansWash → (f a).sansWash = (f b).sansWash) :
    (s.onScreen n f).WorkFrame W P (t.onScreen n f) := by
  obtain ⟨⟨phase, cfgsrc, lau, pending⟩, twu, ⟨swc, screens, queue, kept⟩, ⟨pdc, pumps, still⟩, ⟨slp, notices, slots⟩⟩ := h
  refine ⟨⟨phase, cfgsrc, lau, pending⟩, twu, ⟨swc, fun m => ?_, queue, fun m hm => ?_⟩, ⟨pdc, pumps, still⟩,
    ⟨slp, notices, slots⟩⟩
  · rw [State.screen_onScreen, State.screen_onScreen]
    split
    · exact hf _ _ (screens m)
    · exact screens m
  · have other : n ≠ m := by rintro rfl; exact hm hn
    rw [State.screen_onScreen, State.screen_onScreen, if_neg other, if_neg other]
    exact kept m hm

/-! ## The capacity flags (R111) -/

/-- A screen does not count, or counts, by its state and its verdict; a grant does not change it. -/
theorem counting_granted {sc : Screen} (e : QueueEntry) (queued : sc.state = .queued) :
    (sc.granted e).counting = sc.counting := by
  rw [Screen.counting, Screen.counting, queued]; rfl

/-- The capacity flags of the screens other than `n` are those the screens call for. -/
def State.CountsBut (n : ScreenId) (s : State) : Prop := ∀ m, m ≠ n → (s.screen m).counts = (s.screen m).counting

/-- Work on one screen leaves the flags of the others right. -/
theorem State.CountsBut.work (h : s.CountsBut n) (sound : s.SwcSound) (work : s.WorkFrame (fun m => m = n) P t) :
    t.CountsBut n := by
  intro m other
  rcases work.wash.kept m other with same | ⟨e, he, rfl, granted⟩
  · rw [same]; exact h m other
  · have queued := (sound.queue.2 _).1 (List.mem_map_of_mem he)
    rw [granted, counting_granted e queued]
    exact h _ other

/-- With the flags of the others right, forming all afresh forms that of one screen; a duty evaluation may follow. -/
theorem publishCapacity_duty (h : s.CountsBut n) (P : PumpId → Prop) :
    (s.onScreen n fun sc => { sc with counts := sc.counting }).DutyFrame P s.publishCapacity := by
  have screens : s.swc.screens.map (fun sc => { sc with counts := sc.counting })
      = (s.onScreen n fun sc => { sc with counts := sc.counting }).swc.screens := by
    refine screens_ext fun m => ?_
    have formed := State.screen_onScreen n m (fun sc => { sc with counts := sc.counting }) s
    simp only [State.screen, Fin.getElem_fin] at formed
    simp only [Fin.getElem_fin, Vector.getElem_map, formed]
    split
    · rfl
    · next other =>
      have right : s.swc.screens[m.val].counts = s.swc.screens[m.val].counting := h m (Ne.symm other)
      rw [← right]
  have same : (s.onSwc fun w => { w with screens := w.screens.map fun sc => { sc with counts := sc.counting } })
      = s.onScreen n fun sc => { sc with counts := sc.counting } := by
    simp only [State.onSwc, screens]; rfl
  unfold State.publishCapacity
  dsimp only
  rw [same]
  split
  · exact .refl P _
  · exact State.evaluationFollows_duty _ P

/-- Forming the flags after work on one screen: that screen alone changes its flag, to what its state and verdict call for. -/
theorem publishCapacity_settled (counts : s.CountsBut n) (sound : s.SwcSound) (work : s.WorkFrame (fun m => m = n) P t)
    {b : Bool} (counting : (t.screen n).counting = b) :
    (s.onScreen n fun sc => { sc with counts := b }).WorkFrame (fun m => m = n) P t.publishCapacity.settle
      ∧ (t.onScreen n fun sc => { sc with counts := b }).DutyFrame P t.publishCapacity.settle := by
  have formed := publishCapacity_duty (counts.work sound work) P
  rw [onScreen_congr (g := fun sc => { sc with counts := b }) (by rw [counting])] at formed
  have duty := formed.trans (State.settle_duty _ P)
  exact ⟨(work.onScreen rfl fun _ _ same => (congrArg (fun sc : Screen => { sc with counts := b }) same :)).trans
    (duty.work _), duty⟩

/-! ## The SCREEN_JAMMED notice (R78) -/

theorem notify_length (s : State) (c : NoticeClass) (k : NoticeKind) (u g : Nat) (a b : Int) :
    (s.notify c k u g a b).slp.notices.length ≤ s.slp.notices.length + 1 := by
  show (s.slp.enqueue _).notices.length ≤ _
  rcases s.slp.enqueue_cases ⟨c, k, u, g, a, b, s.stamp⟩ with ⟨-, e⟩ | ⟨-, -, d, q, -, hq, e⟩ | ⟨-, e⟩ <;> rw [e]
  · simp [Slp.append]
  · have := (displace_some hq).1
    simp [Slp.append]; omega
  · exact Nat.le_succ _

theorem announcePending_length (s : State) (n : ScreenId) (r : Option WashResult) :
    (s.announcePending n r).slp.notices.length ≤ s.slp.notices.length + 1 := by
  unfold State.announcePending
  split
  · split
    · rw [State.announce, State.complete_notices]; exact notify_length s _ _ _ _ _ _
    · exact Nat.le_succ _
  · exact Nat.le_succ _

/-- The end of a wash before the sluice queues one notice at most, that of a result pushed out of the pair. -/
theorem concludeWash_length {o : WashOutcome} (next : ScreenState) (ho : o ≠ .complete) :
    (s.concludeWash n w o next).slp.notices.length ≤ s.slp.notices.length + 1 := by
  have withdrawn (t : State) : (t.withdrawStaged n next).slp.notices = t.slp.notices := by
    unfold State.withdrawStaged
    rw [State.enterScreen, State.onScreen_slp, State.onScreen_slp]
    split
    · rfl
    · exact State.complete_notices ..
  have entered : (s.enterResult n (resultOf w o s.stamp)).slp.notices.length ≤ s.slp.notices.length + 1 :=
    announcePending_length s n _
  unfold State.concludeWash
  cases o
  case complete => exact absurd rfl ho
  all_goals
    dsimp only
    rw [State.onScreen_slp, withdrawn]
    exact entered

theorem jam_notified (room : s.slp.notices.length ≤ 30) (next : ScreenState) :
    ⟨.fault, .screenJammed, n.val + 1, 0, (w.done : Nat), 1, s.stamp⟩ ∈
      (s.washEnded n w .jammed next).slp.notices := by
  have length := concludeWash_length (s := s) (n := n) (w := w) (o := .jammed) next nofun
  have stamp : (s.concludeWash n w .jammed next).stamp = s.stamp :=
    (s.concludeWash_work w .jammed next (fun _ => False) (W := fun _ => True) trivial).link.stamp
  have link := ((s.concludeWash n w .jammed next).flushTrough n w .jammed).activatePurge_work (fun _ => False) (fun _ => False)
    |>.link
  refine link.notices _ ?_ rfl
  show _ ∈ (State.notify _ .fault .screenJammed (n.val + 1) 0 (w.done : Nat) 1).slp.notices
  rw [State.notify_room _ _ _ _ _ _ _ (by omega), stamp]
  exact List.mem_append_right _ (List.mem_singleton_self _)

/-! ## SJAM (R78, R92) -/

/-- SJAM of the screen as it is read. -/
def State.readJam (s : State) (n : ScreenId) (level : Bool) : State := s.onScreen n fun sc => { sc with jam := level }

theorem readJam_self {level : Bool} (same : (s.screen n).jam = level) : s.readJam n level = s :=
  onScreen_self (by rw [← same])

theorem jamLevel_same {level : Bool} (same : (s.screen n).jam = level) : s.jamLevel n level = s := if_pos same

theorem jamLevel_acts {level : Bool} (running : s.phase = .running) (new : (s.screen n).jam ≠ level) :
    s.jamLevel n level = (s.readJam n level).jamActs n level := by
  have active : (s.readJam n level).active = true := by simp [State.active, State.readJam, running]
  exact (if_neg new).trans (if_pos active)

theorem readJam_state (level : Bool) : ((s.readJam n level).screen n).state = (s.screen n).state := by
  rw [State.readJam, State.screen_onScreen_self]

/-- Before the end of LOADING, and on a screen with neither wash nor entry, a new level is read and nothing more. -/
theorem jamLevel_read (still : s.phase ≠ .running ∨ (s.screen n).state = .idle ∨ (s.screen n).state = .jammed
    ∨ (s.screen n).state = .outOfService) (level : Bool) : s.jamLevel n level = s.readJam n level := by
  by_cases same : (s.screen n).jam = level
  · rw [jamLevel_same same, readJam_self same]
  · by_cases running : s.phase = .running
    · rw [jamLevel_acts running same, State.jamActs, readJam_state]
      rcases still.resolve_left (absurd running) with state | state | state <;> rw [state]
    · have idle : (s.readJam n level).active = false := by simp [State.active, State.readJam, running]
      exact (if_neg same).trans (if_neg (by rw [State.readJam] at idle; rw [idle]; decide))

theorem jamActs_queued (queued : (s.screen n).state = .queued) (level : Bool) :
    s.jamActs n level = s.reevaluate.settle := by
  rw [State.jamActs, queued]

theorem jamActs_washing (washing : (s.screen n).state.isWashing = true) (level : Bool) : s.jamActs n level =
    if level then (s.endWash n .jammed .jammed).publishCapacity.settle else s := by
  unfold State.jamActs
  cases state : (s.screen n).state
  case washing | finishing => rfl
  all_goals rw [state] at washing; cases washing

/-- A jam ends the wash, takes the screen out of the capacity, and is notified at once (R78, R111). -/
theorem jammed_settled (sound : s.SwcSound) (counts : s.CountsBut n) (wash : (s.screen n).wash = some w) :
    let t := (s.endWash n .jammed .jammed).publishCapacity.settle
    t.screen n = { (s.screen n).ended w .jammed s.stamp .jammed with counts := false } ∧ t.SluiceRestarted
      ∧ (s.slp.notices.length ≤ 30 →
          ⟨.fault, .screenJammed, n.val + 1, 0, (w.done : Nat), 1, s.stamp⟩ ∈ t.slp.notices)
      ∧ (s.onScreen n fun sc => { sc with counts := false }).WorkFrame (fun m => m = n) (fun _ => False) t := by
  have ended := endWash_screen (o := .jammed) (next := .jammed) sound wash rfl (.inl nofun)
  have sound' := (s.keepsWashes.endWash (n := n) (o := .jammed) (next := .jammed) rfl).washes sound
  have work := s.endWash_work .jammed .jammed (fun _ => False) (n := n) (W := fun m => m = n) rfl
  obtain ⟨frame, duty⟩ := publishCapacity_settled counts sound work (b := false) (by rw [ended]; rfl)
  have unqueued := sound'.not_queued (n := n) (by rw [ended]; nofun)
  have restarted : ((s.endWash n .jammed .jammed).onScreen n fun sc => { sc with counts := false }).SluiceRestarted :=
    endWash_sluice (o := .jammed) (next := .jammed) wash
  refine ⟨?_, restarted.duty duty, fun room => duty.link.notices _ ?_ rfl, frame⟩
  · rw [duty.screen_of_not_queued n unqueued, State.screen_onScreen_self, ended]
  · exact (endWash_duty wash fun _ => False).link.notices _ (jam_notified room .jammed) rfl

theorem readJam_sound (sound : s.SwcSound) (level : Bool) : (s.readJam n level).SwcSound :=
  (s.keepsWashes.onScreen (by rfl)).washes sound

theorem readJam_counts (current : s.PublicationsCurrent) (level : Bool) : (s.readJam n level).CountsBut n := by
  intro m other
  rw [State.readJam, State.screen_onScreen, if_neg other.symm]
  exact current.counts m

/-! ## O32 -/

/-- Settles O32: by the level read before, the phase and the screen's state; the jam of a washing screen is the end of its wash
with the capacity formed afresh (`jammed_settled`). -/
theorem jamEdges : Obligations.JamEdges := by
  have rising (s : State) (n : ScreenId) {t : State} (h : s.jamLevel n true = t) : exec (.sjamRising n) s = .next t :=
    congrArg Host.Outcome.next h
  have falling (s : State) (n : ScreenId) {t : State} (h : s.jamLevel n false = t) : exec (.sjamFalling n) s = .next t :=
    congrArg Host.Outcome.next h
  intro s n
  refine ⟨fun same => rising s n (jamLevel_same same), fun same => falling s n (jamLevel_same same),
    fun still => ⟨rising s n (jamLevel_read still true), falling s n (jamLevel_read still false)⟩,
    fun running queued level new => ⟨_, ?_, (State.reevaluate_duty _ _).trans (State.settle_duty _ _)⟩,
    fun w running sound current clear wash => ⟨⟨s, falling _ n ?_, rfl⟩, ?_⟩⟩
  · have acts : s.jamLevel n level = (s.readJam n level).reevaluate.settle := by
      rw [jamLevel_acts running new, jamActs_queued (by rw [readJam_state]; exact queued)]
    cases level
    · exact falling s n acts
    · exact rising s n acts
  · have washing := sound.washing wash
    have back : (s.readJam n true).readJam n false = s :=
      (onScreen_onScreen s n _ _).trans (onScreen_self (by rw [← clear]))
    refine (jamLevel_acts (s := s.readJam n true) running ?_).trans ?_
    · rw [State.readJam, State.screen_onScreen_self]; nofun
    · rw [back, jamActs_washing washing]; rfl
  · have read : (s.readJam n true).screen n = { s.screen n with jam := true } := State.screen_onScreen_self n _ s
    obtain ⟨screen, sluice, notified, frame⟩ :=
      jammed_settled (s := s.readJam n true) (n := n) (w := w) (readJam_sound sound true) (readJam_counts current true)
        (by rw [read]; exact wash)
    refine ⟨_, rising s n ((jamLevel_acts running (by rw [clear]; nofun)).trans
      (jamActs_washing (by rw [readJam_state]; exact sound.washing wash) true)), ?_, sluice, notified, ?_⟩
    · rw [if_pos rfl, screen, read]; rfl
    · rw [if_pos rfl]
      rwa [State.readJam, onScreen_onScreen] at frame

end Sys2Proof.Machine
end

section
/-! PROOFS. STOP WASH, CLEAR SCREEN and SET SERVICE (R79, R80, R85, R93, R111): O36. -/

namespace Sys2Proof.Machine

variable {s t u : State} {n : ScreenId} {w : WashRecord} {m : Nat} {i : SlotId}

/-! ## The completion of the request that follows (R179) -/

theorem find_slot (i : SlotId) : allSlots.find? (fun j => decide (j = i)) = some i := by
  revert i
  decide

theorem find_follows (h : s.Follows m i) : allSlots.find? (fun j => followedBy m s.slp.slots[j]) = some i := by
  simp only [h _]
  exact find_slot i

theorem complete_followed (h : s.Follows m i) (r d : Nat) :
    (s.complete (some m) r d).slp.slots[i] =
      if s.slp.fallback then none else s.slp.slots[i].map fun sl => { sl with state := .done r d s.stamp 0 } := by
  unfold State.complete
  dsimp only
  rw [find_follows h]
  simp

/-- The outcome stands in the slot. -/
theorem complete_done (h : s.Follows m i) (outside : s.slp.fallback = false) (r d : Nat) :
    s.DoneWith (s.complete (some m) r d) i r d := by
  rw [State.DoneWith, complete_followed h, outside]; rfl

theorem slotFollows_none {f : Bool} {stamp : Nat} {b : Option Slot} (h : slotFollows f stamp none b) : b = none := by
  rcases h with same | ⟨_, some, -⟩
  · exact same
  · cases some

theorem slotFollows_done {f : Bool} {stamp : Nat} {sl : Slot} {b : Option Slot} (h : slotFollows f stamp (some sl) b)
    (done : sl.state ≠ .inProgress) : b = some sl := by
  rcases h with same | ⟨sl', some, progress, -⟩
  · exact same
  · obtain rfl := Option.some.inj some
    exact absurd progress done

/-- No later work touches a slot that is DONE. -/
theorem State.DoneWith.link {r d : Nat} (h : s.DoneWith t i r d) (k : t.LinkFrame u) : s.DoneWith u i r d := by
  have follows := k.slots i
  rw [h] at follows
  unfold State.DoneWith
  cases slot : s.slp.slots[i] with
  | none => rw [slot] at follows; exact slotFollows_none follows
  | some sl => rw [slot] at follows; exact slotFollows_done follows nofun

/-! ## A queue entry removed (R79, R80, R85) -/

/-- The mark of the screen's entry, which stands once in the queue. -/
theorem queueMark_of_mem {e : QueueEntry} (sound : s.SwcSound) (he : e ∈ s.swc.queue) : s.queueMark e.screen = e.mark := by
  have once := List.inj_on_of_nodup_map sound.queue.1
  unfold State.queueMark
  cases found : s.swc.queue.find? (fun d => d.screen = e.screen) with
  | none =>
    have := List.find?_eq_none.1 found e he
    simp at this
  | some d =>
    have on : d.screen = e.screen := by simpa using List.find?_some found
    rw [once (List.mem_of_find?_eq_some found) he on]

/-- A removal before the arbiter re-evaluates. -/
def State.entryRemoved (s : State) (n : ScreenId) (next : ScreenState) : State :=
  ((s.complete (s.queueMark n) 6 0).leaveQueue n).enterScreen n next

theorem removeEntry_eq (s : State) (n : ScreenId) (next : ScreenState) :
    s.removeEntry n next = (s.entryRemoved n next).reevaluate := rfl

theorem entryRemoved_unqueued (s : State) (n : ScreenId) (next : ScreenState) :
    ∀ e ∈ (s.entryRemoved n next).swc.queue, e.screen ≠ n := by
  intro e he
  have left : e ∈ (s.complete (s.queueMark n) 6 0).swc.queue.filter fun e => e.screen ≠ n := he
  simpa using (List.mem_filter.1 left).2

theorem removeEntry_screen (s : State) (n : ScreenId) (next : ScreenState) : (s.removeEntry n next).screen n =
    { s.screen n with state := next, drive := next.isWashing, spray := next.isWashing } := by
  rw [removeEntry_eq, (State.reevaluate_duty _ fun _ => False).screen_of_not_queued n (entryRemoved_unqueued s n next),
    State.entryRemoved, State.screen_enterScreen, if_pos rfl, State.screen_leaveQueue, State.screen_complete]

/-- WITHDRAWN is handed for the mark of the entry. -/
theorem removeEntry_done {e : QueueEntry} (sound : s.SwcSound) (he : e ∈ s.swc.queue) (mark : e.mark = some m)
    (follows : s.Follows m i) (outside : s.slp.fallback = false) (next : ScreenState) :
    s.DoneWith (s.removeEntry e.screen next) i 6 0 := by
  have done := complete_done follows outside 6 0
  rw [← mark, ← queueMark_of_mem sound he] at done
  have left : s.DoneWith (s.entryRemoved e.screen next) i 6 0 := done
  rw [removeEntry_eq]
  exact left.link (State.reevaluate_duty _ fun _ => False).link

/-! ## STOP WASH (R79) -/

theorem stopWash_rest (rest : (s.screen n).state.atRest = true) : s.stopWash n = s := by
  unfold State.stopWash
  cases state : (s.screen n).state
  case outOfService | idle | jammed => rfl
  all_goals rw [state] at rest; cases rest

theorem stopWash_washing (washing : (s.screen n).state.isWashing = true) :
    s.stopWash n = (s.endWash n .abortedByRequest .idle).settle := by
  unfold State.stopWash
  cases state : (s.screen n).state
  case washing | finishing => rfl
  all_goals rw [state] at washing; cases washing

theorem stopWash_queued (queued : (s.screen n).state = .queued) : s.stopWash n = (s.removeEntry n .idle).settle := by
  rw [State.stopWash, queued]

theorem execStopWash_bad {v : Nat} (takes : s.Takes (.stopWash (.args v))) (bad : v = 0 ∨ 6 < v) :
    exec (.stopWash (.args v)) s = .next (s.reply .badArgument []) := by
  refine congrArg Host.Outcome.next ((args_takes takes v _).trans ?_)
  rw [index1_none bad]; rfl

theorem execStopWash_fallback (takes : s.Takes (.stopWash (.args (n.val + 1)))) (fallback : s.slp.fallback = true) :
    exec (.stopWash (.args (n.val + 1))) s = .next (s.reply .inFallback []) := by
  refine congrArg Host.Outcome.next ((args_takes takes _ _).trans ?_)
  simp only [index1_succ, outsideFallback, fallback, if_true]; rfl

theorem execStopWash_acts (takes : s.Takes (.stopWash (.args (n.val + 1)))) (outside : s.slp.fallback = false) :
    exec (.stopWash (.args (n.val + 1))) s = .next ((s.stopWash n).reply .ok []) := by
  refine congrArg Host.Outcome.next ((args_takes takes _ _).trans ?_)
  simp only [index1_succ, outsideFallback, outside]; rfl

/-! ## CLEAR SCREEN (R93) -/

theorem execClearScreen_bad {v : Nat} (takes : s.Takes (.clearScreen (.args v))) (bad : v = 0 ∨ 6 < v) :
    exec (.clearScreen (.args v)) s = .next (s.reply .badArgument []) := by
  refine congrArg Host.Outcome.next ((args_takes takes v _).trans ?_)
  rw [index1_none bad]; rfl

theorem execClearScreen_state (takes : s.Takes (.clearScreen (.args (n.val + 1)))) (other : (s.screen n).state ≠ .jammed) :
    exec (.clearScreen (.args (n.val + 1))) s = .next (s.reply .state []) := by
  refine congrArg Host.Outcome.next ((args_takes takes _ _).trans ?_)
  simp only [index1_succ]
  cases state : (s.screen n).state
  case jammed => exact absurd state other
  all_goals rfl

theorem execClearScreen_active (takes : s.Takes (.clearScreen (.args (n.val + 1))))
    (jammed : (s.screen n).state = .jammed) (jam : (s.screen n).jam = true) :
    exec (.clearScreen (.args (n.val + 1))) s = .next (s.reply .jamActive []) := by
  refine congrArg Host.Outcome.next ((args_takes takes _ _).trans ?_)
  simp only [index1_succ, jammed, jam, if_true]; rfl

theorem execClearScreen_clears (takes : s.Takes (.clearScreen (.args (n.val + 1))))
    (jammed : (s.screen n).state = .jammed) (clear : (s.screen n).jam = false) :
    exec (.clearScreen (.args (n.val + 1))) s = .next (((s.enterScreen n .idle).publishCapacity.settle).reply .ok []) := by
  refine congrArg Host.Outcome.next ((args_takes takes _ _).trans ?_)
  simp only [index1_succ, jammed, clear]; rfl

/-- A cleared screen is idle and counts by its verdict (R93, R111). -/
theorem cleared_settled (sound : s.SwcSound) (current : s.PublicationsCurrent) (jammed : (s.screen n).state = .jammed) :
    let t := (s.enterScreen n .idle).publishCapacity.settle
    t.screen n = { s.screen n with state := .idle, drive := false, spray := false, counts := (s.screen n).verdict }
      ∧ (s.onScreen n fun sc => { sc with
          state := .idle, drive := false, spray := false, counts := sc.verdict }).DutyFrame (fun _ => False) t := by
  have entered : (s.enterScreen n .idle).screen n = { s.screen n with state := .idle, drive := false, spray := false } :=
    State.screen_onScreen_self n _ s
  obtain ⟨-, duty⟩ := publishCapacity_settled (n := n) (fun m _ => current.counts m) sound
    (s.enterScreen_work .idle (fun _ => False) (W := fun m => m = n) rfl) (b := (s.screen n).verdict) (by rw [entered]; rfl)
  have unqueued := sound.not_queued (n := n) (by rw [jammed]; nofun)
  refine ⟨?_, ?_⟩
  · rw [duty.screen_of_not_queued n unqueued, State.screen_onScreen_self, entered]
  · rw [State.enterScreen, onScreen_onScreen] at duty
    rwa [onScreen_congr rfl] at duty

/-! ## SET SERVICE (R80) -/

/-- The in-service setting of a screen taken. -/
def State.setInService (s : State) (n : ScreenId) (v : Bool) : State := s.onScreen n fun sc => { sc with inService := v }

/-- What SET SERVICE does to a screen. -/
def State.serviceTo (s : State) (n : ScreenId) (v : Bool) : State := if v then s.serviceIn n else s.serviceOut n

theorem execSetService_bad {v x : Nat} (takes : s.Takes (.setService (.args (x, v)))) (bad : x = 0 ∨ 6 < x ∨ 1 < v) :
    exec (.setService (.args (x, v))) s = .next (s.reply .badArgument []) := by
  refine congrArg Host.Outcome.next ((args_takes takes _ _).trans ?_)
  have neither : index1 6 x = none ∨ yesNo v = none := by
    rcases bad with zero | above | other
    · exact .inl (index1_none (.inl zero))
    · exact .inl (index1_none (.inr above))
    · right
      match v, other with
      | v + 2, _ => rfl
  rcases neither with none | none
  · simp only [none]; rfl
  · cases screen : index1 6 x <;> simp only [none] <;> rfl

theorem execSetService_fallback {v : Nat} (takes : s.Takes (.setService (.args (n.val + 1, v)))) (yes : v ≤ 1)
    (fallback : s.slp.fallback = true) :
    exec (.setService (.args (n.val + 1, v))) s = .next (s.reply .inFallback []) := by
  refine congrArg Host.Outcome.next ((args_takes takes _ _).trans ?_)
  have value : yesNo v = some (decide (v = 1)) := by interval_cases v <;> rfl
  simp only [index1_succ, value, outsideFallback, fallback, if_true]; rfl

theorem execSetService_acts {v : Nat} (takes : s.Takes (.setService (.args (n.val + 1, v)))) (yes : v ≤ 1)
    (outside : s.slp.fallback = false) : exec (.setService (.args (n.val + 1, v))) s =
      .next ((((s.setInService n (decide (v = 1))).serviceTo n (decide (v = 1))).publishCapacity.settle).reply .ok []) := by
  refine congrArg Host.Outcome.next ((args_takes takes _ _).trans ?_)
  have value : yesNo v = some (decide (v = 1)) := by interval_cases v <;> rfl
  simp only [index1_succ, value, outsideFallback, outside]; rfl

theorem enterScreen_self (s : State) (n : ScreenId) (st : ScreenState) : (s.enterScreen n st).screen n =
    { s.screen n with state := st, drive := st.isWashing, spray := st.isWashing } := State.screen_onScreen_self n _ s

theorem serviceTo_work (s : State) (n : ScreenId) (v : Bool) : s.WorkFrame (fun m => m = n) (fun _ => False) (s.serviceTo n v) := by
  have enters (st : ScreenState) : s.WorkFrame (fun m => m = n) (fun _ => False) (s.enterScreen n st) :=
    s.enterScreen_work st _ rfl
  unfold State.serviceTo State.serviceIn State.serviceOut
  split
  · split
    · exact State.ite_work ((enters .jammed).trans (State.notify_work ..)) (enters .idle)
    all_goals exact .refl _ _ s
  · split
    iterate 2 exact s.endWash_work _ _ _ rfl
    · exact s.removeEntry_work _ _ rfl
    iterate 2 exact enters _
    · exact .refl _ _ s

theorem serviceTo_keepsWashes (s : State) (n : ScreenId) (v : Bool) : s.KeepsWashes False (s.serviceTo n v) :=
  .ite s.keepsWashes.serviceIn s.keepsWashes.serviceOut

/-- Out of service the screen holds no wash. -/
theorem serviceOut_screen (sound : s.SwcSound) (n : ScreenId) : ((s.serviceOut n).screen n).state = .outOfService
    ∧ ((s.serviceOut n).screen n).wash = none ∧ ((s.serviceOut n).screen n).staged = none := by
  have kept : (s.serviceOut n).SwcSound := (s.keepsWashes.serviceOut (n := n)).washes sound
  have out : ((s.serviceOut n).screen n).state = .outOfService := by
    have ends (washing : (s.screen n).state.isWashing = true) :
        ((s.endWash n .abortedByRequest .outOfService).screen n).state = .outOfService := by
      obtain ⟨w, wash⟩ := Option.isSome_iff_exists.1 ((sound.records n).trans washing)
      rw [endWash_screen (o := .abortedByRequest) (next := .outOfService) sound wash rfl (.inl nofun)]; rfl
    unfold State.serviceOut
    split
    · next state => exact ends (by rw [state]; rfl)
    · next state => exact ends (by rw [state]; rfl)
    · rw [removeEntry_screen]
    iterate 2 rw [enterScreen_self]
    · assumption
  exact ⟨out, kept.noWash (by rw [out]; rfl)⟩

theorem serviceOut_washing (wash : (s.screen n).state.isWashing = true) :
    s.serviceOut n = s.endWash n .abortedByRequest .outOfService := by
  unfold State.serviceOut
  cases state : (s.screen n).state
  case washing | finishing => rfl
  all_goals rw [state] at wash; cases wash

theorem serviceIn_inService (state : (s.screen n).state ≠ .outOfService) : s.serviceIn n = s := by
  unfold State.serviceIn
  cases now : (s.screen n).state
  case outOfService => exact absurd now state
  all_goals rfl

theorem serviceIn_state (state : (s.screen n).state = .outOfService) :
    ((s.serviceIn n).screen n).state = if (s.screen n).jam then .jammed else .idle := by
  rw [State.serviceIn, state]
  cases jam : (s.screen n).jam
  · exact congrArg Screen.state (enterScreen_self s n .idle)
  · exact congrArg Screen.state (enterScreen_self s n .jammed)

theorem serviceIn_notice (state : (s.screen n).state = .outOfService) (jam : (s.screen n).jam = true)
    (room : s.slp.notices.length < 32) :
    ⟨.fault, .screenJammed, n.val + 1, 0, 0, 0, s.stamp⟩ ∈ (s.serviceIn n).slp.notices := by
  have room' : (s.enterScreen n .jammed).slp.notices.length < 32 := room
  simp only [State.serviceIn, state, jam, if_true, State.foundJammed, State.notify_room _ _ _ _ _ _ _ room']
  exact List.mem_append_right _ (List.mem_singleton_self _)

/-- With every flag as its screen calls for, forming them afresh changes nothing. -/
theorem publishCapacity_current (h : ∀ m, (s.screen m).counts = (s.screen m).counting) : s.publishCapacity = s := by
  have screens : s.swc.screens.map (fun sc => { sc with counts := sc.counting }) = s.swc.screens := by
    refine screens_ext fun m => ?_
    have right : s.swc.screens[m.val].counts = s.swc.screens[m.val].counting := h m
    simp only [Fin.getElem_fin, Vector.getElem_map, ← right]
  have same : (s.onSwc fun w => { w with screens := w.screens.map fun sc => { sc with counts := sc.counting } }) = s := by
    simp only [State.onSwc, screens]
  unfold State.publishCapacity
  dsimp only
  rw [same, if_pos rfl]

theorem settle_still (h : s.pdc.evaluationDue = false) : s.settle = s := if_neg (by rw [h]; decide)

/-- SET SERVICE, with the capacity formed afresh and the duty evaluations: the screen alone is moved, and its flag is what
its state and its verdict call for. -/
theorem service_settled (sound : s.SwcSound) (current : s.PublicationsCurrent) (n : ScreenId) (v : Bool) :
    let r := (s.setInService n v).serviceTo n v
    (s.onScreen n fun sc => { sc with inService := v, counts := (r.screen n).counting }).WorkFrame (fun m => m = n)
        (fun _ => False) r.publishCapacity.settle
      ∧ (r.onScreen n fun sc => { sc with counts := (r.screen n).counting }).DutyFrame (fun _ => False)
        r.publishCapacity.settle := by
  have sound' : (s.setInService n v).SwcSound := (s.keepsWashes.onScreen (by rfl)).washes sound
  have counts : (s.setInService n v).CountsBut n := by
    intro m other
    rw [State.setInService, State.screen_onScreen, if_neg other.symm]
    exact current.counts m
  obtain ⟨frame, duty⟩ := publishCapacity_settled counts sound' (serviceTo_work _ n v) rfl
  rw [State.setInService, onScreen_onScreen] at frame
  exact ⟨frame, duty⟩

/-- What SET SERVICE makes of a screen that is not queued after it. -/
theorem service_screen (sound : s.SwcSound) (current : s.PublicationsCurrent) {v : Bool} {sc : Screen}
    (screen : ((s.setInService n v).serviceTo n v).screen n = sc) (unqueued : sc.state ≠ .queued) :
    ((s.setInService n v).serviceTo n v).publishCapacity.settle.screen n = { sc with counts := sc.counting } := by
  obtain ⟨-, duty⟩ := service_settled sound current n v
  have sound' : (s.setInService n v).SwcSound := (s.keepsWashes.onScreen (by rfl)).washes sound
  have sound'' := (serviceTo_keepsWashes _ n v).washes sound'
  rw [duty.screen_of_not_queued n (sound''.not_queued (by rw [screen]; exact unqueued)), State.screen_onScreen_self,
    screen]

theorem setInService_screen (s : State) (n : ScreenId) (v : Bool) :
    (s.setInService n v).screen n = { s.screen n with inService := v } := State.screen_onScreen_self n _ s

/-- Out of service, a screen holds no wash and does not count (R80, R111). -/
theorem serviceOut_settled (sound : s.SwcSound) (current : s.PublicationsCurrent) (n : ScreenId) :
    let t := ((s.setInService n false).serviceTo n false).publishCapacity.settle
    (t.screen n).state = .outOfService ∧ (t.screen n).counts = false ∧ (t.screen n).wash = none
      ∧ (t.screen n).staged = none := by
  have sound' : (s.setInService n false).SwcSound := (s.keepsWashes.onScreen (by rfl)).washes sound
  obtain ⟨out, wash, staged⟩ : (((s.setInService n false).serviceTo n false).screen n).state = .outOfService ∧ _ :=
    serviceOut_screen sound' n
  dsimp only
  rw [service_screen (n := n) (v := false) sound current rfl (by rw [out]; nofun)]
  refine ⟨out, ?_, wash, staged⟩
  rw [Screen.counting, out]
  rfl

/-- Taken out of service, a washing screen ends its wash (R80). -/
theorem serviceOut_ended (sound : s.SwcSound) (current : s.PublicationsCurrent) (wash : (s.screen n).wash = some w) :
    let t := ((s.setInService n false).serviceTo n false).publishCapacity.settle
    t.screen n = { (s.screen n).ended w .abortedByRequest s.stamp .outOfService with inService := false, counts := false }
      ∧ t.SluiceRestarted := by
  have sound' : (s.setInService n false).SwcSound := (s.keepsWashes.onScreen (by rfl)).washes sound
  have set := setInService_screen s n false
  have wash' : ((s.setInService n false).screen n).wash = some w := by rw [set]; exact wash
  have ends : (s.setInService n false).serviceTo n false
      = (s.setInService n false).endWash n .abortedByRequest .outOfService := serviceOut_washing (sound'.washing wash')
  have ended := endWash_screen (o := .abortedByRequest) (next := .outOfService) sound' wash' rfl (.inl nofun)
  rw [← ends] at ended
  obtain ⟨-, duty⟩ := service_settled sound current n false
  have restarted : ((s.setInService n false).serviceTo n false).SluiceRestarted := by
    rw [ends]; exact endWash_sluice wash'
  refine ⟨?_, State.SluiceRestarted.duty (s := State.onScreen _ _ _) restarted duty⟩
  rw [service_screen sound current ended (by nofun), set]
  rfl

/-- Taken into service, a screen is idle, or jammed with its notice (R80, R92). -/
theorem serviceIn_settled (sound : s.SwcSound) (current : s.PublicationsCurrent)
    (out : (s.screen n).state = .outOfService) :
    let t := ((s.setInService n true).serviceTo n true).publishCapacity.settle
    (t.screen n).state = (if (s.screen n).jam then .jammed else .idle)
      ∧ ((s.screen n).jam = true → s.slp.notices.length < 32 →
          ⟨.fault, .screenJammed, n.val + 1, 0, 0, 0, s.stamp⟩ ∈ t.slp.notices) := by
  have set := setInService_screen s n true
  have out' : ((s.setInService n true).screen n).state = .outOfService := by rw [set]; exact out
  obtain ⟨-, duty⟩ := service_settled sound current n true
  have state : (((s.setInService n true).serviceTo n true).screen n).state = if (s.screen n).jam then .jammed else .idle := by
    refine (serviceIn_state out').trans ?_
    rw [set]
  refine ⟨?_, fun jam room => duty.link.notices _ ?_ rfl⟩
  · rw [service_screen (n := n) (v := true) sound current rfl (by rw [state]; split <;> nofun)]
    exact state
  · exact serviceIn_notice out' (by rw [set]; exact jam) room

/-- In service already, nothing but the setting is taken. -/
theorem serviceIn_same (current : s.PublicationsCurrent) (state : (s.screen n).state ≠ .outOfService)
    (still : s.pdc.evaluationDue = false) :
    ((s.setInService n true).serviceTo n true).publishCapacity.settle = s.setInService n true := by
  have same : (s.setInService n true).serviceTo n true = s.setInService n true :=
    serviceIn_inService (by rw [setInService_screen]; exact state)
  rw [same, publishCapacity_current fun m => ?_]
  · exact settle_still still
  · rw [State.setInService, State.screen_onScreen]
    split
    · exact current.counts m
    · exact current.counts m

/-! ## O36 -/

/-- Settles O36: each request by the screen's state; what follows the end of a wash or the removal of an entry leaves the
screen, which has no entry any more, and a slot that is DONE. -/
theorem screenRequestsActAtOnce : Obligations.ScreenRequestsActAtOnce := by
  refine ⟨fun s v takes => ⟨execStopWash_bad takes, ?_⟩, fun s v takes => ⟨execClearScreen_bad takes, ?_⟩,
    fun s n v takes => ⟨execSetService_bad takes, ?_⟩⟩
  · rintro n rfl
    refine ⟨execStopWash_fallback takes, fun outside => ?_⟩
    have acts := execStopWash_acts takes outside
    refine ⟨fun rest => ?_, fun w sound wash => ?_, fun sound queued => ?_⟩
    · rwa [stopWash_rest (by rcases rest with state | state | state <;> rw [state] <;> rfl)] at acts
    · rw [stopWash_washing (sound.washing wash)] at acts
      exact ⟨_, acts, endWash_settled sound wash rfl (.inl nofun)⟩
    · rw [stopWash_queued queued] at acts
      have screen := removeEntry_screen s n .idle
      have duty := (s.removeEntry n .idle).settle_duty fun _ => False
      have sound' := (s.keepsWashes.removeEntry (next := .idle) queued rfl).washes sound
      refine ⟨_, acts, ?_, (s.removeEntry_work .idle _ (W := fun m => m = n) rfl).trans (duty.work _), ?_⟩
      · rw [duty.screen_of_not_queued n (sound'.not_queued (by rw [screen]; nofun)), screen]; rfl
      · rintro e m i he rfl mark follows
        exact (removeEntry_done sound he mark follows outside .idle).link duty.link
  · rintro n rfl
    exact ⟨execClearScreen_state takes, execClearScreen_active takes, fun jammed clear sound current =>
      ⟨_, execClearScreen_clears takes jammed clear, cleared_settled sound current jammed⟩⟩
  · rintro k rfl yes
    refine ⟨execSetService_fallback takes yes, fun outside sound current => ⟨_, execSetService_acts takes yes outside, ?_⟩⟩
    obtain ⟨frame, duty⟩ := service_settled sound current k (decide (v = 1))
    have counts := (duty.counts k).trans (congrArg Screen.counts (State.screen_onScreen_self k _ _))
    refine ⟨by rw [counts]; exact frame, ?_, fun w => ?_, ?_, ?_⟩
    · rintro rfl
      exact serviceOut_settled sound current k
    · rintro rfl wash
      exact serviceOut_ended sound current wash
    · rintro rfl out
      exact serviceIn_settled sound current out
    · rintro rfl state still
      exact serviceIn_same current state still

end Sys2Proof.Machine
end

section
/-! PROOFS. An index pulse (R70..R73, R76, R83, R84, R101): O30. -/

namespace Sys2Proof.Machine

variable {s t v : State} {n : ScreenId} {w : WashRecord} {g : Staged} {e : QueueEntry} {P : PumpId → Prop}

/-! ## An entry of the wash queue through the grants (R101, R103) -/

/-- The entry of a queued screen stays with its screen, or that starts the wash of the entry. -/
theorem queued_or_granted (sound : v.SwcSound) (he : e ∈ v.swc.queue) (duty : v.DutyFrame P t)
    (keeps : v.KeepsWashes False t) :
    (t.screen e.screen = v.screen e.screen ∧ e ∈ t.swc.queue) ∨ t.screen e.screen = (v.screen e.screen).granted e := by
  have once := List.inj_on_of_nodup_map sound.queue.1
  rcases duty.grant.screens e.screen with same | ⟨d, hd, on, granted⟩
  · have queued : (t.screen e.screen).state = .queued := by
      rw [same]; exact (sound.queue.2 _).1 (List.mem_map_of_mem he)
    obtain ⟨d, hd, on⟩ := List.mem_map.1 (((keeps.washes sound).queue.2 _).2 queued)
    rw [once (duty.grant.queue.subset hd) he on] at hd
    exact .inl ⟨same, hd⟩
  · rw [once hd he on] at granted
    exact .inr granted

/-- The newest entry stays the newest. -/
theorem getLast_of_sublist {α : Type} {l q : List α} {a : α} (sub : l.Sublist (q ++ [a])) (mem : a ∈ l) (fresh : a ∉ q) :
    l.getLast? = some a := by
  obtain ⟨l₁, l₂, rfl, left, right⟩ := List.sublist_append_iff.1 sub
  rcases List.sublist_singleton.1 right with rfl | rfl
  · rw [List.append_nil] at mem
    exact absurd (left.subset mem) fresh
  · simp

/-! ## An accepted pulse (R71..R73) -/

theorem execIndexPulse_still (still : (s.screen n).state.isWashing = false) : exec (.indexPulse n) s = .next s :=
  congrArg Host.Outcome.next (if_neg (by rw [still]; simp))

section Washing
variable (running : s.phase = .running) (wash : (s.screen n).wash = some w)
include running wash

theorem execIndexPulse_acts (washing : (s.screen n).state.isWashing = true) : exec (.indexPulse n) s = .next
    (if w.guarded s.swc.indexGuard then s.setWash n { w with doubleIndex := true } else s.acceptPulse n w.accept) := by
  refine congrArg Host.Outcome.next ((if_pos (by simp [State.active, running, washing])).trans ?_)
  rw [wash]

theorem execIndexPulse_guarded (washing : (s.screen n).state.isWashing = true)
    (early : ∃ g, w.guard = some g ∧ g < s.swc.indexGuard * 1000) :
    exec (.indexPulse n) s = .next (s.onScreen n fun sc => { sc with wash := some { w with doubleIndex := true } }) := by
  obtain ⟨g, guard, before⟩ := early
  have guarded : w.guarded s.swc.indexGuard = true := by simp [WashRecord.guarded, guard, reached, before]
  rw [execIndexPulse_acts running wash washing, if_pos guarded]; rfl

theorem execIndexPulse_accepted (washing : (s.screen n).state.isWashing = true)
    (due : ∀ g, w.guard = some g → s.swc.indexGuard * 1000 ≤ g) :
    exec (.indexPulse n) s = .next (s.acceptPulse n w.accept) := by
  have free : w.guarded s.swc.indexGuard = false := by
    unfold WashRecord.guarded
    cases guard : w.guard with
    | none => rfl
    | some g => simp [reached, due g guard]
  rw [execIndexPulse_acts running wash washing, if_neg (by rw [free]; decide)]

end Washing

theorem acceptPulse_continuous (washing : (s.screen n).state = .washing) (continuous : w.passes = 0) :
    s.acceptPulse n w = s.setWash n w := by
  rw [State.acceptPulse, washing]
  exact if_pos continuous

theorem acceptPulse_counts (washing : (s.screen n).state = .washing) (counted : w.passes ≠ 0) (more : w.counter ≠ 0) :
    s.acceptPulse n w = s.setWash n { w with counter := w.counter - 1 } := by
  rw [State.acceptPulse, washing]
  exact (if_neg counted).trans (if_neg more)

theorem acceptPulse_last (washing : (s.screen n).state = .washing) (counted : w.passes ≠ 0) (last : w.counter = 0) :
    s.acceptPulse n w = s.onScreen n fun sc => { sc with
      wash := some w, state := .finishing, drive := true, spray := true } := by
  rw [State.acceptPulse, washing]
  exact ((if_neg counted).trans (if_pos last)).trans (onScreen_onScreen s n _ _)

theorem acceptPulse_finishing (finishing : (s.screen n).state = .finishing) :
    s.acceptPulse n w = ((s.setWash n w).endWash n .complete .idle).settle := by rw [State.acceptPulse, finishing]

/-! ## The end COMPLETE with a staged wash (R83, R84) -/

theorem washEnded_succeeded (next : ScreenState) (staged : (s.screen n).staged = some g)
    (allowed : s.successionAllowed = true) :
    (s.washEnded n w .complete next).screen n = { (s.screen n).ended w .complete s.stamp .washing with
        drive := true, spray := true
        wash := some { passes := g.passes, cls := g.cls, mark := g.mark, counter := g.passes - 1, guard := some 0 } }
      ∧ (s.washEnded n w .complete next).swc.queue = s.swc.queue := by
  obtain ⟨screens, aside⟩ := concludeWash_succeeded s w next staged allowed
  refine ⟨(washEnded_screen s n n w .complete next).trans ((screens n).trans (if_pos rfl)),
    (washEnded_queue s n w .complete next).trans ?_⟩
  exact (queue_of_aside (congrArg Prod.fst aside)).1

theorem washEnded_requeued (next : ScreenState) (staged : (s.screen n).staged = some g)
    (barred : s.successionAllowed = false) :
    (s.washEnded n w .complete next).screen n = (s.screen n).ended w .complete s.stamp .queued
      ∧ (s.washEnded n w .complete next).swc.queue = s.swc.queue ++ [⟨n, g.cls, g.passes, g.mark, 0⟩] := by
  obtain ⟨screens, aside⟩ := concludeWash_requeued s w next staged barred
  refine ⟨(washEnded_screen s n n w .complete next).trans ((screens n).trans (if_pos rfl)),
    (washEnded_queue s n w .complete next).trans ?_⟩
  exact (queue_of_aside (congrArg Prod.fst aside)).1

theorem washEnded_keepsWashes {o : WashOutcome} {next : ScreenState} (wash : (s.screen n).wash = some w)
    (rest : next.atRest = true) : s.KeepsWashes False (s.washEnded n w o next) :=
  (s.keepsWashes.concludeWash wash rest).flushTrough.activatePurge

/-- By succession the screen washes the staged wash (R83). -/
theorem succeeded_settled (sound : s.SwcSound) (wash : (s.screen n).wash = some w) (staged : (s.screen n).staged = some g)
    (allowed : s.successionAllowed = true) :
    (s.endWash n .complete .idle).settle.screen n = { (s.screen n).ended w .complete s.stamp .washing with
      drive := true, spray := true
      wash := some { passes := g.passes, cls := g.cls, mark := g.mark, counter := g.passes - 1, guard := some 0 } } := by
  obtain ⟨screen, queue⟩ := washEnded_succeeded (w := w) .idle staged allowed
  have duty := (endWash_duty (o := .complete) (next := .idle) wash fun _ => False).trans (State.settle_duty _ _)
  have unqueued := sound.not_queued (ScreenState.not_queued_of_washing (sound.washing wash))
  rw [duty.screen_of_not_queued n (by rw [queue]; exact unqueued), screen]

/-- With succession barred the staged wash joins the wash queue, where the arbiter may grant it (R84). -/
theorem requeued_settled (sound : s.SwcSound) (wash : (s.screen n).wash = some w) (staged : (s.screen n).staged = some g)
    (barred : s.successionAllowed = false) :
    let t := (s.endWash n .complete .idle).settle
    let u := (s.screen n).ended w .complete s.stamp .queued
    let e : QueueEntry := ⟨n, g.cls, g.passes, g.mark, 0⟩
    ((t.screen n = u ∧ t.swc.queue.getLast? = some e) ∨ t.screen n = u.granted e)
      ∧ (s.twu.condition.mode = .hold → t.screen n = u ∧ t.swc.queue = s.swc.queue ++ [e]) := by
  intro t u e
  obtain ⟨screen, queue⟩ := washEnded_requeued (w := w) .idle staged barred
  have keeps := washEnded_keepsWashes (o := .complete) (next := .idle) wash rfl
  have duty := (endWash_duty (o := .complete) (next := .idle) wash fun _ => False).trans (State.settle_duty _ _)
  have unqueued := sound.not_queued (ScreenState.not_queued_of_washing (sound.washing wash))
  have settled : (s.washEnded n w .complete .idle).KeepsWashes False t := by
    have after := (s.washEnded n w .complete .idle).keepsWashes.publishHeld.reevaluate.settle
    rwa [← endWash_eq wash] at after
  refine ⟨?_, fun hold => ?_⟩
  · have joined : e ∈ (s.washEnded n w .complete .idle).swc.queue := by
      rw [queue]; exact List.mem_append_right _ (List.mem_singleton_self e)
    have either := queued_or_granted (keeps.washes sound) joined duty settled
    rw [show e.screen = n from rfl, screen] at either
    refine either.imp_left fun ⟨same, mem⟩ => ⟨same, getLast_of_sublist ?_ mem fun he => unqueued e he rfl⟩
    rw [← queue]
    exact duty.grant.queue
  · have hold' : s.GrantsBarred := .inl hold
    obtain ⟨ended, screens⟩ := endWash_barred (o := .complete) (next := .idle) wash hold'
    obtain ⟨settled, screens'⟩ := settle_barred
      (hold'.work (s.endWash_work .complete .idle (fun _ => False) (n := n) (W := fun _ => True) trivial))
    refine ⟨?_, settled.trans (ended.trans queue)⟩
    rw [State.screen, screens', screens]
    exact screen

/-! ## O30 -/

/-- Settles O30: by the guard, the screen's state, and, at the end of the wash, the staged wash and whether succession is
allowed. -/
theorem indexPulseActs : Obligations.IndexPulseActs := by
  intro s n running
  refine ⟨execIndexPulse_still, ?_⟩
  rintro w a washing wash rfl
  refine ⟨execIndexPulse_guarded running wash washing, fun due => ?_⟩
  have accepts := execIndexPulse_accepted running wash washing due
  refine ⟨fun state continuous => ?_, fun state counted more => ?_, fun state counted last => ?_, fun state sound => ?_⟩
  · rw [accepts, acceptPulse_continuous (w := w.accept) state continuous]; rfl
  · rw [accepts, acceptPulse_counts (w := w.accept) state counted more]; rfl
  · rw [accepts, acceptPulse_last (w := w.accept) state counted last]; rfl
  · rw [acceptPulse_finishing state] at accepts
    have set : (s.setWash n w.accept).screen n = { s.screen n with wash := some w.accept } := State.screen_onScreen_self n _ s
    have sound' := (s.keepsWashes.setWash (w := w.accept) washing).washes sound
    have wash' : ((s.setWash n w.accept).screen n).wash = some w.accept := by rw [set]
    have ended (st : ScreenState) : ((s.setWash n w.accept).screen n).ended w.accept .complete s.stamp st
        = (s.screen n).ended w.accept .complete s.stamp st := by rw [set]; rfl
    have frame : s.WorkFrame (fun m => m = n) (fun _ => False) (s.setWash n w.accept) :=
      s.onScreen_work _ _ _ rfl fun _ => rfl
    refine ⟨_, accepts, (endWash_sluice wash').duty (State.settle_duty _ fun _ => False),
      frame.trans ((State.endWash_work _ _ _ _ (W := fun m => m = n) rfl).trans (State.settle_work _ _ _)), fun unstaged => ?_,
      fun g staged mode prompt => ?_, ?_⟩
    · have alone : ((s.setWash n w.accept).screen n).staged = none := by rw [set]; exact unstaged
      exact (endWash_settled sound' wash' rfl (.inr alone)).1.trans (ended .idle)
    · have staged' : ((s.setWash n w.accept).screen n).staged = some g := by rw [set]; exact staged
      have allowed : (s.setWash n w.accept).successionAllowed = true := by
        simp [State.successionAllowed, State.setWash, State.onScreen, mode, prompt]
      rw [succeeded_settled sound' wash' staged' allowed]
      exact congrArg (fun sc : Screen => { sc with
        drive := true, spray := true
        wash := some { passes := g.passes, cls := g.cls, mark := g.mark, counter := g.passes - 1, guard := some 0 } })
        (ended .washing)
    · rintro g u e staged bars rfl rfl
      have staged' : ((s.setWash n w.accept).screen n).staged = some g := by rw [set]; exact staged
      have barred : (s.setWash n w.accept).successionAllowed = false := by
        rcases bars with hold | overdue <;> simp [State.successionAllowed, State.setWash, State.onScreen, *]
      have requeued := requeued_settled sound' wash' staged' barred
      dsimp only at requeued
      rw [show (s.setWash n w.accept).stamp = s.stamp from rfl, ended .queued] at requeued
      exact requeued

end Sys2Proof.Machine
end

section
/-! PROOFS. The end of the sluice run and the header purge (R74, R88, R89, R105..R110, R179): O33. -/

namespace Sys2Proof.Machine

variable {s t u : State} {n : ScreenId} {m r d : Nat} {i j : SlotId}

/-! ## The announcements of a release, in order (R88, R89) -/

/-- The pending results of a screen, PREVIOUS before CURRENT. -/
def Screen.pendings (sc : Screen) : List WashResult := (sc.previous.toList ++ sc.current.toList).filter (·.pending)

/-- Every pending result, screens in ascending number. -/
def State.pendings (s : State) (l : List ScreenId) : List (ScreenId × WashResult) :=
  l.flatMap fun n => (s.screen n).pendings.map (Prod.mk n)

/-- Results made final one after another. -/
def State.announceAll (s : State) (l : List (ScreenId × WashResult)) : State := l.foldl (fun t x => t.announce x.1 x.2) s

theorem announceAll_append (s : State) (l k : List (ScreenId × WashResult)) :
    s.announceAll (l ++ k) = (s.announceAll l).announceAll k := List.foldl_append

theorem announcePending_eq (s : State) (n : ScreenId) (r : Option WashResult) :
    s.announcePending n r = s.announceAll ((r.toList.filter (·.pending)).map (Prod.mk n)) := by
  unfold State.announcePending
  cases r with
  | none => rfl
  | some r => cases pending : r.pending <;> simp [pending, State.announceAll]

theorem releaseScreen_slp (s : State) (n : ScreenId) :
    (s.releaseScreen n).slp = (s.announceAll ((s.screen n).pendings.map (Prod.mk n))).slp := by
  rw [Screen.pendings, List.filter_append, List.map_append, announceAll_append, ← announcePending_eq,
    ← announcePending_eq]
  rfl

/-- What a completion makes of the link rests on the link alone. -/
theorem complete_slp_congr (h : t.slp = u.slp) (k : Option Nat) (r d : Nat) :
    (t.complete k r d).slp = (u.complete k r d).slp := by
  have stamp : t.stamp = u.stamp := by rw [State.stamp, State.stamp, h]
  unfold State.complete
  cases k with
  | none => exact h
  | some m =>
    dsimp only
    rw [h]
    split
    · exact h
    · rw [State.onSlp_slp, State.onSlp_slp, h, stamp]

theorem announce_slp_congr (h : t.slp = u.slp) (n : ScreenId) (r : WashResult) :
    (t.announce n r).slp = (u.announce n r).slp := by
  refine complete_slp_congr ?_ _ _ _
  have stamp : t.stamp = u.stamp := by rw [State.stamp, State.stamp, h]
  rw [State.notify, State.notify, stamp, State.onSlp_slp, State.onSlp_slp, h]

theorem announceAll_slp_congr (h : t.slp = u.slp) (l : List (ScreenId × WashResult)) :
    (t.announceAll l).slp = (u.announceAll l).slp := by
  induction l generalizing t u with
  | nil => exact h
  | cons x l ih => exact ih (announce_slp_congr h x.1 x.2)

/-- The link after a release is that after the announcements, one after another. -/
theorem releaseEach_slp (l : List ScreenId) (distinct : l.Nodup) :
    (l.foldl State.releaseScreen s).slp = (s.announceAll (s.pendings l)).slp := by
  induction l generalizing s with
  | nil => rfl
  | cons n l ih =>
    obtain ⟨absent, distinct⟩ := List.nodup_cons.1 distinct
    have others : (s.releaseScreen n).pendings l = s.pendings l := by
      refine List.flatMap_congr fun m hm => ?_
      rw [State.screen_releaseScreen, if_neg (by rintro rfl; exact absent hm)]
    have first : s.pendings (n :: l) = (s.screen n).pendings.map (Prod.mk n) ++ s.pendings l := List.flatMap_cons
    rw [List.foldl_cons, ih distinct, others, first, announceAll_append]
    exact announceAll_slp_congr (releaseScreen_slp s n) _

theorem releaseResults_slp (s : State) : s.releaseResults.slp = (s.announceAll (s.pendings allScreens)).slp :=
  releaseEach_slp allScreens (by decide)

/-! ## Their notices (R89) -/

/-- The WASH_COMPLETE notice of a result. -/
def State.completeNotice (s : State) (x : ScreenId × WashResult) : Notice :=
  ⟨.completion, .washComplete, x.1.val + 1, x.2.origin.code + 8 * flag x.2.doubleIndex, x.2.outcome.code,
    (min x.2.done 32767 : Nat), s.stamp⟩

theorem announce_stamp (s : State) (n : ScreenId) (r : WashResult) : (s.announce n r).stamp = s.stamp := by
  simp [State.announce]

theorem announceAll_notices (l : List (ScreenId × WashResult)) (room : s.slp.notices.length + l.length ≤ 32) :
    (s.announceAll l).slp.notices = s.slp.notices ++ l.map s.completeNotice := by
  induction l generalizing s with
  | nil => simp [State.announceAll]
  | cons x l ih =>
    rw [List.length_cons] at room
    have one : (s.announce x.1 x.2).slp.notices = s.slp.notices ++ [s.completeNotice x] := by
      rw [State.announce, State.complete_notices]
      exact State.notify_room _ _ _ _ _ _ _ (by omega)
    have notice : (s.announce x.1 x.2).completeNotice = s.completeNotice := by
      funext y; rw [State.completeNotice, announce_stamp]; rfl
    refine (ih (s := s.announce x.1 x.2) ?_).trans ?_
    · rw [one, List.length_append, List.length_singleton]; omega
    · rw [one, notice]; simp

theorem pendings_length (s : State) : (s.pendings allScreens).length ≤ 12 := by
  have two (n : ScreenId) : (s.screen n).pendings.length ≤ 2 := by
    refine (List.length_filter_le _ _).trans ?_
    rw [List.length_append]
    cases (s.screen n).previous <;> cases (s.screen n).current <;> simp
  have sum : (s.pendings allScreens).length ≤ (allScreens.map fun _ => 2).sum := by
    rw [State.pendings, List.length_flatMap]
    refine List.sum_le_sum fun n _ => ?_
    rw [List.length_map]
    exact two n
  exact sum

/-- The notices of the announcements, in order, there being room. -/
theorem pendings_notices (room : s.slp.notices.length ≤ 20) : (s.announceAll (s.pendings allScreens)).slp.notices =
    s.slp.notices ++ allScreens.flatMap fun n => (s.screen n).pendings.map fun r => s.completeNotice (n, r) := by
  have := pendings_length s
  rw [announceAll_notices _ (by omega), State.pendings, List.map_flatMap]
  simp only [List.map_map]
  rfl

/-! ## Their slots (R179) -/

/-- A completion leaves a slot that does not follow. -/
theorem complete_other (h : followedBy m s.slp.slots[i] = false) (r d : Nat) :
    (s.complete (some m) r d).slp.slots[i] = s.slp.slots[i] := by
  unfold State.complete
  dsimp only
  cases found : allSlots.find? (fun j => followedBy m s.slp.slots[j]) with
  | none => rfl
  | some j =>
    have follows : followedBy m s.slp.slots[j] = true := by simpa using List.find?_some found
    have other : j.val ≠ i.val := fun e => by
      rw [show j = i from Fin.ext e, h] at follows
      cases follows
    simp [other]

/-- The slot that follows, as the outcome leaves it. -/
def State.slotOutcome (s : State) (i : SlotId) (r d : Nat) : Option Slot :=
  if s.slp.fallback then none else s.slp.slots[i].map fun sl => { sl with state := .done r d s.stamp 0 }

theorem slotOutcome_unfollowed (s : State) (i : SlotId) (k r d : Nat) : followedBy k (s.slotOutcome i r d) = false := by
  unfold State.slotOutcome
  split
  · rfl
  · cases s.slp.slots[i] <;> simp [followedBy]

/-- One slot alone follows two numbers only if they are one. -/
theorem follows_number {k : Nat} (h : s.Follows m i) (follows : followedBy k s.slp.slots[i] = true) : k = m := by
  have own : followedBy m s.slp.slots[i] = true := by rw [h i]; simp
  unfold followedBy at own follows
  cases slot : s.slp.slots[i] with
  | none => rw [slot] at own; cases own
  | some sl =>
    rw [slot] at own follows
    simp only [decide_eq_true_eq] at own follows
    exact follows.1.symm.trans own.1

/-- Another outcome leaves the slot that follows, and that it alone follows. -/
theorem complete_keeps_follows {k : Nat} (h : s.Follows m i) (other : k ≠ m) (r d : Nat) :
    (s.complete (some k) r d).Follows m i ∧ (s.complete (some k) r d).slp.slots[i] = s.slp.slots[i] := by
  have free : followedBy k s.slp.slots[i] = false := Bool.eq_false_iff.2 fun follows => other (follows_number h follows)
  have kept := complete_other free r d
  refine ⟨fun j => ?_, kept⟩
  by_cases same : j = i
  · subst same; rw [kept]; exact h j
  · have link := (s.complete_link (some k) r d).slots j
    have before : followedBy m s.slp.slots[j] = false := by rw [h j]; simpa using same
    rw [decide_eq_false same]
    rcases link with e | ⟨sl, -, -, ⟨-, e⟩ | ⟨-, r, d, e⟩⟩
    · rw [e]; exact before
    · rw [e]; rfl
    · rw [e]; simp [followedBy]

/-- What the announcements have made of the slot that follows a wash. -/
inductive State.Handed (s : State) (m : Nat) (i : SlotId) (r d : Nat) (told : Prop) (t : State) : Prop
  | waits (not : ¬ told) (follows : t.Follows m i) (kept : t.slp.slots[i] = s.slp.slots[i])
  | done (slot : t.slp.slots[i] = s.slotOutcome i r d)

/-- The result is the one whose outcome is handed, where its mark is the one that is followed. -/
def WashResult.Tells (x : WashResult) (m r d : Nat) : Prop := x.mark = some m → x.outcome.code = r ∧ x.done = d

theorem announce_link (s : State) (n : ScreenId) (x : WashResult) : s.LinkFrame (s.announce n x) :=
  (s.announce_duty n x fun _ => False).link

/-- The notice before the outcome touches no slot. -/
theorem announce_eq (s : State) (n : ScreenId) (x : WashResult) :
    ∃ u : State, s.announce n x = u.complete x.mark x.outcome.code x.done ∧ u.slp.slots = s.slp.slots ∧ s.LinkFrame u :=
  ⟨_, rfl, by simp [State.notify], s.notify_link ..⟩

theorem announce_handed {told : Prop} {x : WashResult} (link : s.LinkFrame t) (h : s.Handed m i r d told t)
    (tells : x.Tells m r d) : s.Handed m i r d (told ∨ x.mark = some m) (t.announce n x) := by
  obtain ⟨u, told', slots, noted⟩ := announce_eq t n x
  obtain fallback := (link.trans noted).fallback
  obtain stamp := (link.trans noted).stamp
  rw [told']
  rcases h with ⟨not, follows, kept⟩ | slot
  · have follows' : u.Follows m i := fun j => by rw [slots]; exact follows j
    cases mark : x.mark with
    | none => exact .waits (by simp [not]) follows' (by rw [State.complete_none, slots, kept])
    | some k =>
      by_cases own : k = m
      · subst own
        obtain ⟨rfl, rfl⟩ := tells mark
        refine .done ?_
        rw [complete_followed follows', fallback, stamp, slots, kept]
        rfl
      · obtain ⟨follows'', kept'⟩ := complete_keeps_follows follows' own x.outcome.code x.done
        exact .waits (by simp [not, own]) follows'' (by rw [kept', slots, kept])
  · refine .done ?_
    have before : u.slp.slots[i] = s.slotOutcome i r d := by rw [slots, slot]
    cases x.mark with
    | none => exact before
    | some k =>
      rw [complete_other (by rw [before]; exact slotOutcome_unfollowed s i k r d)]
      exact before

theorem announceAll_handed (l : List (ScreenId × WashResult)) (tells : ∀ x ∈ l, x.2.Tells m r d) {told : Prop}
    (link : s.LinkFrame t) (h : s.Handed m i r d told t) :
    s.Handed m i r d (told ∨ ∃ x ∈ l, x.2.mark = some m) (t.announceAll l) := by
  induction l generalizing t told with
  | nil => simpa [State.announceAll] using h
  | cons x l ih =>
    obtain ⟨first, later⟩ := List.forall_mem_cons.1 tells
    have := ih later (link.trans (announce_link t x.1 x.2)) (announce_handed (n := x.1) link h first)
    rw [show t.announceAll (x :: l) = (t.announce x.1 x.2).announceAll l from rfl]
    simpa only [List.mem_cons, exists_eq_or_imp, or_assoc] using this

/-- The slot that alone follows the pending results of one number holds their outcome, or is freed in fallback. -/
theorem announceAll_outcome {l : List (ScreenId × WashResult)} {x : ScreenId × WashResult} (hx : x ∈ l)
    (mark : x.2.mark = some m) (follows : s.Follows m i)
    (same : ∀ y ∈ l, y.2.mark = some m → y.2.outcome = x.2.outcome ∧ y.2.done = x.2.done) :
    (s.announceAll l).slp.slots[i] = s.slotOutcome i x.2.outcome.code x.2.done := by
  have tells : ∀ y ∈ l, y.2.Tells m x.2.outcome.code x.2.done := fun y hy own => by
    obtain ⟨outcome, done⟩ := same y hy own
    exact ⟨by rw [outcome], done⟩
  rcases announceAll_handed (told := False) l tells (.refl s) (.waits id follows rfl) with ⟨not, -, -⟩ | slot
  · exact absurd (.inr ⟨x, hx, mark⟩) not
  · exact slot

/-- A slot that follows no pending result is left. -/
theorem announceAll_other {l : List (ScreenId × WashResult)}
    (free : ∀ x ∈ l, ∀ k, x.2.mark = some k → followedBy k s.slp.slots[i] = false) :
    (s.announceAll l).slp.slots[i] = s.slp.slots[i] := by
  induction l generalizing s with
  | nil => rfl
  | cons x l ih =>
    obtain ⟨first, later⟩ := List.forall_mem_cons.1 free
    have kept : (s.announce x.1 x.2).slp.slots[i] = s.slp.slots[i] := by
      obtain ⟨u, told, slots, -⟩ := announce_eq s x.1 x.2
      rw [told]
      cases mark : x.2.mark with
      | none => rw [State.complete_none, slots]
      | some k => rw [complete_other (by rw [slots]; exact first k mark), slots]
    exact (ih (s := s.announce x.1 x.2) fun y hy k mark => by rw [kept]; exact later y hy k mark).trans kept

theorem mem_pendings {x : ScreenId × WashResult} : x ∈ s.pendings allScreens ↔
    x.2 ∈ (s.screen x.1).previous.toList ++ (s.screen x.1).current.toList ∧ x.2.pending = true := by
  obtain ⟨n, r⟩ := x
  simp only [State.pendings, Screen.pendings, List.mem_flatMap, List.mem_map, List.mem_filter, Prod.mk.injEq]
  constructor
  · rintro ⟨_, -, _, ⟨mem, pending⟩, rfl, rfl⟩
    exact ⟨mem, pending⟩
  · rintro ⟨mem, pending⟩
    exact ⟨n, mem_allScreens n, r, ⟨mem, pending⟩, rfl, rfl⟩

/-! ## Duty evaluations that order no stop (R146, R147) -/

/-- In MANUAL with no stop due, bringing a scope up to date makes none due and touches that scope alone. -/
theorem updateScope_calm {k : ScopeId} (due : s.NoDueStop) :
    ∃ x : Scope, x.due = .none ∧ s.updateScope k = s.onScope k fun _ => x := by
  have still : s.onScope k (fun _ => s.pdc.scopes[k]) = s := by
    have scopes : s.pdc.scopes.set k s.pdc.scopes[k] = s.pdc.scopes := by simp
    unfold State.onScope State.onPdc
    dsimp only
    rw [scopes]
  unfold State.updateScope
  split
  · rw [due k]
    dsimp only
    split
    · exact ⟨{ s.pdc.scopes[k] with timer := some 0 }, due k, rfl⟩
    · exact ⟨s.pdc.scopes[k], due k, still.symm⟩
  · exact ⟨{}, rfl, rfl⟩

/-- What calm duty evaluations change: the timers of the scopes, and whether an evaluation is due. -/
structure State.Calm (s t : State) : Prop where
  mode : t.pdc.mode = .manual
  due : t.NoDueStop
  same : ∃ (k : Vector Scope 4) (b : Bool), t = s.onPdc fun d => { d with scopes := k, evaluationDue := b }

theorem updateScope_keeps_calm (h : s.Calm t) (k : ScopeId) : s.Calm (t.updateScope k) := by
  obtain ⟨mode, due, scopes, b, same⟩ := h
  obtain ⟨x, none, acts⟩ := updateScope_calm (k := k) due
  rw [acts]
  refine ⟨mode, fun j => ?_, scopes.set k x, b, by rw [same]; rfl⟩
  rw [State.scope_onScope]
  split
  · exact none
  · exact due j

/-- In MANUAL with no stop due, the duty evaluations move no pump. -/
theorem evaluations_calm (n : Nat) (h : s.Calm t) : s.Calm (State.evaluations n t) := by
  induction n generalizing t with
  | zero => exact h
  | succ n ih =>
    unfold State.evaluations
    split
    · refine ih ?_
      obtain ⟨mode, due, scopes, b, same⟩ := h
      have begun : s.Calm (t.onPdc fun d => { d with evaluationDue := false }) :=
        ⟨mode, due, scopes, false, by rw [same]; rfl⟩
      have after := List.foldlRecOn (motive := s.Calm) allScopes State.updateScope begun fun t k i _ =>
        updateScope_keeps_calm k i
      unfold State.dutyEvaluate
      dsimp only
      rw [after.mode]
      exact after
    · exact h

theorem settle_calm (manual : s.pdc.mode = .manual) (due : s.NoDueStop) : s.Calm s.settle :=
  evaluations_calm 32 ⟨manual, due, s.pdc.scopes, s.pdc.evaluationDue, rfl⟩

/-! ## The sluice run ends (R88, R109) -/

theorem execSluiceRunEnd_ends (running : s.phase = .running) (sluicing : s.swc.sluicing = true)
    (elapsed : s.swc.sluiceTime * 1000 ≤ s.swc.sluiceMs) : exec .sluiceRunEnd s = .next s.endSluice.publishHeld.settle := by
  have done : s.swc.sluiceDone = true := by simp [Swc.sluiceDone, sluicing, reached, elapsed]
  exact congrArg Host.Outcome.next (if_pos (by simp [State.active, running, done]))

/-- The part with the sluice valve closed. -/
def State.sluiceClosed (s : State) : State := s.onSwc fun w => { w with sluicing := false, sluiceMs := 0, sluv := false }

theorem endSluice_screen (s : State) (n : ScreenId) : s.endSluice.screen n = { s.screen n with
    previous := released (s.screen n).previous, current := released (s.screen n).current } :=
  State.screen_releaseResults s.sluiceClosed n

theorem endSluice_slp (s : State) : s.endSluice.slp = (s.announceAll (s.pendings allScreens)).slp :=
  (releaseResults_slp s.sluiceClosed).trans (announceAll_slp_congr (t := s.sluiceClosed) (u := s) rfl _)

theorem sluiceMs_of_aside {w : Swc} {d : Pdc} (h : s.aside = (w.aside, d)) : s.swc.sluiceMs = w.sluiceMs :=
  (congrArg (fun x : Swc × Pdc => x.1.sluiceMs) h :)

theorem endSluice_fields (s : State) : s.endSluice.swc.sluicing = false ∧ s.endSluice.swc.sluv = false
    ∧ s.endSluice.swc.sluiceMs = 0 ∧ s.endSluice.swc.queue = s.swc.queue ∧ s.endSluice.pdc = s.pdc := by
  have aside := s.aside_endSluice
  obtain ⟨sluicing, sluv, queue, -, -, pdc⟩ := State.fields_of_aside aside
  exact ⟨sluicing, sluv, sluiceMs_of_aside aside, queue, pdc⟩

theorem endSluice_eq (s : State) : s.endSluice = s.sluiceClosed.releaseResults := rfl

/-- The slot that follows a pending result, after a release. -/
theorem endSluice_slot {x : WashResult}
    (hx : x ∈ (s.screen n).previous.toList ++ (s.screen n).current.toList) (pending : x.pending = true)
    (mark : x.mark = some m) (follows : s.Follows m i)
    (same : ∀ (n' : ScreenId) (y : WashResult), y ∈ (s.screen n').previous.toList ++ (s.screen n').current.toList →
      y.pending = true → y.mark = some m → y.outcome = x.outcome ∧ y.done = x.done) :
    s.endSluice.slp.slots[i] = s.slotOutcome i x.outcome.code x.done := by
  rw [endSluice_slp]
  refine announceAll_outcome (x := (n, x)) (mem_pendings.2 ⟨hx, pending⟩) mark follows fun y hy own => ?_
  obtain ⟨mem, pending'⟩ := mem_pendings.1 hy
  exact same y.1 y.2 mem pending' own

/-- Later work leaves an outcome that has been handed. -/
theorem slotOutcome_stays (before : t.slp.slots[i] = s.slotOutcome i r d) (link : t.LinkFrame u) :
    u.slp.slots[i] = s.slotOutcome i r d := by
  have follows := link.slots i
  rw [before] at follows
  cases outcome : s.slotOutcome i r d with
  | none => rw [outcome] at follows; exact slotFollows_none follows
  | some sl =>
    rw [outcome] at follows
    refine slotFollows_done follows fun progress => ?_
    have unfollowed := slotOutcome_unfollowed s i sl.opening r d
    rw [outcome] at unfollowed
    simp [followedBy, progress] at unfollowed

/-- Header held published, and the duty evaluations in MANUAL with no stop due, leave the link. -/
theorem publishHeld_settle_slp (manual : s.pdc.mode = .manual) (due : s.NoDueStop) :
    s.publishHeld.settle.slp = s.slp := by
  have held : s.publishHeld.slp = s.slp ∧ s.publishHeld.pdc.mode = .manual ∧ s.publishHeld.NoDueStop := by
    unfold State.publishHeld
    split
    · exact ⟨rfl, manual, due⟩
    · exact ⟨rfl, manual, due⟩
  obtain ⟨slp, mode, due'⟩ := held
  obtain ⟨-, -, _, _, same⟩ := settle_calm mode due'
  rw [same, State.onPdc_slp, slp]

theorem granted_wash (sc sc' : Screen) (e : QueueEntry) : (sc.granted e).wash = (sc'.granted e).wash := rfl

theorem granted_state (sc : Screen) (e : QueueEntry) : (sc.granted e).state = .washing := rfl

/-- What the end of the sluice run leaves, the duty evaluations included. -/
theorem endSluice_duty (s : State) : s.endSluice.DutyFrame (fun _ => False) s.endSluice.publishHeld.settle :=
  (State.publishHeld_duty _ _).trans (State.settle_duty _ _)

/-! ## The header purge (R105..R107) -/

theorem reached_minutes (timer k : Nat) : reached timer (k * 60) = decide (k * 60000 ≤ timer) :=
  decide_eq_decide.2 (by omega)

theorem execHeaderPurgeTimerExpiry_falls (running : s.phase = .running) (idle : s.swc.purge = .idle)
    (interval : s.swc.purgeInterval ≠ 0) (elapsed : s.swc.purgeInterval * 60000 ≤ s.swc.purgeTimer) :
    exec .headerPurgeTimerExpiry s =
      .next (s.onSwc fun w => { w with purge := .pending, pendingMs := 0 }).activatePurge.publishHeld.settle := by
  have falls : s.swc.purgeFalls = true := by
    simp [Swc.purgeFalls, idle, interval, reached_minutes, elapsed]
  exact congrArg Host.Outcome.next (if_pos (by simp [State.active, running, falls]))

/-- A purge that falls due is ACTIVE at once when nothing stands against it (R105, R106). -/
theorem pending_activatePurge (s : State) : (s.onSwc fun w => { w with purge := .pending, pendingMs := 0 }).activatePurge =
    { s with swc := if s.anyWashing = false ∧ s.twu.condition.cap ≠ some 0 then
        { s.swc with purge := .active, pendingMs := 0, activeMs := 0, hprg := true, overdue := false }
      else { s.swc with purge := .pending, pendingMs := 0 } } := by
  have any : (s.onSwc fun w => { w with purge := .pending, pendingMs := 0 }).anyWashing = s.anyWashing := rfl
  by_cases free : s.anyWashing = false ∧ s.twu.condition.cap ≠ some 0
  · rw [if_pos free]
    exact if_pos (by rw [any, free.1]; simp [free.2])
  · rw [if_neg free]
    refine if_neg fun now => free ?_
    rw [any] at now
    simp only [Bool.and_eq_true, Bool.not_eq_true'] at now
    exact ⟨now.1.2, of_decide_eq_true now.2⟩

theorem execHeaderPurgeComplete_ends (running : s.phase = .running) (active : s.swc.purge = .active)
    (elapsed : s.swc.purgeTime * 1000 ≤ s.swc.activeMs) : exec .headerPurgeComplete s = .next s.finishPurge.settle := by
  have done : s.swc.purgeDone = true := by simp [Swc.purgeDone, active, reached, elapsed]
  exact congrArg Host.Outcome.next (if_pos (by simp [State.active, running, done]))

theorem execPurgeOverdue_falls (running : s.phase = .running) (pending : s.swc.purge = .pending)
    (prompt : s.swc.overdue = false) (elapsed : s.swc.deferral * 60000 ≤ s.swc.pendingMs) :
    exec .purgeOverdue s = .next s.purgeOverdue := by
  have late : s.swc.purgeLate = true := by
    simp [Swc.purgeLate, pending, prompt, reached_minutes, elapsed]
  exact congrArg Host.Outcome.next (if_pos (by simp [State.active, running, late]))

/-! ## O33 -/

/-- Settles O33: a release is its announcements one after another (`releaseResults_slp`), each with its notice and its
outcome; what follows the end of the sluice run leaves both; the header purge by its conditions. -/
theorem sluiceAndHeaderPurge : Obligations.SluiceAndHeaderPurge := by
  refine ⟨⟨fun s news running sluicing elapsed hnews => ?_, fun s room => by rw [releaseResults_slp]; exact pendings_notices room⟩,
    fun s running idle interval elapsed => ?_, fun s running active elapsed => ?_,
    fun s running pending prompt elapsed => ?_⟩
  · have duty := endSluice_duty s
    obtain ⟨sluicing', sluv, ms, queue, pdc⟩ := endSluice_fields s
    have notices (room : s.slp.notices.length ≤ 20) : s.endSluice.slp.notices = s.slp.notices ++ news := by
      rw [hnews, endSluice_slp]; exact pendings_notices room
    refine ⟨_, s.endSluice, execSluiceRunEnd_ends running sluicing elapsed, rfl, duty, endSluice_eq s,
      fun room => ⟨notices room, fun manual due => ?_⟩, fun n r m i hr pending mark follows same => ?_, fun i free => ?_,
      duty.sluicing.trans sluicing', duty.sluv.trans sluv, duty.sluiceMs.trans ms, fun n => ?_, fun n => ?_,
      (s.endSluice_work _).trans (duty.work _)⟩
    · rw [publishHeld_settle_slp (by rw [pdc]; exact manual) (fun k => by rw [pdc]; exact due k), notices room]
    · have slot := slotOutcome_stays (endSluice_slot hr pending mark follows same) duty.link
      refine ⟨fun fallback => ?_, fun outside => ?_⟩
      · rw [slot, State.slotOutcome, if_pos fallback]
      · rw [State.DoneWith, slot, State.slotOutcome, if_neg (by rw [outside]; decide)]
    · rw [endSluice_slp]
      refine announceAll_other fun x hx k mark => ?_
      obtain ⟨mem, pending⟩ := mem_pendings.1 hx
      exact free x.1 x.2 k mem pending mark
    · rw [duty.current, duty.previous, endSluice_screen]
      exact ⟨rfl, rfl⟩
    · rcases duty.grant.screens n with same | ⟨e, he, on, granted⟩
      · exact .inl (same.trans (endSluice_screen s n))
      · rw [queue] at he
        exact .inr ⟨e, he, on, (congrArg Screen.wash granted).trans (granted_wash _ _ e),
          (congrArg Screen.state granted).trans (granted_state _ e)⟩
  · exact ⟨_, _, execHeaderPurgeTimerExpiry_falls running idle interval elapsed,
      (State.publishHeld_duty _ _).trans (State.settle_duty _ _), pending_activatePurge s⟩
  · exact ⟨_, execHeaderPurgeComplete_ends running active elapsed,
      ((State.publishHeld_duty s.idlePurge _).trans (State.reevaluate_duty _ _)).trans (State.settle_duty _ _)⟩
  · exact ⟨_, execPurgeOverdue_falls running pending prompt elapsed,
      State.finishContinuous_frame (s.onSwc fun w => { w with overdue := true }),
      fun n => State.finishContinuous_screen (s.onSwc fun w => { w with overdue := true }) n⟩

end Sys2Proof.Machine
end

section
/-! PROOFS. WASH SCREEN, START PUMP and STOP PUMP with no slot for the target (R81, R102, R128..R133, R154, R177): O57. -/

namespace Sys2Proof.Machine

variable {s t v : State} {n : ScreenId} {p m : Nat} {slot : SlotId} {k : DeferredKind} {g : Target}
  {args data : List Byte} {verdict : State → Verdict} {act : Nat → State → State}

/-! ## A deferred request with no slot for its target (R177) -/

/-- No slot has the target. -/
def State.Unheld (s : State) (g : Target) : Prop := ∀ (j : SlotId) (x : Slot), s.slp.slots[j] = some x → x.target ≠ g

theorem deferred_new (free : s.Unheld g) :
    deferredRequest k g args verdict act data s = newRequest k g args (verdict s) act data s := by
  have none : s.slotOf g = none := by
    refine List.find?_eq_none.2 fun j _ => ?_
    cases found : s.slp.slots[j] with
    | none => simp
    | some x => simpa using free j x found
  rw [deferredRequest, none]

/-- The first of the four for which a test holds. -/
theorem find_lowest {q : SlotId → Bool} (here : q slot = true) (lower : ∀ j, j < slot → q j = false) :
    allSlots.find? q = some slot := by
  match slot, here, lower with
  | 0, here, _ => simp [allSlots, here]
  | 1, here, lower => simp [allSlots, here, lower 0 (by decide)]
  | 2, here, lower => simp [allSlots, here, lower 0 (by decide), lower 1 (by decide)]
  | 3, here, lower => simp [allSlots, here, lower 0 (by decide), lower 1 (by decide), lower 2 (by decide)]

theorem freeSlot_lowest (free : s.slp.slots[slot] = none) (lower : ∀ j : SlotId, j < slot → s.slp.slots[j] ≠ none) :
    s.freeSlot = some slot := by
  refine find_lowest ?_ fun j hj => ?_
  · rw [free]; rfl
  · rw [Option.isNone_eq_false_iff]; exact Option.isSome_iff_ne_none.2 (lower j hj)

theorem freeSlot_none (full : ∀ j : SlotId, s.slp.slots[j] ≠ none) : s.freeSlot = none :=
  List.find?_eq_none.2 fun j _ => by simpa using full j

theorem newRequest_full (full : ∀ j : SlotId, s.slp.slots[j] ≠ none) :
    newRequest k g args .opens act data s = .refuse s .retryLater := by
  unfold newRequest
  dsimp only
  rw [freeSlot_none full]

/-- The lowest free slot opens, and the owner acts with its number. -/
theorem newRequest_opens (free : s.slp.slots[slot] = none) (lower : ∀ j : SlotId, j < slot → s.slp.slots[j] ≠ none) :
    newRequest k g args .opens act data s =
      ⟨act (nextOpening s.slp.opening) (s.openSlot slot k g args), .deferred, slotNumber slot ++ data⟩ := by
  unfold newRequest
  dsimp only
  rw [freeSlot_lowest free lower]
  rfl

/-- What a deferred request is answered, past the structural refusals, outside fallback and with no slot for its target. -/
theorem request_new {i : Instr} {α : Type} {x : α} (takes : s.Takes i) {rule : α → State → Answer}
    (rules : rule x s = outsideFallback (deferredRequest k g args verdict act data) s) (outside : s.slp.fallback = false)
    (free : s.Unheld g) : s.request i (withArgs (.args x) rule) =
      (newRequest k g args (verdict s) act data s).state.reply (newRequest k g args (verdict s) act data s).code
        (newRequest k g args (verdict s) act data s).data := by
  have answer : rule x s = newRequest k g args (verdict s) act data s := by
    rw [rules, outsideFallback, if_neg (by rw [outside]; decide), deferred_new free]
  rw [args_takes takes, answer]

/-! ## WASH SCREEN (R81) -/

theorem clampNat_passes (p : Nat) : clampNat 0 64 p = min p 64 := by
  rw [clampNat_eq (by decide), heldTo]; omega

theorem execWashScreen_new (takes : s.Takes (.washScreen (.args (n.val + 1, p)))) (outside : s.slp.fallback = false)
    (free : s.Unheld (.screen n)) {w : Verdict} (verdict : washVerdict n s = w) {a : Answer}
    (answer : newRequest .washScreen (.screen n) (encodeFields [(.u8, n.val + 1), (.u16, p)]) w
      (State.hostWash n (min p 64)) (encodeField .u16 (min p 64 : Nat)) s = a) :
    exec (.washScreen (.args (n.val + 1, p))) s = .next (a.state.reply a.code a.data) := by
  rw [← answer, ← verdict]
  refine congrArg Host.Outcome.next (request_new takes ?_ outside free)
  simp only [index1_succ, clampNat_passes]
  rfl

theorem washVerdict_state (rest : (s.screen n).state = .outOfService ∨ (s.screen n).state = .jammed) :
    washVerdict n s = .refused .state := by
  rcases rest with state | state <;> rw [washVerdict, state]

theorem washVerdict_full (washing : (s.screen n).state.isWashing = true) (full : (s.screen n).staged ≠ none) :
    washVerdict n s = .refused .full := by
  have some : (s.screen n).staged.isSome = true := Option.isSome_iff_ne_none.2 full
  unfold washVerdict
  cases state : (s.screen n).state
  case washing | finishing => exact if_pos some
  all_goals rw [state] at washing; cases washing

theorem washVerdict_opens (takes : (s.screen n).state = .idle ∨ (s.screen n).state = .queued
    ∨ ((s.screen n).state.isWashing = true ∧ (s.screen n).staged = none)) : washVerdict n s = .opens := by
  rcases takes with state | state | ⟨washing, empty⟩
  · rw [washVerdict, state]
  · rw [washVerdict, state]
  · unfold washVerdict
    cases state : (s.screen n).state
    case washing | finishing => exact if_neg (by simp [empty])
    case idle | queued => rfl
    all_goals rw [state] at washing; cases washing

section HostWash
variable {c : WashClass}

theorem hostWash_idle (idle : (v.screen n).state = .idle) :
    v.hostWash n p m = (v.joinQueue n .host p (some m)).reevaluate.settle := by rw [State.hostWash, idle]

theorem hostWash_queued (queued : (v.screen n).state = .queued) :
    v.hostWash n p m = (v.mergeQueue n .host p (some m)).reevaluate.settle := by rw [State.hostWash, queued]

theorem hostWash_washing (washing : (v.screen n).state.isWashing = true) (empty : (v.screen n).staged = none) :
    v.hostWash n p m = v.onScreen n fun sc => { sc with staged := some ⟨p, .host, some m⟩ } := by
  rw [← stage_empty (g := ⟨p, .host, some m⟩) empty]
  unfold State.hostWash
  cases state : (v.screen n).state
  case washing | finishing => rfl
  all_goals rw [state] at washing; cases washing

theorem hostWash_work (v : State) (n : ScreenId) (p m : Nat) :
    v.WorkFrame (fun x => x = n) (fun _ => False) (v.hostWash n p m) := by
  have after (u : State) : u.WorkFrame (fun x => x = n) (fun _ => False) u.reevaluate.settle :=
    (u.reevaluate_work _ _).trans (State.settle_work _ _ _)
  unfold State.hostWash
  split
  · exact (v.joinQueue_work .host p (some m) _ (W := fun x => x = n) rfl).trans (after _)
  · exact (v.mergeQueue_work .host p (some m) _ (W := fun x => x = n) rfl).trans (after _)
  iterate 2 exact v.stage_work _ _ rfl
  iterate 2 exact .refl _ _ v

/-- A host wash on an idle screen waits in the queue, or is granted (R101, R103). -/
theorem hostWash_joined (sound : v.SwcSound) (running : v.phase = .running) (idle : (v.screen n).state = .idle) :
    let t := (v.joinQueue n .host p (some m)).reevaluate.settle
    ((t.screen n).state = .queued ∧ ⟨n, .host, p, some m, 0⟩ ∈ t.swc.queue)
      ∨ t.screen n = { v.screen n with state := .queued, drive := false, spray := false }.granted ⟨n, .host, p, some m, 0⟩ := by
  intro t
  have joined := screen_joinQueue v n n .host p (some m)
  rw [if_pos rfl] at joined
  have keeps : (v.joinQueue n .host p (some m)).KeepsWashes False t := (State.keepsWashes _).reevaluate.settle
  have sound' := (v.keepsWashes.joinQueue (c := .host) (p := p) (m := some m) running idle).washes sound
  have either := queued_or_granted sound' (e := ⟨n, .host, p, some m, 0⟩) (List.mem_append_right _ (List.mem_singleton_self _))
    ((State.reevaluate_duty _ fun _ => False).trans (State.settle_duty _ _)) keeps
  dsimp only at either
  rw [joined] at either
  exact either.imp_left fun ⟨same, mem⟩ => ⟨by rw [same], mem⟩

/-- A host wash merged into the entry of its screen (R102). -/
theorem merge_host (e : QueueEntry) (p m : Nat) : e.merge .host p (some m) = { e with
    cls := if e.cls = .headlossHigh then .headlossHigh else .host
    passes := if e.passes = 0 ∨ p = 0 then 0 else max e.passes p
    mark := some m } := by
  have cls : higherClass e.cls .host = if e.cls = .headlossHigh then .headlossHigh else .host := by
    cases e.cls <;> rfl
  have passes : largerPasses e.passes p = if e.passes = 0 ∨ p = 0 then 0 else max e.passes p := by
    rw [largerPasses_eq]; split
    · rfl
    · split <;> omega
  rw [QueueEntry.merge, cls, passes]; rfl

/-- A merged entry waits on, or is granted. -/
theorem hostWash_merged (sound : v.SwcSound) {e : QueueEntry} (he : e ∈ v.swc.queue) :
    let t := (v.mergeQueue e.screen .host p (some m)).reevaluate.settle
    ((t.screen e.screen).state = .queued ∧ e.merge .host p (some m) ∈ t.swc.queue)
      ∨ t.screen e.screen = (v.screen e.screen).granted (e.merge .host p (some m)) := by
  intro t
  have queued := (sound.queue.2 _).1 (List.mem_map_of_mem he)
  have merged : e.merge .host p (some m) ∈ (v.mergeQueue e.screen .host p (some m)).swc.queue :=
    List.mem_map.2 ⟨e, he, if_pos rfl⟩
  have keeps : (v.mergeQueue e.screen .host p (some m)).KeepsWashes False t := (State.keepsWashes _).reevaluate.settle
  have either := queued_or_granted (v.keepsWashes.mergeQueue.washes sound) merged
    ((State.reevaluate_duty _ fun _ => False).trans (State.settle_duty _ _)) keeps
  exact either.imp_left fun ⟨same, mem⟩ => ⟨by
    rw [show t.screen e.screen = v.screen e.screen from same]; exact queued, mem⟩

end HostWash

/-! ## START PUMP (R128, R132) -/

section StartPump
variable {p : PumpId}

theorem execStartPump_new (takes : s.Takes (.startPump (.args (p.val + 1)))) (outside : s.slp.fallback = false)
    (free : s.Unheld (.pump p)) {w : Verdict} (verdict : startVerdict p s = w) {a : Answer}
    (answer : newRequest .startPump (.pump p) (encodeField .u8 (p.val + 1 : Nat)) w (State.hostStart p) [] s = a) :
    exec (.startPump (.args (p.val + 1))) s = .next (a.state.reply a.code a.data) := by
  rw [← answer, ← verdict]
  refine congrArg Host.Outcome.next (request_new takes ?_ outside free)
  simp only [index1_succ]
  rfl

theorem startVerdict_auto (auto : s.pdc.mode = .auto) : startVerdict p s = .refused .state := by
  rw [startVerdict, auto]

variable (manual : s.pdc.mode = .manual)
include manual

theorem startVerdict_running (state : (s.pump p).state = .running) : startVerdict p s = .answered s := by
  rw [startVerdict, manual]; dsimp only; rw [state]

theorem startVerdict_state (other : (s.pump p).state = .disabled ∨ (s.pump p).state = .recovering
    ∨ (s.pump p).state = .stopping ∨ (s.pump p).state = .failed) : startVerdict p s = .refused .state := by
  rw [startVerdict, manual]
  rcases other with state | state | state | state <;> dsimp only <;> rw [state]

theorem startVerdict_opens (state : (s.pump p).state = .starting ∨ (s.pump p).state = .stopped) :
    startVerdict p s = .opens := by
  rw [startVerdict, manual]
  rcases state with state | state <;> dsimp only <;> rw [state]

end StartPump

section HostStart
variable {p : PumpId}

theorem hostStart_starting (state : (v.pump p).state = .starting) :
    v.hostStart p m = v.onPump p fun q => { q with startMark := some m } := by rw [State.hostStart, state]

theorem hostStart_stopped (state : (v.pump p).state = .stopped) :
    v.hostStart p m = (v.joinStart p .host (some m)).settle := by rw [State.hostStart, state]

theorem hostStart_duty (v : State) (p : PumpId) (m : Nat) : v.DutyFrame (fun _ => True) (v.hostStart p m) := by
  unfold State.hostStart
  split
  · exact v.onPump_duty p _ trivial fun _ => rfl
  · exact (v.joinStart_duty p .host (some m) _).trans (State.settle_duty _ _)
  all_goals exact .refl _ v

/-- Whether a pump is in STARTING is read in the pumps alone. -/
theorem anyStarting_onQueue (v : State) (f : List StartEntry → List StartEntry) :
    (v.onPdc fun d => { d with queue := f d.queue }).anyStarting = v.anyStarting := rfl

theorem anyStarting_iff : v.anyStarting = true ↔ ∃ x, (v.pump x).state = .starting := by
  simp [State.anyStarting, allPumps_eq]

/-- An entry that joins while a pump is in STARTING waits (R128, R129). -/
theorem joinStart_waits (fresh : ∀ e ∈ v.pdc.queue, e.pump ≠ p) (starting : ∃ x, (v.pump x).state = .starting)
    (o : StartOrigin) (k : Option Nat) :
    v.joinStart p o k = v.onPdc fun d => { d with queue := d.queue ++ [⟨p, o, k, 0⟩] } := by
  have absent : v.pdc.queue.any (fun e => e.pump = p) = false := by simpa using fresh
  have any := (anyStarting_onQueue v (· ++ [⟨p, o, k, 0⟩])).trans (anyStarting_iff.2 starting)
  rw [State.joinStart, if_neg (by rw [absent]; decide), State.startArbiter, if_neg (by rw [any]; simp)]

/-- A start merged into the pump's entry keeps its origin and its place, and its mark replaces the one carried (R128). -/
theorem joinStart_merges (entry : ∃ e ∈ v.pdc.queue, e.pump = p) (o : StartOrigin) (m : Nat) :
    v.joinStart p o (some m) = v.onPdc fun d =>
      { d with queue := d.queue.map fun e => if e.pump = p then { e with mark := some m } else e } := by
  have present : v.pdc.queue.any (fun e => e.pump = p) = true := by simpa using entry
  rw [State.joinStart, if_pos present]
  rfl

/-- The start spacing has run out (R129). -/
theorem spacingOut_iff {d : Pdc} : d.spacingOut = true ↔ ∀ ms, d.sinceStart = some ms → d.startSpacing * 1000 ≤ ms := by
  unfold Pdc.spacingOut
  cases d.sinceStart with
  | none => simp
  | some ms => simp [reached]

/-- The oldest entry is granted when its checks are passed (R129, R130). -/
theorem grantFrom_grants {e : StartEntry} {q : List StartEntry}
    (checks : (v.onPdc fun d => { d with queue := q }).grantCheck e.pump = none) :
    State.grantFrom (e :: q) v = (v.onPdc fun d => { d with queue := q }).beginStart e := by
  unfold State.grantFrom
  dsimp only
  rw [checks]

/-- With none in STARTING, the spacing run out and its checks passed the start is granted at once (R129, R130). -/
theorem joinStart_grants (empty : v.pdc.queue = []) (none : ∀ x, (v.pump x).state ≠ .starting)
    (spacing : v.pdc.spacingOut = true) (checks : v.grantCheck p = Option.none) (k : Option Nat) :
    v.joinStart p .host k = (v.onPdc fun d => { d with queue := [] }).beginStart ⟨p, .host, k, 0⟩ := by
  have still : v.anyStarting = false := by
    rw [← Bool.not_eq_true, anyStarting_iff]; exact fun ⟨x, hx⟩ => none x hx
  have idle := (anyStarting_onQueue v (· ++ [⟨p, .host, k, 0⟩])).trans still
  have granted := grantFrom_grants (v := v.onPdc fun d => { d with queue := d.queue ++ [⟨p, .host, k, 0⟩] })
    (e := ⟨p, .host, k, 0⟩) (q := []) checks
  rw [State.joinStart, if_neg (by rw [empty]; exact Bool.false_ne_true), State.startArbiter,
    if_pos (by rw [idle]; exact spacing), State.onPdc_pdc, empty]
  exact granted

theorem grantCheck_trip (checks : v.grantCheck p = Option.none) : (v.pump p).trip = false := by
  unfold State.grantCheck at checks
  rw [← Bool.not_eq_true]
  intro trip
  rw [if_pos trip] at checks
  split at checks <;> cases checks

/-- A start with PTRP and PFB false goes on in STARTING (R120). -/
theorem beginStart_waits {e : StartEntry} (trip : (v.pump e.pump).trip = false) (feedback : (v.pump e.pump).feedback = false) :
    v.beginStart e = (v.enterPump e.pump .starting).onPump e.pump fun q =>
      { q with starts := min (q.starts + 1) 65535, startTimer := 0, startOrigin := e.origin, startMark := e.mark } := by
  unfold State.beginStart
  dsimp only
  rw [trip, feedback]
  rfl

end HostStart

/-! ## Duty evaluations in MANUAL (R143, R146) -/

/-- All that bringing a scope up to date can do: the scope changes, and a stop may be ordered (R146, R147). -/
theorem updateScope_cases (s : State) (k : ScopeId) : ∃ x : Scope, s.updateScope k = s.onScope k (fun _ => x)
    ∨ ∃ p o, s.updateScope k = (s.onScope k fun _ => x).orderStop p o none := by
  have made : ∃ x : Scope, s.makeDue k = s.onScope k (fun _ => x)
      ∨ ∃ p o, s.makeDue k = (s.onScope k fun _ => x).orderStop p o none := by
    unfold State.makeDue
    split
    · exact ⟨_, .inl rfl⟩
    · split
      · exact ⟨_, .inl rfl⟩
      · split
        · exact ⟨_, .inl rfl⟩
        · exact ⟨_, .inr ⟨_, _, rfl⟩⟩
  have still : s = s.onScope k (fun _ => s.pdc.scopes[k]) := by
    have scopes : s.pdc.scopes.set k s.pdc.scopes[k] = s.pdc.scopes := by simp
    unfold State.onScope State.onPdc
    dsimp only
    rw [scopes]
  unfold State.updateScope
  split
  · split
    · exact made
    · exact made
    · split
      · exact ⟨_, .inl rfl⟩
      · exact ⟨_, .inl still⟩
  · exact ⟨_, .inl rfl⟩

/-- What holds of a part in MANUAL, is kept by a change of the scopes or of the evaluation that is due, and is kept by a
stop order, is kept by the duty evaluations. -/
theorem manual_settle {I : State → Prop} (begins : ∀ t, I t → I (t.onPdc fun d => { d with evaluationDue := false }))
    (scope : ∀ t k x, I t → I (t.onScope k fun _ => x)) (order : ∀ t p o, I t → I (t.orderStop p o none))
    (manual : s.pdc.mode = .manual) (h : I s) : I s.settle := by
  have update (t : State) (k : ScopeId) (i : I t) : I (t.updateScope k) := by
    obtain ⟨x, same | ⟨p, o, ordered⟩⟩ := updateScope_cases t k
    · rw [same]; exact scope t k x i
    · rw [ordered]; exact order _ p o (scope t k x i)
  have all (n : Nat) : ∀ t : State, t.pdc.mode = .manual → I t → I (State.evaluations n t) := by
    induction n with
    | zero => exact fun _ _ i => i
    | succ n ih =>
      intro t manual i
      unfold State.evaluations
      split
      · have begun := begins t i
        have after := List.foldlRecOn (motive := fun u => u.pdc.mode = .manual ∧ I u) allScopes State.updateScope
          (b := t.onPdc fun d => { d with evaluationDue := false }) ⟨manual, begun⟩
          fun u i k _ => ⟨((u.updateScope_duty k fun _ => False).mode).trans i.1, update u k i.2⟩
        obtain ⟨mode, kept⟩ := after
        have duty : (t.onPdc fun d => { d with evaluationDue := false }).dutyEvaluate =
            allScopes.foldl State.updateScope (t.onPdc fun d => { d with evaluationDue := false }) := by
          unfold State.dutyEvaluate
          dsimp only
          rw [mode]
        rw [duty]
        exact ih _ mode kept
      · exact i
  exact all 32 s manual h

/-! ## A stop order (R122) -/

theorem publishHeld_startQueue (s : State) : s.publishHeld.pdc.queue = s.pdc.queue := by
  unfold State.publishHeld; split <;> rfl

theorem tryGrant_pdc (s : State) : s.tryGrant.pdc = s.pdc := by
  unfold State.tryGrant
  split
  · split <;> rfl
  · rfl

theorem publishRunning_startQueue (s : State) : s.publishRunning.pdc.queue = s.pdc.queue := by
  unfold State.publishRunning
  split
  · rfl
  · rw [State.reevaluate, publishHeld_startQueue, tryGrant_pdc, tryGrant_pdc, State.onSwc_pdc]

theorem stopEnded_startQueue (s : State) (p : PumpId) : (s.stopEnded p).pdc.queue = s.pdc.queue := by
  simp [State.stopEnded, State.rest, State.enterPump, State.evaluationFollows, State.onPump]

theorem orderStop_startQueue (s : State) (p : PumpId) (o : StopOrigin) (m : Option Nat) :
    (s.orderStop p o m).pdc.queue = s.pdc.queue := by
  unfold State.orderStop
  dsimp only
  split
  · split
    · rw [publishRunning_startQueue]; rfl
    · rw [stopEnded_startQueue, publishRunning_startQueue]; rfl
  · rfl

theorem settle_startQueue (manual : s.pdc.mode = .manual) : s.settle.pdc.queue = s.pdc.queue :=
  manual_settle (I := fun t => t.pdc.queue = s.pdc.queue) (fun _ h => h) (fun _ _ _ h => h)
    (fun t p o h => (orderStop_startQueue t p o none).trans h) manual rfl

/-- A start granted at once, and the duty evaluations in MANUAL that follow. -/
theorem hostStart_granted {p : PumpId} (manual : v.pdc.mode = .manual) (empty : v.pdc.queue = [])
    (none : ∀ x, (v.pump x).state ≠ .starting) (spacing : v.pdc.spacingOut = true)
    (checks : v.grantCheck p = Option.none) (feedback : (v.pump p).feedback = false) :
    (v.hostStart p m).pump p = { v.pump p with
        state := .starting, run := true, startTimer := 0, startOrigin := .host
        startMark := some m, starts := min ((v.pump p).starts + 1) 65535 }
      ∧ (v.hostStart p m).pdc.queue = [] := by
  have began : v.joinStart p .host (some m) = _ := (joinStart_grants empty none spacing checks (some m)).trans
    (beginStart_waits (e := ⟨p, .host, some m, 0⟩) (grantCheck_trip checks) feedback)
  have started : (v.joinStart p .host (some m)).pump p = { v.pump p with
        state := .starting, run := true, startTimer := 0, startOrigin := .host
        startMark := some m, starts := min ((v.pump p).starts + 1) 65535 } := by
    rw [began, State.pump_onPump_self, State.pump_enterPump_self]
    rfl
  rw [hostStart_stopped (State.grantCheck_none checks)]
  constructor
  · rw [(State.settle_duty _ _).pump_of_still p (by rw [started]; nofun) (by rw [started]; nofun), started]
  · rw [settle_startQueue (((v.joinStart_duty p .host (some m) fun _ => True).mode).trans manual), began]
    rfl

/-! ## STOP PUMP (R133, R154) -/

section StopPump
variable {p : PumpId} {f : Nat}

theorem execStopPump_new (force : f ≤ 1) (takes : s.Takes (.stopPump (.args (p.val + 1, f))))
    (outside : s.slp.fallback = false) (free : s.Unheld (.pump p)) {w : Verdict} (verdict : stopVerdict p (f == 1) s = w) {a : Answer}
    (answer : newRequest .stopPump (.pump p) (encodeFields [(.u8, p.val + 1), (.u8, f)]) w
      (State.hostStop p (f == 1)) [] s = a) :
    exec (.stopPump (.args (p.val + 1, f))) s = .next (a.state.reply a.code a.data) := by
  rw [← answer, ← verdict]
  refine congrArg Host.Outcome.next (request_new takes ?_ outside free)
  simp only [index1_succ, yesNo_le force]
  rfl

variable {force : Bool}

theorem stopVerdict_auto (auto : s.pdc.mode = .auto) : stopVerdict p force s = .refused .state := by
  rw [stopVerdict, auto]

theorem lastUnderHeader_iff : s.lastUnderHeader = true ↔ s.runningNow = 1 ∧ s.pdc.headerHeld = true := by
  simp [State.lastUnderHeader]

/-- The header hold does not refuse a forced stop, nor that of a pump which is not the last under it (R133). -/
theorem free_to_stop (free : f = 1 ∨ s.runningNow ≠ 1 ∨ s.pdc.headerHeld = false) :
    (f == 1) = true ∨ s.lastUnderHeader = false := by
  rw [beq_iff_eq, ← Bool.not_eq_true, lastUnderHeader_iff]
  rcases free with forced | more | unheld
  · exact .inl forced
  · exact .inr fun ⟨one, _⟩ => more one
  · exact .inr fun ⟨_, held⟩ => Bool.false_ne_true (unheld.symm.trans held)

section Manual
variable (manual : s.pdc.mode = .manual)
include manual

theorem stopVerdict_stopped (state : (s.pump p).state = .stopped) :
    stopVerdict p force s = .answered (s.leaveStart p) := by
  rw [stopVerdict, manual]; dsimp only; rw [state]

theorem stopVerdict_rest (rest : (s.pump p).state = .recovering ∨ (s.pump p).state = .disabled
    ∨ (s.pump p).state = .failed) : stopVerdict p force s = .answered s := by
  rw [stopVerdict, manual]
  rcases rest with state | state | state <;> dsimp only <;> rw [state]

theorem stopVerdict_starting (state : (s.pump p).state = .starting) : stopVerdict p force s = .refused .state := by
  rw [stopVerdict, manual]; dsimp only; rw [state]

theorem stopVerdict_held (state : (s.pump p).state = .running) (last : s.lastUnderHeader = true) :
    stopVerdict p false s = .refused .headerInUse := by
  rw [stopVerdict, manual]; dsimp only; rw [state, last]; rfl

theorem stopVerdict_opens (opens : (s.pump p).state = .stopping
    ∨ ((s.pump p).state = .running ∧ (force = true ∨ s.lastUnderHeader = false))) : stopVerdict p force s = .opens := by
  rw [stopVerdict, manual]
  rcases opens with state | ⟨state, free⟩
  · dsimp only; rw [state]
  · dsimp only
    rw [state]
    exact if_neg (by rcases free with free | free <;> simp [free])

end Manual

theorem hostStop_stopping (state : (v.pump p).state = .stopping) :
    v.hostStop p force m = v.onPump p fun q => { q with stopMark := some m } := by rw [State.hostStop, state]

/-- The header cleared before a forced stop of the last running pump (R154). -/
def State.stopCleared (v : State) : State := if v.lastUnderHeader then v.clearHeader .abortedByRequest else v

theorem hostStop_running (state : (v.pump p).state = .running) : v.hostStop p force m =
    (v.stopCleared.orderStop p (if force then .forced else .host) (some m)).settle := by rw [State.hostStop, state]; rfl

theorem stopCleared_work (v : State) : v.WorkFrame (fun _ => True) (fun x => x = p) v.stopCleared := by
  unfold State.stopCleared
  split
  · exact v.clearHeader_work _ _
  · exact .refl _ _ v

theorem hostStop_work (v : State) (p : PumpId) (force : Bool) (m : Nat) :
    v.WorkFrame (fun _ => True) (fun x => x = p) (v.hostStop p force m) := by
  cases state : (v.pump p).state
  case stopping =>
    rw [hostStop_stopping state]
    refine State.DutyFrame.work ?_ _
    exact v.onPump_duty p _ rfl fun _ => rfl
  case running =>
    rw [hostStop_running state]
    exact (stopCleared_work v).trans (((State.orderStop_duty _ p _ _ _).work _).trans (State.settle_work _ _ _))
  all_goals
    unfold State.hostStop
    rw [state]
    exact .refl _ _ v

theorem sluiceOff_pdc (s : State) : s.sluiceOff.pdc = s.pdc := by
  unfold State.sluiceOff
  split
  · obtain ⟨-, -, -, -, -, pdc⟩ := State.fields_of_aside s.aside_endSluice
    exact pdc
  · rfl

theorem purgeOff_pdc (s : State) : s.purgeOff.pdc = s.pdc := by unfold State.purgeOff; split <;> rfl

theorem purgeOff_screen (s : State) (n : ScreenId) : s.purgeOff.screen n = s.screen n := by
  unfold State.purgeOff; split <;> rfl

/-- The header clear leaves every pump. -/
theorem stopCleared_pump (v : State) (p : PumpId) : v.stopCleared.pump p = v.pump p := by
  unfold State.stopCleared
  split
  · rw [State.clearHeader_eq, State.publishHeld_pump, State.pump, purgeOff_pdc, sluiceOff_pdc,
      (State.endAll_ended (by decide) (by decide) v).pdc]
    rfl
  · rfl

/-- A running pump whose stop is ordered, PFB being true, stays in STOPPING through the evaluations (R122). -/
theorem hostStop_ordered (running : (v.pump p).state = .running) (feedback : (v.pump p).feedback = true) :
    (v.hostStop p force m).pump p = (v.pump p).stopOrdered (if force then .forced else .host) (some m) := by
  have ordered (o : StopOrigin) : (v.stopCleared.orderStop p o (some m)).pump p = (v.pump p).stopOrdered o (some m) := by
    rw [← stopCleared_pump] at running feedback
    unfold State.orderStop
    dsimp only
    rw [if_pos running, if_pos feedback, State.pump_publishRunning, State.pump_onPump_self, State.pump_enterPump_self,
      stopCleared_pump]
    rfl
  rw [hostStop_running running, (State.settle_duty _ _).pump_of_still p, ordered]
  · rw [ordered]; nofun
  · rw [ordered]; nofun

/-! ## The forced stop of the last running pump (R154) -/

/-- No pump runs. -/
def State.NoneRunning (s : State) : Prop := ∀ x, (s.pump x).state ≠ .running

theorem runningNow_zero (none : s.NoneRunning) : s.runningNow = 0 := by
  rw [State.runningNow, List.length_eq_zero_iff, List.filter_eq_nil_iff]
  exact fun x _ => by simpa using none x

/-- The one pump that runs. -/
theorem runningNow_one (one : s.runningNow = 1) (running : (s.pump p).state = .running) {x : PumpId} (other : x ≠ p) :
    (s.pump x).state ≠ .running := by
  obtain ⟨y, only⟩ := List.length_eq_one_iff.1 one
  have is (z : PumpId) (hz : (s.pump z).state = .running) : z = y := by
    have mem : z ∈ allPumps.filter fun q => (s.pump q).state = .running := by simpa [allPumps_eq] using hz
    rw [only] at mem
    exact List.mem_singleton.1 mem
  exact fun also => other ((is x also).trans (is p running).symm)

/-- A running count of 0 bars every grant (R103). -/
theorem publishRunning_screens (none : s.NoneRunning) : s.publishRunning.swc.screens = s.swc.screens := by
  unfold State.publishRunning
  split
  · rfl
  · have barred : (s.onSwc fun w => { w with runningCount := s.runningNow }).mayGrantHeader = false := by
      rw [← Bool.not_eq_true, mayGrantHeader_iff]
      rintro ⟨-, -, -, some, -⟩
      exact absurd some (by simp [runningNow_zero none])
    rw [State.reevaluate, tryGrant_barred barred, tryGrant_barred barred, State.publishHeld_swc, State.onSwc_swc]

theorem stopEnded_screens (s : State) (p : PumpId) : (s.stopEnded p).swc = s.swc := by
  simp [State.stopEnded, State.rest, State.enterPump, State.evaluationFollows, State.onPump]

theorem stopEnded_rests (s : State) (p x : PumpId) (rests : x ≠ p → (s.pump x).state ≠ .running) :
    ((s.stopEnded p).pump x).state ≠ .running := by
  have pdc : (s.stopEnded p).pump x = ((s.onPump p fun q =>
    { q with stopTimer := 0, stopMark := none, recovery := s.pdc.recoveryTime q.cls * 1000 }).rest p).pump x := by
    simp [State.stopEnded, State.pump]
  rw [pdc, State.rest, State.pump_enterPump]
  split
  · split <;> nofun
  · next other => rw [State.pump_onPump, if_neg other]; exact rests (Ne.symm other)

/-- The stop of the one running pump leaves none running, and no grant follows it. -/
theorem orderStop_last (alone : ∀ x, x ≠ p → (s.pump x).state ≠ .running) (o : StopOrigin) (k : Option Nat) :
    (s.orderStop p o k).NoneRunning ∧ (s.orderStop p o k).swc.screens = s.swc.screens := by
  by_cases running : (s.pump p).state = .running
  · have none : State.NoneRunning ((s.enterPump p .stopping).onPump p fun q =>
        { q with stopTimer := 0, stopOrigin := some o, stopMark := k }) := fun x => by
      rw [State.pump_onPump, State.pump_enterPump]
      split
      · nofun
      · next other => exact alone x (Ne.symm other)
    have still := publishRunning_screens none
    unfold State.orderStop
    dsimp only
    rw [if_pos running]
    split
    · exact ⟨fun x => by rw [State.pump_publishRunning]; exact none x, still⟩
    · exact ⟨fun x => stopEnded_rests _ p x fun _ => by rw [State.pump_publishRunning]; exact none x,
        by rw [stopEnded_screens]; exact still⟩
  · have same : s.orderStop p o k = s := if_neg running
    rw [same]
    exact ⟨fun x => by by_cases own : x = p; exacts [own ▸ running, alone x own], rfl⟩

/-- With no pump running the evaluations in MANUAL move no screen. -/
theorem settle_noneRunning (manual : s.pdc.mode = .manual) (none : s.NoneRunning) :
    s.settle.swc.screens = s.swc.screens := by
  have kept : s.settle.NoneRunning ∧ s.settle.swc.screens = s.swc.screens :=
    manual_settle (I := fun t => t.NoneRunning ∧ t.swc.screens = s.swc.screens) (fun _ h => h) (fun _ _ _ h => h)
      (fun t x o ⟨idle, same⟩ => by
        have rests : t.orderStop x o Option.none = t := if_neg (idle x)
        rw [rests]
        exact ⟨idle, same⟩) manual ⟨none, rfl⟩
  exact kept.2

/-- The forced stop of the last running pump under the header leaves no screen washing (R154). -/
theorem hostStop_forced (manual : v.pdc.mode = .manual) (sound : v.SwcSound) (running : (v.pump p).state = .running)
    (last : v.lastUnderHeader = true) (n : ScreenId) : ((v.hostStop p force m).screen n).state.isWashing = false := by
  have one := (lastUnderHeader_iff.1 last).1
  have cleared : (v.stopCleared.screen n).state.isWashing = false := by
    have clears : v.stopCleared = v.clearHeader .abortedByRequest := if_pos last
    rw [clears, State.clearHeader_eq, State.screen, State.publishHeld_swc, ← State.screen, purgeOff_screen]
    exact clearHeader_idle (by decide) sound.records n
  obtain ⟨none, same⟩ := orderStop_last (s := v.stopCleared) (p := p)
    (fun x other => by rw [stopCleared_pump]; exact runningNow_one one running other)
    (if force then .forced else .host) (some m)
  have mode : (v.stopCleared.orderStop p (if force then .forced else .host) (some m)).pdc.mode = .manual :=
    ((State.orderStop_duty _ p _ _ fun _ => False).mode.trans
      (congrArg Pdc.mode (stopCleared_work (p := p) v).pump.pdc :)).trans manual
  rw [hostStop_running running, State.screen, settle_noneRunning mode none, same]
  exact cleared

end StopPump

/-! ## The three requests -/

/-- The part once the slot is open, as the statement writes it. -/
theorem openSlot_eq (s : State) (slot : SlotId) (k : DeferredKind) (g : Target) (args : List Byte) :
    s.openSlot slot k g args = { s with slp := { s.slp with
      opening := s.slp.opening % 65535 + 1
      slots := s.slp.slots.set slot (some ⟨k, g, args, s.slp.opening % 65535 + 1, .inProgress⟩) } } := rfl

theorem openSlot_sound (sound : s.SwcSound) : (s.openSlot slot k g args).SwcSound := s.keepsWashes.onSlp.washes sound

/-- A WASH SCREEN that opens a slot (R81, R177). -/
theorem washScreen_opened (takes : s.Takes (.washScreen (.args (n.val + 1, p)))) (outside : s.slp.fallback = false)
    (free : s.Unheld (.screen n)) (opens : washVerdict n s = .opens) (empty : s.slp.slots[slot] = none)
    (lower : ∀ j : SlotId, j < slot → s.slp.slots[j] ≠ none) :
    exec (.washScreen (.args (n.val + 1, p))) s = .next
      (((s.openSlot slot .washScreen (.screen n) (encodeFields [(.u8, n.val + 1), (.u16, p)])).hostWash n (min p 64)
        (nextOpening s.slp.opening)).reply .deferred (encodeFields [(.u8, slot.val + 1), (.u16, (min p 64 : Nat))])) := by
  rw [execWashScreen_new takes outside free opens (newRequest_opens empty lower)]
  simp only [slotNumber, encodeFields_cons, encodeFields_nil, List.append_nil]
  rfl

section Pumps
variable {p : PumpId} {f : Nat}

/-- A START PUMP that opens a slot (R132, R177). -/
theorem startPump_opened (takes : s.Takes (.startPump (.args (p.val + 1)))) (outside : s.slp.fallback = false)
    (free : s.Unheld (.pump p)) (opens : startVerdict p s = .opens) (empty : s.slp.slots[slot] = none)
    (lower : ∀ j : SlotId, j < slot → s.slp.slots[j] ≠ none) :
    exec (.startPump (.args (p.val + 1))) s = .next
      (((s.openSlot slot .startPump (.pump p) (encodeField .u8 (p.val + 1 : Nat))).hostStart p
        (nextOpening s.slp.opening)).reply .deferred (encodeField .u8 (slot.val + 1 : Nat))) := by
  rw [execStartPump_new takes outside free opens (newRequest_opens empty lower)]
  simp only [slotNumber, List.append_nil]

/-- A STOP PUMP that opens a slot (R133, R177). -/
theorem stopPump_opened (force : f ≤ 1) (takes : s.Takes (.stopPump (.args (p.val + 1, f))))
    (outside : s.slp.fallback = false) (free : s.Unheld (.pump p)) (opens : stopVerdict p (f == 1) s = .opens)
    (empty : s.slp.slots[slot] = none) (lower : ∀ j : SlotId, j < slot → s.slp.slots[j] ≠ none) :
    exec (.stopPump (.args (p.val + 1, f))) s = .next
      (((s.openSlot slot .stopPump (.pump p) (encodeFields [(.u8, p.val + 1), (.u8, f)])).hostStop p (f == 1)
        (nextOpening s.slp.opening)).reply .deferred (encodeField .u8 (slot.val + 1 : Nat))) := by
  rw [execStopPump_new force takes outside free opens (newRequest_opens empty lower)]
  simp only [slotNumber, List.append_nil]

/-- The START PUMP of a stopped pump, its start not granted: the queue alone changes when no evaluation is due. -/
theorem hostStart_queued (state : (v.pump p).state = .stopped) {q : List StartEntry}
    (joined : v.joinStart p .host (some m) = v.onPdc fun d => { d with queue := q }) (still : v.pdc.evaluationDue = false) :
    v.hostStart p m = { v with pdc := { v.pdc with queue := q } } := by
  rw [hostStart_stopped state, joined]
  exact settle_still still

theorem hostStart_waits (state : (v.pump p).state = .stopped) (fresh : ∀ e ∈ v.pdc.queue, e.pump ≠ p)
    (starting : ∃ x, (v.pump x).state = .starting) (still : v.pdc.evaluationDue = false) :
    v.hostStart p m = { v with pdc := { v.pdc with queue := v.pdc.queue ++ [⟨p, .host, some m, 0⟩] } } :=
  hostStart_queued state (joinStart_waits fresh starting _ _) still

theorem hostStart_merges (state : (v.pump p).state = .stopped) (entry : ∃ e ∈ v.pdc.queue, e.pump = p)
    (still : v.pdc.evaluationDue = false) : v.hostStart p m = { v with pdc := { v.pdc with
      queue := v.pdc.queue.map fun e => if e.pump = p then { e with mark := some m } else e } } :=
  hostStart_queued state (joinStart_merges entry _ _) still

end Pumps

/-- Settles O57: by the verdict of the owner a request is refused, answered at once, or opens the lowest free slot
(`newRequest_opens`); then the wash joins, merges or is staged (`hostWash_idle`, `hostWash_queued`, `hostWash_washing`), the
start waits, merges or is granted (`joinStart_waits`, `joinStart_merges`, `hostStart_granted`), and the stop is followed or
ordered (`hostStop_stopping`, `hostStop_ordered`, `hostStop_forced`). -/
theorem deferredRequestsOpenASlot : Obligations.DeferredRequestsOpenASlot := by
  refine ⟨fun s n p passes takes outside passes_eq free => ?washScreen, fun s p f outside free force =>
    ⟨fun takes => ⟨fun auto => ?startAuto, fun manual => ?start⟩,
      fun takes => ⟨fun auto => ?stopAuto, fun manual => ?stop⟩⟩⟩
  case washScreen =>
    subst passes_eq
    refine ⟨fun rest => execWashScreen_new takes outside free (washVerdict_state rest) rfl,
      fun washing staged => execWashScreen_new takes outside free (washVerdict_full washing staged) rfl,
      fun opens => ⟨fun full => execWashScreen_new takes outside free (washVerdict_opens opens) (newRequest_full full),
        fun slot empty lower => ⟨_, _, _, washScreen_opened takes outside free (washVerdict_opens opens) empty lower, rfl,
          openSlot_eq .., hostWash_work _ _ _ _, fun washing => ?_, fun idle => ?_, fun merge queued merges => ?_,
          fun sound idle => ?_⟩⟩⟩
    · refine hostWash_washing washing ?_
      rcases opens with state | state | ⟨-, staged⟩
      · rw [state] at washing; cases washing
      · rw [state] at washing; cases washing
      · exact staged
    · rw [hostWash_idle (v := s.openSlot slot _ _ _) idle, joinQueue_eq]; rfl
    · obtain rfl : merge = fun e => e.merge .host (min p 64) (some (nextOpening s.slp.opening)) :=
        funext fun e => (merges e).trans (merge_host ..).symm
      rw [hostWash_queued (v := s.openSlot slot _ _ _) queued]
      refine ⟨rfl, fun e sound mem own => ?_⟩
      subst own
      exact hostWash_merged (openSlot_sound sound) mem
    · rw [hostWash_idle (v := s.openSlot slot _ _ _) idle]
      refine (hostWash_joined (openSlot_sound sound) takes.1 idle).imp_right fun granted => ?_
      rw [granted]
      exact ⟨rfl, _, rfl, rfl, rfl, rfl, rfl, rfl⟩
  case startAuto => exact execStartPump_new takes outside free (startVerdict_auto auto) rfl
  case start =>
    refine ⟨fun state => execStartPump_new takes outside free (startVerdict_running manual state) rfl,
      fun state => execStartPump_new takes outside free (startVerdict_state manual state) rfl,
      fun state => ⟨fun full => execStartPump_new takes outside free (startVerdict_opens manual state) (newRequest_full full),
        fun slot empty lower => ⟨_, _, _, startPump_opened takes outside free (startVerdict_opens manual state) empty lower,
          rfl, openSlot_eq .., hostStart_duty _ _ _, fun starting => hostStart_starting starting,
          fun state starting fresh still => ?_,
          fun state entry still => ?_, fun state empty none spacing checks feedback => ?_⟩⟩⟩
    · exact hostStart_waits (v := s.openSlot slot _ _ _) state fresh starting still
    · exact hostStart_merges (v := s.openSlot slot _ _ _) state entry still
    · exact hostStart_granted manual empty none (spacingOut_iff.2 spacing) checks feedback
  case stopAuto => exact execStopPump_new force takes outside free (stopVerdict_auto auto) rfl
  case stop =>
    refine ⟨fun state => execStopPump_new force takes outside free (stopVerdict_stopped manual state) rfl,
      fun state => execStopPump_new force takes outside free (stopVerdict_rest manual state) rfl,
      fun state => execStopPump_new force takes outside free (stopVerdict_starting manual state) rfl,
      fun state one held unforced => ?_, fun state => ?_⟩
    · subst unforced
      have last := lastUnderHeader_iff.2 ⟨one, held⟩
      exact execStopPump_new force takes outside free (stopVerdict_held manual state last) rfl
    · have opens : stopVerdict p (f == 1) s = .opens :=
        stopVerdict_opens manual (state.imp_right (And.imp_right free_to_stop))
      refine ⟨fun full => execStopPump_new force takes outside free opens (newRequest_full full), fun slot empty lower =>
        ⟨_, _, _, stopPump_opened force takes outside free opens empty lower, rfl, openSlot_eq .., hostStop_work _ _ _ _,
          fun stopping => hostStop_stopping stopping, fun running feedback => ?_, fun running _ one held sound => ?_⟩⟩
      · refine (hostStop_ordered (v := s.openSlot slot _ _ _) running feedback).trans ?_
        simp only [beq_iff_eq]
        rfl
      · exact hostStop_forced manual (openSlot_sound sound) running (lastUnderHeader_iff.2 ⟨one, held⟩)

end Sys2Proof.Machine
end

section
/-! PROOFS. What the blocks publish to one another, and the changes of one block that leave it current or bring it up to
date (R104, R110, R111, R119): for O11. -/

namespace Sys2Proof.Machine

variable {s t u : State} {R H C R' H' C' : Prop}

/-! ## When what is published is current -/

/-- The running count last published is the number of pumps in RUNNING (R119). -/
def State.CountCurrent (s : State) : Prop := s.swc.runningCount = s.runningNow

/-- Header held as last published is whether the header is in use (R110). -/
def State.HeldCurrent (s : State) : Prop := s.pdc.headerHeld = s.headerInUse

/-- The capacity flags published are those the screens call for (R111). -/
def State.FlagsCurrent (s : State) : Prop := ∀ n, (s.screen n).counts = (s.screen n).counting

/-- In a running part with sound washes, the running count is current if `R`, header held if `H`, and the capacity flags
if `C`: a piece of work may leave one of them behind until it publishes it. -/
structure State.Published (R H C : Prop) (s : State) : Prop where
  phase : s.phase = .running
  sound : s.SwcSound
  running : R → s.CountCurrent
  held : H → s.HeldCurrent
  counts : C → s.FlagsCurrent

theorem State.Published.current (h : s.Published True True True) : s.PublicationsCurrent :=
  ⟨h.running trivial, h.held trivial, h.counts trivial⟩

theorem published_of_current (phase : s.phase = .running) (sound : s.SwcSound) (h : s.PublicationsCurrent) :
    s.Published True True True :=
  ⟨phase, sound, fun _ => h.running, fun _ => h.held, fun _ => h.counts⟩

/-- Whether a screen is in a state that counts for capacity by its verdict (R111). -/
def ScreenState.available : ScreenState → Bool
  | .idle | .queued | .washing | .finishing => true
  | .outOfService | .jammed => false

theorem ScreenState.available_of_washing {st : ScreenState} (h : st.isWashing = true) : st.available = true := by
  cases st <;> simp_all [ScreenState.isWashing, ScreenState.available]

/-- The capacity flag of a screen, and what it is formed by. -/
def Screen.flagView (sc : Screen) : Bool × Bool × Bool := (sc.counts, sc.verdict, sc.state.available)

theorem Screen.counting_eq (sc : Screen) : sc.counting = (sc.state.available && sc.verdict) := by
  unfold Screen.counting
  cases sc.state <;> rfl

theorem flagsCurrent_congr (h : s.FlagsCurrent) (views : ∀ n, (t.screen n).flagView = (s.screen n).flagView) :
    t.FlagsCurrent := by
  intro n
  have view := views n
  simp only [Screen.flagView, Prod.mk.injEq] at view
  obtain ⟨counts, verdict, available⟩ := view
  rw [Screen.counting_eq, counts, verdict, available, ← Screen.counting_eq]
  exact h n

theorem countCurrent_congr (h : s.CountCurrent) (count : t.swc.runningCount = s.swc.runningCount)
    (pumps : ∀ p, (t.pump p).state = .running ↔ (s.pump p).state = .running) : t.CountCurrent := by
  unfold State.CountCurrent State.runningNow at *
  simpa only [count, pumps] using h

theorem headerInUse_congr (washing : ∀ n, (t.screen n).state.isWashing = (s.screen n).state.isWashing)
    (sluicing : t.swc.sluicing = s.swc.sluicing) (purge : t.swc.purge = s.swc.purge) :
    t.headerInUse = s.headerInUse := by
  simp only [State.headerInUse, State.anyWashing, washing, sluicing, purge]

theorem heldCurrent_congr (h : s.HeldCurrent) (held : t.pdc.headerHeld = s.pdc.headerHeld)
    (inUse : t.headerInUse = s.headerInUse) : t.HeldCurrent := by
  unfold State.HeldCurrent at *
  rw [held, inUse, h]

theorem screen_of_swc (swc : t.swc = s.swc) (n : ScreenId) : t.screen n = s.screen n := by
  rw [State.screen, swc]; rfl

/-- What is published, and all that it rests on. -/
def State.publicBase (s : State) : Phase × Swc × Vector Pump 8 × Bool := (s.phase, s.swc, s.pdc.pumps, s.pdc.headerHeld)

namespace State.Published

theorem ite {c : Prop} [Decidable c] (h : s.Published R H C) (k : t.Published R H C) :
    (if c then s else t).Published R H C := by
  split
  · exact h
  · exact k

theorem foldl {α : Type} {f : State → α → State} (h : t.Published R H C)
    (hf : ∀ (t : State) a, t.Published R H C → (f t a).Published R H C) (l : List α) : (l.foldl f t).Published R H C :=
  List.foldlRecOn (motive := State.Published R H C) l f h fun u k a _ => hf u a k

/-! ## Changes that move neither a screen nor a pump -/

variable (h : t.Published R H C)
include h

theorem forget (hr : R' → R) (hh : H' → H) (hc : C' → C) : t.Published R' H' C' :=
  ⟨h.phase, h.sound, h.running ∘ hr, h.held ∘ hh, h.counts ∘ hc⟩

/-- A change of the PDC that moves no pump into or out of RUNNING, and of what is not published. -/
theorem movePumps (phase : u.phase = t.phase) (swc : u.swc = t.swc) (held : u.pdc.headerHeld = t.pdc.headerHeld)
    (count : R' → R ∧ ∀ p, (u.pump p).state = .running ↔ (t.pump p).state = .running) : u.Published R' H C := by
  have screen := screen_of_swc swc
  refine ⟨phase.trans h.phase, h.sound.congr phase swc, fun r => ?_, fun k => ?_, fun c =>
    flagsCurrent_congr (h.counts c) fun n => by rw [screen n]⟩
  · obtain ⟨r, moved⟩ := count r
    exact countCurrent_congr (h.running r) (by rw [swc]) moved
  · exact heldCurrent_congr (h.held k) held (headerInUse_congr (fun n => by rw [screen n]) (by rw [swc]) (by rw [swc]))

/-- A change of neither the phase, the SWC, the pumps nor header held. -/
theorem same (kept : u.publicBase = t.publicBase) : u.Published R H C := by
  simp only [State.publicBase, Prod.mk.injEq] at kept
  obtain ⟨phase, swc, pumps, held⟩ := kept
  exact h.movePumps phase swc held fun r => ⟨r, fun p => by rw [State.pump, pumps]; rfl⟩

theorem onLau {f : Lau → Lau} : (t.onLau f).Published R H C := h.same (by rfl)
theorem onTwu {f : Twu → Twu} : (t.onTwu f).Published R H C := h.same (by rfl)
theorem onSlp {f : Slp → Slp} : (t.onSlp f).Published R H C := h.same (by rfl)
theorem onChannel {c : ChannelId} {f : Channel → Channel} : (t.onChannel c f).Published R H C := h.same (by rfl)
theorem onBand {b : BandId} {f : Band → Band} : (t.onBand b f).Published R H C := h.same (by rfl)
theorem onScope {k : ScopeId} {f : Scope → Scope} : (t.onScope k f).Published R H C := h.same (by rfl)
theorem drawn : t.drawn.Published R H C := h.same (by rfl)
theorem evaluationFollows : t.evaluationFollows.Published R H C := h.same (by rfl)
theorem notify {c : NoticeClass} {k : NoticeKind} {a g : Nat} {v w : Int} : (t.notify c k a g v w).Published R H C :=
  h.same (by rfl)
theorem complete {m : Option Nat} {r d : Nat} : (t.complete m r d).Published R H C :=
  h.same (by simp [State.publicBase])
theorem reply {c : Code} {d : List Byte} : (t.reply c d).Published R H C := h.same (by simp [State.publicBase])

/-- A change of the PDC beside its pumps and header held. -/
theorem onPdc {f : Pdc → Pdc} (pumps : (f t.pdc).pumps = t.pdc.pumps) (held : (f t.pdc).headerHeld = t.pdc.headerHeld) :
    (t.onPdc f).Published R H C := h.same (by simp [State.publicBase, pumps, held])

theorem arrive {i : Instr} : (t.arrive i).Published R H C := by
  obtain ⟨phase, -, -, -, swc, pdc, -, -⟩ := arrive_blocks t i
  exact h.same (by rw [State.publicBase, phase, swc, pdc]; rfl)

/-! ## Pumps (R118, R119) -/

theorem onPump {p : PumpId} {f : Pump → Pump} (hf : ∀ q : Pump, (f q).state = q.state) :
    (t.onPump p f).Published R H C := by
  refine h.movePumps rfl rfl rfl fun r => ⟨r, fun q => ?_⟩
  rw [State.pump_onPump]
  split
  · rw [hf]
  · rfl

/-- A pump enters a state, the running count being published later. -/
theorem enterPumpUnpublished {p : PumpId} {st : PumpState} : (t.enterPump p st).Published False H C :=
  h.movePumps rfl rfl rfl nofun

/-- A pump that is not in RUNNING enters a state other than it. -/
theorem enterPump {p : PumpId} {st : PumpState} (before : (t.pump p).state ≠ .running) (after : st ≠ .running) :
    (t.enterPump p st).Published R H C := by
  refine h.movePumps rfl rfl rfl fun r => ⟨r, fun q => ?_⟩
  rw [State.pump_enterPump]
  split
  · next e => subst e; exact iff_of_false after before
  · rfl

/-! ## Screens (R67, R110, R111) -/

/-- A change of the SWC beside the running count. -/
theorem moveScreens (k : t.KeepsWashes False u) (pdc : u.pdc = t.pdc) (count : u.swc.runningCount = t.swc.runningCount)
    (held : H' → H ∧ u.headerInUse = t.headerInUse)
    (counts : C' → C ∧ ∀ n, (u.screen n).flagView = (t.screen n).flagView) : u.Published R H' C' := by
  refine ⟨k.phase.trans h.phase, k.washes h.sound, fun r => ?_, fun l => ?_, fun c => ?_⟩
  · exact countCurrent_congr (h.running r) count fun p => by rw [State.pump, pdc]; rfl
  · obtain ⟨l, inUse⟩ := held l
    exact heldCurrent_congr (h.held l) (by rw [pdc]) inUse
  · obtain ⟨c, views⟩ := counts c
    exact flagsCurrent_congr (h.counts c) views

/-- A change of the SWC that leaves the header and the capacity alone. -/
theorem reviewScreens (k : t.KeepsWashes False u) (pdc : u.pdc = t.pdc)
    (swc : (u.swc.runningCount, u.swc.sluicing, u.swc.purge) = (t.swc.runningCount, t.swc.sluicing, t.swc.purge))
    (views : ∀ n, ((u.screen n).state.isWashing, (u.screen n).flagView)
      = ((t.screen n).state.isWashing, (t.screen n).flagView)) : u.Published R H C := by
  simp only [Prod.mk.injEq] at swc views
  obtain ⟨count, sluicing, purge⟩ := swc
  exact h.moveScreens k pdc count (fun l => ⟨l, headerInUse_congr (fun n => (views n).1) sluicing purge⟩)
    fun c => ⟨c, fun n => (views n).2⟩

/-- A change of one screen that leaves its part in the header and the capacity alone. -/
theorem onScreen {n : ScreenId} {f : Screen → Screen} (k : t.KeepsWashes False (t.onScreen n f))
    (kept : ((f (t.screen n)).state.isWashing, (f (t.screen n)).flagView)
      = ((t.screen n).state.isWashing, (t.screen n).flagView)) : (t.onScreen n f).Published R H C := by
  refine h.reviewScreens k rfl rfl fun m => ?_
  rw [State.screen_onScreen]
  split
  · next e => subst e; exact kept
  · rfl

/-- A screen enters a state that has the same part in the header. -/
theorem enterScreen {n : ScreenId} {st : ScreenState} (k : t.KeepsWashes False (t.enterScreen n st))
    (held : st.isWashing = (t.screen n).state.isWashing)
    (counts : C' → C ∧ st.available = (t.screen n).state.available) : (t.enterScreen n st).Published R H C' := by
  refine h.moveScreens k rfl rfl (fun l => ⟨l, headerInUse_congr (fun m => ?_) rfl rfl⟩) fun c =>
    ⟨(counts c).1, fun m => ?_⟩
  · rw [State.screen_enterScreen]
    split
    · next e => subst e; exact held
    · rfl
  · rw [State.screen_enterScreen]
    split
    · next e => subst e; simp only [Screen.flagView, (counts c).2]
    · rfl

/-- A change of the SWC beside its screens and its running count. -/
theorem onSwc {f : Swc → Swc} (k : t.KeepsWashes False (t.onSwc f))
    (kept : ((f t.swc).screens, (f t.swc).runningCount) = (t.swc.screens, t.swc.runningCount))
    (held : H' → H ∧ ((f t.swc).sluicing, (f t.swc).purge) = (t.swc.sluicing, t.swc.purge)) :
    (t.onSwc f).Published R H' C := by
  obtain ⟨screens, count⟩ := Prod.mk.inj kept
  have screen (n : ScreenId) : (t.onSwc f).screen n = t.screen n := by simp only [State.screen, State.onSwc_swc, screens]
  refine h.moveScreens k rfl count (fun l => ?_) fun c => ⟨c, fun n => by rw [screen]⟩
  obtain ⟨l, header⟩ := held l
  obtain ⟨sluicing, purge⟩ := Prod.mk.inj header
  exact ⟨l, headerInUse_congr (fun n => by rw [screen]) sluicing purge⟩

/-! ## The publications -/

/-- Header held is brought up to date (R110). -/
theorem publishHeld : t.publishHeld.Published R H' C := by
  have k := t.keepsWashes.publishHeld
  refine ⟨k.phase.trans h.phase, k.washes h.sound, fun r => ?_, fun _ => ?_, fun c => ?_⟩
  · exact countCurrent_congr (h.running r) (by rw [State.publishHeld_swc]) fun p => by rw [State.publishHeld_pump]
  · rw [State.HeldCurrent, State.publishHeld_held, State.headerInUse_publishHeld]
  · exact flagsCurrent_congr (h.counts c) fun n => by rw [screen_of_swc t.publishHeld_swc]

/-- A grant takes a queued screen, which counts for capacity as it did, and the header, which is published later. -/
theorem tryGrant : t.tryGrant.Published R False C := by
  have k := t.keepsWashes.tryGrant
  unfold State.tryGrant at *
  split
  · next may =>
    rw [if_pos may] at k
    split
    · next e next =>
      simp only [next] at k
      have queued : (t.screen e.screen).state = .queued :=
        (h.sound.queue.2 _).1 (List.mem_map_of_mem (State.nextWash_mem next).1)
      refine h.moveScreens k rfl rfl nofun fun c => ⟨c, fun n => ?_⟩
      rw [State.screen_grantHeader]
      split
      · next same => subst same; simp only [Screen.flagView, Screen.granted, queued]; rfl
      · rfl
    · exact h.forget id nofun id
  · exact h.forget id nofun id

/-- The arbiter re-evaluates, and publishes header held (R103, R110). -/
theorem reevaluate : t.reevaluate.Published R H C := h.tryGrant.tryGrant.publishHeld

/-- The running count is brought up to date (R119). -/
theorem publishRunning : t.publishRunning.Published R' H C := by
  unfold State.publishRunning
  split
  · next current => exact ⟨h.phase, h.sound, fun _ => current.symm, h.held, h.counts⟩
  · have counted : (t.onSwc fun w => { w with runningCount := t.runningNow }).Published R' H C := by
      have k : t.KeepsWashes False (t.onSwc fun w => { w with runningCount := t.runningNow }) :=
        t.keepsWashes.onSwc rfl rfl
      exact ⟨h.phase, k.washes h.sound, fun _ => rfl, h.held, h.counts⟩
    exact counted.reevaluate

/-- The capacity flags are formed afresh (R111). -/
theorem publishCapacity : t.publishCapacity.Published R H C' := by
  have k := t.keepsWashes.publishCapacity
  have formed : t.publishCapacity.publicBase =
      (t.onSwc fun w => { w with screens := w.screens.map fun sc => { sc with counts := sc.counting } }).publicBase := by
    unfold State.publishCapacity
    dsimp only
    split <;> rfl
  have screen (n : ScreenId) : t.publishCapacity.screen n = { t.screen n with counts := (t.screen n).counting } := by
    rw [screen_of_swc (congrArg (fun x => x.2.1) formed)]
    simp [State.screen]
  refine ⟨k.phase.trans h.phase, k.washes h.sound, fun r => ?_, fun l => ?_, fun _ n => by rw [screen]; rfl⟩
  · exact countCurrent_congr (h.running r) (congrArg (fun x => x.2.1.runningCount) formed) fun p =>
      iff_of_eq (congrArg (fun x => x.2.2.1[p].state = PumpState.running) formed)
  · exact heldCurrent_congr (h.held l) (congrArg (fun x => x.2.2.2) formed) (headerInUse_congr
      (fun n => by rw [screen]) (congrArg (fun x => x.2.1.sluicing) formed) (congrArg (fun x => x.2.1.purge) formed))

end State.Published

end Sys2Proof.Machine
end

section
/-! PROOFS. The operations of the PDC, and what stands outside the SWC and the PDC, keep what is published current: a pump
enters or leaves RUNNING with the running count published (R119): for O11. -/

namespace Sys2Proof.Machine

variable {s t : State} {R H C : Prop} {p : PumpId}

theorem State.pump_refuseStart (s : State) (e : StartEntry) (c : Nat) (p : PumpId) :
    (s.refuseStart e c).pump p = s.pump p := by
  unfold State.refuseStart
  split
  · exact State.pump_complete ..
  · exact State.pump_complete ..

namespace State.Published

section Pumps
variable (h : t.Published R H C)
include h

/-! ## The pump state machine -/

theorem rest (before : (t.pump p).state ≠ .running) : (t.rest p).Published R H C :=
  h.enterPump before (by split <;> nofun)

theorem stopEnded (before : (t.pump p).state ≠ .running) : (t.stopEnded p).Published R H C := by
  have loaded := h.onPump (p := p) (f := fun q =>
    { q with stopTimer := 0, stopMark := none, recovery := t.pdc.recoveryTime q.cls * 1000 }) fun _ => by rfl
  exact (loaded.rest (by rw [State.pump_onPump_self]; exact before)).notify.complete

/-- A pump leaves RUNNING, and the running count is published (R119, R122). -/
theorem orderStop {o : StopOrigin} {m : Option Nat} : (t.orderStop p o m).Published R H C := by
  have ordered : (((t.enterPump p .stopping).onPump p fun q =>
      { q with stopTimer := 0, stopOrigin := some o, stopMark := m }).publishRunning).Published R H C :=
    (h.enterPumpUnpublished.onPump fun _ => by rfl).publishRunning
  have stopping : ((((t.enterPump p .stopping).onPump p fun q =>
      { q with stopTimer := 0, stopOrigin := some o, stopMark := m }).publishRunning).pump p).state ≠ .running := by
    simp
  unfold State.orderStop
  exact ite (ite ordered (ordered.stopEnded stopping)) h

theorem lowLevelStop : (t.lowLevelStop p).Published R H C := h.notify.orderStop

theorem lowLevelActs : (t.lowLevelActs p).Published R H C := ite h.lowLevelStop (h.onPump fun _ => by rfl)

theorem startEnded : t.startEnded.Published R H C := h.onPdc rfl rfl

theorem endPair : (t.endPair p).Published R H C := h.onPdc rfl rfl

theorem changeoverStop : (t.changeoverStop p).Published R H C := by
  unfold State.changeoverStop
  split
  · exact ite h.endPair.orderStop h
  · exact h

/-- A pump enters RUNNING, and the running count is published (R119, R120). -/
theorem enterRunning : (t.enterRunning p).Published R H C := by
  have entered : ((t.enterPump p .running).onPump p fun q =>
      { q with startTimer := 0, startMark := none, runTime := 0 }).Published False H C :=
    h.enterPumpUnpublished.onPump fun _ => by rfl
  unfold State.enterRunning
  dsimp only
  split
  · exact entered.notify.publishRunning.startEnded.complete.changeoverStop.lowLevelStop
  · exact entered.notify.publishRunning.startEnded.complete.changeoverStop

/-- A pump fails: the running count is published if it was in RUNNING (R119). -/
theorem failPump {c : FailCause} : (t.failPump p c).Published R H C := by
  have failed (f : Pump → Pump) (hf : ∀ q : Pump, (f q).state = q.state) (other : (t.pump p).state ≠ .running) :
      ((t.enterPump p .failed).onPump p f).Published R H C := (h.enterPump other (by decide)).onPump hf
  have stopped (f : Pump → Pump) (hf : ∀ q : Pump, (f q).state = q.state) :
      ((t.enterPump p .failed).onPump p f).Published False H C := h.enterPumpUnpublished.onPump hf
  unfold State.failPump
  dsimp only
  split
  case h_1 state => exact (failed _ (fun _ => by rfl) (by rw [state]; nofun)).notify.startEnded.endPair.complete
  case h_2 => exact (stopped _ fun _ => by rfl).notify.publishRunning
  case h_3 state => exact (failed _ (fun _ => by rfl) (by rw [state]; nofun)).notify.complete
  all_goals
    next state => exact (failed _ (fun _ => by rfl) (by rw [state]; nofun)).notify

/-! ## Starts -/

theorem beginStart {e : StartEntry} (stopped : (t.pump e.pump).state = .stopped) : (t.beginStart e).Published R H C := by
  have begun := (h.enterPump (p := e.pump) (st := .starting) (by rw [stopped]; nofun) nofun).onPump (p := e.pump)
    (f := fun q =>
      { q with starts := min (q.starts + 1) 65535, startTimer := 0, startOrigin := e.origin, startMark := e.mark })
    fun _ => by rfl
  exact ite begun.failPump (ite begun.enterRunning begun)

theorem refuseStart {e : StartEntry} {c : Nat} : (t.refuseStart e c).Published R H C := by
  unfold State.refuseStart
  split
  · exact h.complete
  · exact h.complete.endPair.evaluationFollows

omit h in
theorem grantFrom : ∀ (q : List StartEntry) {t : State}, t.Published R H C → (State.grantFrom q t).Published R H C
  | [], _, h => h.onPdc rfl rfl
  | e :: q, t, h => by
    have taken : (t.onPdc fun d => { d with queue := q }).Published R H C := h.onPdc rfl rfl
    unfold State.grantFrom
    dsimp only
    split
    · next granted => exact taken.beginStart (State.grantCheck_none granted)
    · exact grantFrom q taken.refuseStart

theorem startArbiter : t.startArbiter.Published R H C := ite (grantFrom _ h) h

theorem joinStart {o : StartOrigin} {m : Option Nat} : (t.joinStart p o m).Published R H C :=
  ite (h.onPdc rfl rfl) (startArbiter (h.onPdc rfl rfl))

theorem leaveStart : (t.leaveStart p).Published R H C := h.onPdc rfl rfl

/-! ## Duty evaluations -/

theorem makeDue {k : ScopeId} : (t.makeDue k).Published R H C := by
  unfold State.makeDue
  split
  · exact h.onScope
  · exact ite h.onScope (ite h.onScope h.onScope.orderStop)

theorem fallDue {k : ScopeId} : (t.fallDue k).Published R H C := ite h.makeDue h.onScope

theorem updateScope {k : ScopeId} : (t.updateScope k).Published R H C := by
  unfold State.updateScope
  refine ite ?_ h.onScope
  split
  · exact h.makeDue
  · exact h.makeDue
  · split
    · exact h.onScope
    · exact h

theorem searchChangeover : t.searchChangeover.Published R H C := by
  unfold State.searchChangeover
  refine ite ?_ h
  split
  · exact joinStart (h.onPdc rfl rfl)
  · exact h.onPdc rfl rfl

theorem dutyEvaluate : t.dutyEvaluate.Published R H C := by
  have scopes := h.foldl (f := State.updateScope) (fun _ _ k => k.updateScope) allScopes
  unfold State.dutyEvaluate
  dsimp only
  split
  · exact scopes
  · split
    · exact scopes.joinStart
    · exact scopes.searchChangeover

omit h in
theorem evaluations : ∀ (n : Nat) {t : State}, t.Published R H C → (State.evaluations n t).Published R H C
  | 0, _, h => h
  | n + 1, _, h => ite (evaluations n (dutyEvaluate (h.onPdc rfl rfl))) h

/-- The duty evaluations after a piece of work order stops and begin starts, each publishing the running count. -/
theorem settle : t.settle.Published R H C := h.evaluations 32

theorem setMode {m : DutyMode} : (t.setMode m).Published R H C := by
  refine ite h (evaluationFollows ?_)
  cases m <;> exact h.onPdc rfl rfl

/-! ## Requests and settings of the PDC -/

theorem disablePump (before : (t.pump p).state ≠ .running) : (t.disablePump p).Published R H C := by
  unfold State.disablePump
  dsimp only
  split
  · refine (h.leaveStart.refuseStart.onPump fun _ => by rfl).enterPump ?_ (by decide)
    rw [State.pump_onPump_self, State.pump_refuseStart]
    exact before
  · refine (h.onPump fun _ => by rfl).enterPump ?_ (by decide)
    rw [State.pump_onPump_self]
    exact before

theorem cutRecovery : (t.cutRecovery p).Published R H C := by
  have cut : (t.onPump p fun q => { q with recovery := t.pdc.recoveryTime (t.pump p).cls * 1000 }).Published R H C :=
    h.onPump fun _ => by rfl
  unfold State.cutRecovery
  dsimp only
  refine ite ?_ h
  split
  · next recovered =>
    refine cut.enterPump ?_ nofun
    simp only [State.recovered, decide_eq_true_eq] at recovered
    rw [recovered.1]
    nofun
  · exact cut

theorem changed {old new : Nat} {f : State → State} (hf : ∀ t : State, t.Published R H C → (f t).Published R H C) :
    (whenNew old new f t).Published R H C := ite h (hf t h)

theorem pumpTimingActs {old : Pdc} : (t.pumpTimingActs old).Published R H C := by
  have cut (c : PumpClass) (t : State) (h : t.Published R H C) : (State.cutClass c t).Published R H C :=
    h.foldl (fun _ _ k => ite k.cutRecovery k) _
  unfold State.pumpTimingActs
  exact h.changed (cut _) |>.changed (cut _)
    |>.changed (fun _ k => k.foldl (fun _ _ k => ite k.failPump k) _)
    |>.changed (fun _ k => k.foldl (fun _ _ k => ite k.failPump k) _)
    |>.changed (fun _ k => startArbiter (k.onPdc rfl rfl))
    |>.changed (fun _ k => k.evaluationFollows)
    |>.changed (fun _ k => k.foldl (fun _ _ k => ite k.lowLevelActs k) _)
    |>.changed (fun _ k => (k.foldl (fun _ _ k => ite k.fallDue k) _).evaluationFollows)
    |>.changed (fun _ k => k.evaluationFollows)
    |>.changed (fun _ k => k.onPdc rfl rfl)
    |>.changed (fun _ k => ite (evaluationFollows (k.onPdc rfl rfl)) k)

theorem hostStart {m : Nat} : (t.hostStart p m).Published R H C := by
  unfold State.hostStart
  split
  · exact h.onPump fun _ => by rfl
  · exact h.joinStart.settle
  all_goals exact h

/-! ## The link -/

theorem markLinkError : t.markLinkError.Published R H C := h.onSlp
theorem hunt : t.hunt.Published R H C := h.onSlp
theorem heard : t.heard.Published R H C := ite h.onSlp h
theorem hold {r : Request} : (t.hold r).Published R H C := ite h.onSlp h.markLinkError
theorem goodFrame {f : Frame} : (t.goodFrame f).Published R H C := ite h.heard.markLinkError h.heard.hold
theorem formBatch : t.formBatch.Published R H C := h.same (by rfl)

theorem transmitNext {b : Bool} : (t.transmitNext b).Published R H C := by
  unfold State.transmitNext
  split
  · exact h.onSlp
  · exact ite h.formBatch h

theorem discardSlot {i : SlotId} : (t.discardSlot i).Published R H C := by
  unfold State.discardSlot
  split
  · split
    · exact notify h.onSlp
    · exact h
  · exact h

theorem linkActs {old : Slp} : (t.linkActs old).Published R H C := by
  unfold State.linkActs
  exact h.changed (fun _ k => k.onSlp) |>.changed (fun _ k => k.onSlp)
    |>.changed (fun _ k => k.foldl (fun _ _ k => ite k.discardSlot k) _)

theorem enterFallback : t.enterFallback.Published R H C := by
  unfold State.enterFallback
  exact (settle (evaluationFollows ((setMode h.onSlp).onPdc rfl rfl))).notify

/-! ## The scan, the banks and the claims -/

theorem dealChannel {c : ChannelId} {sample e : Nat} : (t.dealChannel c sample e).Published R H C := by
  have noticed {u : State} (k : u.Published R H C) (ch : Channel) : (u.sampleNotice c ch e).Published R H C := by
    obtain hn | ⟨_, _, _, _, _, _, hn⟩ := sampleNotice_cases u c ch e <;> rw [hn]
    · exact k
    · exact k.notify
  exact ite (noticed h.onChannel _) h.onChannel

theorem dealNext : t.dealNext.Published R H C := by
  unfold State.dealNext
  split
  · exact h
  · split
    · exact h.dealChannel.onLau
    · exact h

omit h in
theorem dealMany : ∀ (k : Nat) {t : State}, t.Published R H C → (State.dealMany k t).Published R H C
  | 0, _, h => h
  | k + 1, _, h => dealMany k h.dealNext

theorem publishRecord : t.publishRecord.Published R H C := ite h.onLau h.onLau.notify

theorem swapBanks {c : Nat} : (t.swapBanks c).Published R H C := h.onTwu.notify

theorem checkBank : t.checkBank.Published R H C := by
  unfold State.checkBank
  dsimp only
  split
  · exact ite (ite h.swapBanks h.onTwu.notify) h
  · exact ite h.swapBanks h
  all_goals exact h

theorem checkBanks : t.checkBanks.Published R H C := ite h.checkBank.checkBank h

theorem evaluateClaim {q : Quantity} : (t.evaluateClaim q).Published R H C := by
  unfold State.evaluateClaim
  dsimp only
  refine ite h ?_
  split
  · exact h.onTwu.notify.onBand
  · exact h.onTwu.notify

theorem reevaluateQuantities {a b : Quantity} : (t.reevaluateQuantities a b).Published R H C :=
  h.foldl (fun _ _ k => ite k.evaluateClaim k) _

theorem remind {b : BandId} : (t.remind b).Published R H C := ite h.onBand.notify h

theorem pdcReads : t.pdcReads.Published R H C :=
  (h.foldl (f := State.marginPeriod) (fun _ _ k => k.onPump fun _ => by rfl) allPumps).evaluationFollows.settle

end Pumps

end State.Published

end Sys2Proof.Machine
end

section
/-! PROOFS. The operations of the SWC, and the readers of a publication and of a record, keep what is published current:
header held is published after each change of the header (R110), the capacity flags after each change of a screen that
counts (R111): for O11. -/

namespace Sys2Proof.Machine

variable {s t : State} {R H C H' C' : Prop} {n : ScreenId}

/-- A screen leaves the wash queue for a state of rest. -/
theorem State.SwcSound.leaveQueue {next : ScreenState} (h : s.SwcSound) (queued : (s.screen n).state = .queued)
    (rest : next.atRest = true) : ((s.leaveQueue n).enterScreen n next).SwcSound := by
  obtain ⟨wash, staged⟩ := h.noWash (n := n) (by rw [queued]; rfl)
  refine h.leave (n := n) (sc := { s.screen n with state := next, drive := next.isWashing, spray := next.isWashing })
    rfl (fun m => ?_) rfl rest wash staged
  rw [State.screen_enterScreen]
  split
  · next same => subst same; rfl
  · rfl

namespace State.Published

variable (h : t.Published R H C)
include h

/-! ## Results, the sluice and the header purge -/

theorem announcePending {r : Option WashResult} : (t.announcePending n r).Published R H C := by
  unfold State.announcePending
  split
  · exact ite h.notify.complete h
  · exact h

theorem releaseScreen : (t.releaseScreen n).Published R H C :=
  h.announcePending.announcePending.onScreen ((State.keepsWashes _).onScreen (by rfl)) (by rfl)

theorem releaseResults : t.releaseResults.Published R H C := h.foldl (fun _ _ k => k.releaseScreen) _

theorem startSluice : t.startSluice.Published R False C := h.onSwc t.keepsWashes.startSluice rfl nofun

theorem endSluice : t.endSluice.Published R False C :=
  releaseResults (h.onSwc (t.keepsWashes.onHeader (by rfl) (fun _ => rfl) id .inl) rfl nofun)

theorem activatePurge : t.activatePurge.Published R False C := by
  have k := t.keepsWashes.activatePurge
  unfold State.activatePurge at *
  split
  · next may =>
    rw [if_pos may] at k
    exact h.onSwc k rfl nofun
  · exact h.forget id nofun id

theorem idlePurge : t.idlePurge.Published R False C := h.onSwc t.keepsWashes.idlePurge rfl nofun

theorem finishPurge : t.finishPurge.Published R H' C := h.idlePurge.publishHeld.reevaluate

theorem flushTrough {w : WashRecord} {o : WashOutcome} : (t.flushTrough n w o).Published R False C :=
  startSluice (ite h.notify h)

theorem formVerdicts : t.formVerdicts.Published R H C' := by
  unfold State.formVerdicts
  refine publishCapacity (C := False) (h.moveScreens (t.keepsWashes.reviewed rfl (fun m => ?_) rfl rfl fun _ k => k) rfl rfl
    (fun l => ⟨l, headerInUse_congr (fun m => ?_) rfl rfl⟩) nofun)
  all_goals
    simp only [State.screen, State.onSwc_swc, Fin.getElem_fin, Vector.getElem_ofFn]
    split <;> rfl

/-! ## The ends of washes -/

/-- A wash ends: the header is published later, and so are the capacity flags of a screen that goes out of service or is
jammed. -/
theorem concludeWash {w v : WashRecord} {o : WashOutcome} {next : ScreenState} (wash : (t.screen n).wash = some v)
    (rest : next.atRest = true) (counts : C' → C ∧ next = .idle) : (t.concludeWash n w o next).Published R False C' := by
  obtain ⟨-, still⟩ := ScreenState.atRest_iff.1 rest
  obtain ⟨sc, q, screens, aside, cases⟩ := concludeWash_cases t n w o still
  obtain ⟨aside, pdc⟩ := Prod.mk.inj aside
  have available := ScreenState.available_of_washing (h.sound.washing wash)
  refine h.moveScreens (t.keepsWashes.concludeWash wash rest) pdc (congrArg Swc.runningCount aside :) nofun fun c => ?_
  obtain ⟨c, rfl⟩ := counts c
  refine ⟨c, fun m => ?_⟩
  rw [screens]
  split
  · next same =>
    subst same
    have before : (t.screen n).flagView = ((t.screen n).counts, (t.screen n).verdict, true) := by
      rw [Screen.flagView, available]
    rw [before]
    rcases cases with ⟨rfl, -⟩ | ⟨g, rfl, -⟩ | ⟨g, rfl, -⟩ <;> rfl
  · rfl

theorem endWash {o : WashOutcome} {next : ScreenState} (rest : next.atRest = true) (counts : C' → C ∧ next = .idle) :
    (t.endWash n o next).Published R H C' := by
  unfold State.endWash
  split
  · exact h.forget id id fun c => (counts c).1
  · next w wash => exact (h.concludeWash wash rest counts).flushTrough.activatePurge.publishHeld.reevaluate

/-- A wash ends to IDLE. -/
theorem endWashIdle {o : WashOutcome} : (t.endWash n o .idle).Published R H C := h.endWash rfl fun c => ⟨c, rfl⟩

theorem endWashes {p : State → ScreenId → Bool} {o : WashOutcome} : (t.endWashes p o).Published R H C :=
  h.foldl (fun _ _ k => ite k.endWashIdle k) _

theorem loseHeader : t.loseHeader.Published R H C := h.endWashes

/-- The header clear publishes header held when every wash has ended (R113). -/
theorem clearHeader {o : WashOutcome} : (t.clearHeader o).Published R H' C := by
  have one (t : State) (n : ScreenId) (h : t.Published R False C) : (t.endUnder o n).Published R False C := by
    unfold State.endUnder
    refine ite ?_ h
    split
    · next w wash => exact (h.concludeWash wash rfl fun c => ⟨c, rfl⟩).flushTrough
    · exact h
  have ended : (t.endAll o).Published R False C := (h.forget id nofun id).foldl one allScreens
  have sluice : (t.endAll o).sluiceOff.Published R False C := ite ended.endSluice ended
  have purge : (t.endAll o).sluiceOff.purgeOff.Published R False C := ite sluice sluice.idlePurge
  rw [State.clearHeader_eq]
  exact purge.publishHeld

/-! ## Screens that move -/

theorem setWash {w : WashRecord} (washing : (t.screen n).state.isWashing = true) : (t.setWash n w).Published R H C :=
  h.onScreen (t.keepsWashes.setWash washing) rfl

theorem stage {g : Staged} (washing : (t.screen n).state.isWashing = true) : (t.stage n g).Published R H C :=
  h.onScreen (t.keepsWashes.stage washing) rfl

/-- A washing screen goes on to FINISHING. -/
theorem finish (washing : (t.screen n).state.isWashing = true) : (t.enterScreen n .finishing).Published R H C :=
  h.enterScreen (t.keepsWashes.finish washing) washing.symm fun c =>
    ⟨c, (ScreenState.available_of_washing washing).symm⟩

theorem finishContinuous : t.finishContinuous.Published R H C := by
  rw [State.finishContinuous_eq]
  refine h.foldl (fun t n h => ?_) _
  unfold State.finishOne
  split
  · next now => exact h.finish (by rw [now.1]; rfl)
  · exact h

theorem purgeOverdue : t.purgeOverdue.Published R H C :=
  finishContinuous (h.onSwc (t.keepsWashes.onSwc rfl rfl) rfl fun l => ⟨l, rfl⟩)

theorem joinQueue {c : WashClass} {p : Nat} {m : Option Nat} (idle : (t.screen n).state = .idle) :
    (t.joinQueue n c p m).Published R H C := by
  refine h.reviewScreens (t.keepsWashes.joinQueue h.phase idle) rfl rfl fun i => ?_
  rw [screen_joinQueue]
  split
  · next same => subst same; simp only [Screen.flagView, idle]; rfl
  · rfl

theorem mergeQueue {c : WashClass} {p : Nat} {m : Option Nat} : (t.mergeQueue n c p m).Published R H C :=
  h.onSwc t.keepsWashes.mergeQueue rfl fun l => ⟨l, rfl⟩

/-- A queue entry is removed: the capacity flags of a screen that goes out of service are published later. -/
theorem removeEntry {next : ScreenState} (queued : (t.screen n).state = .queued) (rest : next.atRest = true)
    (counts : C' → C ∧ next = .idle) : (t.removeEntry n next).Published R H C' := by
  have told : (t.complete (t.queueMark n) 6 0).Published R H C := h.complete
  have queued' : ((t.complete (t.queueMark n) 6 0).screen n).state = .queued := by simpa using queued
  unfold State.removeEntry
  generalize t.complete (t.queueMark n) 6 0 = u at told queued' ⊢
  have left : u.KeepsWashes False ((u.leaveQueue n).enterScreen n next) :=
    ⟨rfl, fun k => State.OutputsAgree.enterScreen (s := u.leaveQueue n) k n next,
      fun k => k.leaveQueue queued' rest, nofun⟩
  refine reevaluate (told.moveScreens left rfl rfl (fun l => ⟨l, headerInUse_congr (fun m => ?_) rfl rfl⟩) fun c => ?_)
  · rw [State.screen_enterScreen]
    split
    · next same => subst same; rw [queued']; exact (ScreenState.atRest_iff.1 rest).2
    · rfl
  · obtain ⟨c, rfl⟩ := counts c
    refine ⟨c, fun m => ?_⟩
    rw [State.screen_enterScreen]
    split
    · next same => subst same; simp only [Screen.flagView, queued']; rfl
    · rfl

/-! ## Triggers -/

theorem triggerScreen : (t.triggerScreen n).Published R H C := by
  unfold State.triggerScreen
  split
  · exact h
  · split
    · next idle => exact h.joinQueue idle
    · exact h.mergeQueue
    · next finishing => exact h.stage (by rw [finishing]; rfl)
    all_goals exact h

theorem evaluateTriggers : t.evaluateTriggers.Published R H C := by
  have screens : (allScreens.foldl State.triggerScreen t).Published R H C := h.foldl (fun _ _ k => k.triggerScreen) _
  unfold State.evaluateTriggers
  exact ite screens screens.reevaluate

/-! ## Publications and records -/

theorem pdcActs {old : Condition} : (t.pdcActs old).Published R H C :=
  ite h (evaluationFollows (ite h.clearHeader h))

theorem capActs {old : Condition} : (t.capActs old).Published R H C := ite h.activatePurge.publishHeld h

theorem modeActs {old : Condition} : (t.modeActs old).Published R H C := by
  unfold State.modeActs
  refine ite h ?_
  split
  · exact h.finishContinuous
  · exact h.evaluateTriggers
  · exact h

theorem swcActs {old : Condition} : (t.swcActs old).Published R H C := ite h h.modeActs.capActs.reevaluate

theorem readersAct {old : Condition} : (t.readersAct old).Published R H C :=
  ite (ite h.drawn.pdcActs.swcActs h.drawn.swcActs.pdcActs) h.pdcActs.swcActs

theorem recompute : t.recompute.Published R H C := by
  unfold State.recompute
  exact ite h h.onTwu.readersAct

theorem rateEvent : t.rateEvent.Published R H C := by
  unfold State.rateEvent
  exact h.onTwu.evaluateClaim.recompute.settle

theorem emptyRing : t.emptyRing.Published R H C := h.onTwu.rateEvent

theorem handLevels : t.handLevels.Published R H C := by
  unfold State.handLevels
  exact h.onTwu.evaluateClaim.evaluateClaim.recompute.settle

theorem twuReads {before : SeaClass} : (t.twuReads before).Published R H C :=
  ite (ite h.drawn.emptyRing.handLevels h.drawn.handLevels.emptyRing) h.handLevels

theorem swcReads : t.swcReads.Published R H C := h.evaluateTriggers.formVerdicts.settle

theorem read {before : SeaClass} {k : Nat} : (State.read before k t).Published R H C := by
  unfold State.read
  split
  · exact h.twuReads.swcReads.pdcReads
  · exact h.twuReads.pdcReads.swcReads
  · exact h.swcReads.twuReads.pdcReads
  · exact h.swcReads.pdcReads.twuReads
  · exact h.pdcReads.twuReads.swcReads
  · exact h.pdcReads.swcReads.twuReads

theorem scanEnd : t.scanEnd.Published R H C := by
  unfold State.scanEnd
  exact h.publishRecord.drawn.read

/-! ## Commands of the SWC -/

theorem acceptPulse {w : WashRecord} : (t.acceptPulse n w).Published R H C := by
  unfold State.acceptPulse
  split
  · next washing =>
    have set (w : WashRecord) : (t.setWash n w).Published R H C := h.setWash (by rw [washing]; rfl)
    refine ite (set _) (ite ((set _).finish ?_) (set _))
    rw [State.setWash, State.screen_onScreen_self]
    exact congrArg ScreenState.isWashing washing
  · next finishing => exact (h.setWash (by rw [finishing]; rfl)).endWashIdle.settle
  all_goals exact h

theorem jamActs {rising : Bool} : (t.jamActs n rising).Published R H C := by
  have jammed {o : WashOutcome} : (t.endWash n o .jammed).Published R H False := h.endWash rfl nofun
  unfold State.jamActs
  split
  iterate 2 exact ite jammed.publishCapacity.settle h
  · exact h.reevaluate.settle
  all_goals exact h

theorem jamLevel {level : Bool} : (t.jamLevel n level).Published R H C := by
  have read : (t.onScreen n fun sc => { sc with jam := level }).Published R H C :=
    h.onScreen (t.keepsWashes.onScreen (by rfl)) rfl
  exact ite h (ite read.jamActs read)

theorem stopWash : (t.stopWash n).Published R H C := by
  unfold State.stopWash
  split
  iterate 2 exact h.endWashIdle.settle
  · next queued => exact (h.removeEntry queued rfl fun c => ⟨c, rfl⟩).settle
  all_goals exact h

/-- A screen at rest enters another state of rest, the capacity flags being published later. -/
theorem moveScreen {st : ScreenState} (before : (t.screen n).state.atRest = true) (rest : st.atRest = true) :
    (t.enterScreen n st).Published R H False :=
  h.enterScreen (t.keepsWashes.enterScreen before rest)
    ((ScreenState.atRest_iff.1 rest).2.trans (ScreenState.atRest_iff.1 before).2.symm) nofun

theorem serviceOut : (t.serviceOut n).Published R H False := by
  unfold State.serviceOut
  split
  iterate 2 exact h.endWash rfl nofun
  · next queued => exact h.removeEntry queued rfl nofun
  iterate 2
    next rest => exact h.moveScreen (by rw [rest]; rfl) rfl
  · exact h.forget id id nofun

theorem serviceIn : (t.serviceIn n).Published R H False := by
  unfold State.serviceIn
  split
  · next out => exact ite (notify (h.moveScreen (by rw [out]; rfl) rfl)) (h.moveScreen (by rw [out]; rfl) rfl)
  all_goals exact h.forget id id nofun

theorem purgeIntervalActs : t.purgeIntervalActs.Published R H C := by
  unfold State.purgeIntervalActs
  split
  · exact h.onSwc (t.keepsWashes.onSwc rfl rfl) rfl fun l => ⟨l, rfl⟩
  · exact ite h.finishPurge h
  · exact h

theorem washTimingActs {old : Swc} : (t.washTimingActs old).Published R H C := by
  unfold State.washTimingActs
  exact h.changed (fun _ k => k.endWashes)
    |>.changed (fun _ k => ite k.endSluice.publishHeld k)
    |>.changed (fun _ k => k.purgeIntervalActs)
    |>.changed (fun _ k => ite k.finishPurge k)
    |>.changed (fun _ k => ite k.purgeOverdue k)
    |>.changed (fun _ k => ite k.loseHeader k)

theorem hostWash {p m : Nat} : (t.hostWash n p m).Published R H C := by
  unfold State.hostWash
  split
  · next idle => exact (h.joinQueue idle).reevaluate.settle
  · exact h.mergeQueue.reevaluate.settle
  iterate 2
    next washing => exact h.stage (by rw [washing]; rfl)
  all_goals exact h

theorem hostStop {p : PumpId} {f : Bool} {m : Nat} : (t.hostStop p f m).Published R H C := by
  unfold State.hostStop
  split
  · exact h.onPump fun _ => by rfl
  · exact (ite h.clearHeader h).orderStop.settle
  all_goals exact h

end State.Published

end Sys2Proof.Machine
end

section
/-! PROOFS. What is published at the start-up values, and as LOADING ends (R95, R139, R192): for O11. -/

namespace Sys2Proof.Machine

variable {s t : State}

/-! ## At rest -/

/-- With no pump in RUNNING, the header clear and no screen counting for capacity, what is published is current at its
start-up values. -/
theorem publicationsCurrent_of_rest (count : s.swc.runningCount = 0) (held : s.pdc.headerHeld = false)
    (pumps : ∀ p, (s.pump p).state ≠ .running) (washing : ∀ n, (s.screen n).state.isWashing = false)
    (sluicing : s.swc.sluicing = false) (purge : s.swc.purge = .idle)
    (flags : ∀ n, ((s.screen n).counts, (s.screen n).verdict) = (false, false)) : s.PublicationsCurrent := by
  refine ⟨?_, held.trans (State.headerInUse_of_clear washing sluicing purge).symm, fun n => ?_⟩
  · rw [count, State.runningNow, List.filter_eq_nil_iff.2 fun p _ => by simp [pumps p]]
    rfl
  · obtain ⟨counts, verdict⟩ := Prod.mk.inj (flags n)
    rw [counts, Screen.counting_eq, verdict, Bool.and_false]

theorem publicationsCurrent_of_atStartUp (h : t.AtStartUp) : t.PublicationsCurrent := by
  have screens := atStartUp_screen h
  have pumps := atStartUp_pump h
  obtain ⟨-, -, swc, pdc, -⟩ := h
  refine publicationsCurrent_of_rest (by rw [swc]) (by rw [pdc]) (fun p => ?_) (fun n => ?_) (by rw [swc]) (by rw [swc])
    fun n => ?_
  · rw [pumps p]; nofun
  · rw [screens n]; rfl
  · rw [screens n]

/-! ## The end of LOADING -/

/-- What is published and the parts of the SWC that it rests on, without the states of screens. -/
def State.publicRest (s : State) : (Nat × Bool) × (Bool × Bool × PurgeState × Bool) × (ScreenId → Bool × Bool) :=
  ((s.swc.runningCount, s.pdc.headerHeld), s.swc.header, fun n => ((s.screen n).counts, (s.screen n).verdict))

theorem publicRest_onScreen (s : State) (n : ScreenId) {f : Screen → Screen}
    (hf : ∀ sc : Screen, ((f sc).counts, (f sc).verdict) = (sc.counts, sc.verdict)) :
    (s.onScreen n f).publicRest = s.publicRest := by
  have views : (fun m => (((s.onScreen n f).screen m).counts, ((s.onScreen n f).screen m).verdict))
      = fun m => ((s.screen m).counts, (s.screen m).verdict) := by
    funext m
    rw [State.screen_onScreen]
    split
    · exact hf _
    · rfl
  simp only [State.publicRest, views]
  rfl

theorem publicRest_enterPump (s : State) (p : PumpId) (st : PumpState) : (s.enterPump p st).publicRest = s.publicRest := rfl

/-- No record of an image touches what is published. -/
theorem publicRest_applyRecord (s : State) (r : Record) : (s.applyRecord r).publicRest = s.publicRest := by
  unfold State.applyRecord
  split
  case h_6 =>
    split
    · exact publicRest_onScreen s _ fun sc => by unfold Screen.load; split <;> rfl
    · rfl
  case h_7 => unfold Swc.load State.onSwc; split <;> rfl
  case h_9 => unfold Pdc.load State.onPdc; split <;> rfl
  case h_1 | h_4 | h_8 | h_12 => split <;> rfl
  all_goals rfl

theorem publicRest_takeSettings (s : State) (answers : Bool) : (s.takeSettings answers).publicRest = s.publicRest := by
  unfold State.takeSettings State.loadImage
  split
  · split
    · exact foldl_keeps State.publicRest State.applyRecord publicRest_applyRecord _ s
    · rfl
  · rfl

theorem publicRest_startScreen (s : State) (n : ScreenId) : (s.startScreen n).publicRest = s.publicRest := by
  have entered (st : ScreenState) : (s.enterScreen n st).publicRest = s.publicRest := publicRest_onScreen s n fun _ => rfl
  unfold State.startScreen
  split
  · split
    · exact entered _
    · exact entered _
  · exact entered _

theorem publicRest_startPump (s : State) (p : PumpId) : (s.startPump p).publicRest = s.publicRest := by
  unfold State.startPump
  split
  · exact publicRest_enterPump _ p _
  · exact publicRest_enterPump s p _

theorem publicRest_begun (s : State) : s.begun.publicRest = s.publicRest := rfl

theorem publicRest_startBlocks (s : State) (samples : Vector Nat 12) :
    (s.startBlocks samples).publicRest = s.publicRest := by
  rw [startBlocks_eq]
  calc (s.startLau samples).startScreens.startPumps.begun.publicRest
      = (s.startLau samples).startScreens.startPumps.publicRest := publicRest_begun _
    _ = (s.startLau samples).startScreens.publicRest := foldl_keeps State.publicRest State.startPump publicRest_startPump _ _
    _ = (s.startLau samples).publicRest := foldl_keeps State.publicRest State.startScreen publicRest_startScreen _ _
    _ = s.publicRest := rfl

theorem Pump.started_not_running (time : PumpClass → Nat) (q : Pump) : (q.started time).state ≠ .running := by
  unfold Pump.started
  split
  · dsimp only; split <;> nofun
  · nofun

/-- LOADING ends with no pump in RUNNING, the header clear and no verdict formed (R95, R139). -/
theorem publicationsCurrent_loadingEnd (h : s.AtStartUp) (answers : Bool) (samples : Vector Nat 12) :
    (((s.onSlp Slp.finishSave).takeSettings answers).startBlocks samples).PublicationsCurrent := by
  have kept := (publicRest_startBlocks _ samples).trans (publicRest_takeSettings (s.onSlp Slp.finishSave) answers)
  have screens := atStartUp_screen h
  obtain ⟨-, -, swc, pdc, -⟩ := h
  simp only [State.publicRest, Swc.header, Prod.mk.injEq] at kept
  obtain ⟨⟨count, held⟩, ⟨sluicing, -, purge, -⟩, flags⟩ := kept
  refine publicationsCurrent_of_rest ?_ ?_ (fun p => ?_) (fun n => ?_) ?_ ?_ fun n => ?_
  · rw [count, State.onSlp_swc, swc]
  · rw [held, State.onSlp_pdc, pdc]
  · rw [startBlocks_pump]; exact Pump.started_not_running _ _
  · rw [startBlocks_screen]; exact Screen.started_idle _
  · rw [sluicing, State.onSlp_swc, swc]
  · rw [purge, State.onSlp_swc, swc]
  · rw [congrFun flags n, State.screen_onSlp, screens n]

end Sys2Proof.Machine
end

section
/-! PROOFS. What is published stays current over every command, and so over every step: O11. -/

namespace Sys2Proof.Machine

variable {s t : State}

/-! ## Rules of requests -/

/-- Everything published is current, in a running part whose washes are sound. -/
abbrev State.AllPublished (s : State) : Prop := s.Published True True True

/-- The rule of a request keeps everything published current. -/
def RulePublishes (rule : State → Answer) : Prop := ∀ t : State, t.AllPublished → (rule t).state.AllPublished

namespace RulePublishes

theorem refuse (c : Code) : RulePublishes fun t => .refuse t c := fun _ h => h

theorem withArgs {α : Type} {k : α → State → Answer} (a : Form α) (h : ∀ x, RulePublishes (k x)) :
    RulePublishes (withArgs a k) := by
  cases a with
  | args x => exact h x
  | mismatch => exact refuse _

theorem outsideFallback {k : State → Answer} (h : RulePublishes k) : RulePublishes (outsideFallback k) := by
  intro t current
  unfold Machine.outsideFallback
  split
  · exact current
  · exact h t current

theorem foundSlot (i : SlotId) (sl : Slot) (k : DeferredKind) (args : List Byte) :
    RulePublishes (foundSlot i sl k args) := by
  intro t h
  unfold Machine.foundSlot
  split
  · split
    · exact h
    · dsimp only; exact h.onSlp
  · exact h

/-- A deferred request, if what answers it at once and what acts on it keep everything published current. -/
theorem deferred {k : DeferredKind} {g : Target} {args : List Byte} {v : State → Verdict} {act : Nat → State → State}
    {data : List Byte} (hv : ∀ t u, v t = .answered u → t.AllPublished → u.AllPublished)
    (ha : ∀ m (t : State), t.AllPublished → (act m t).AllPublished) :
    RulePublishes (deferredRequest k g args v act data) := by
  have new (t : State) (h : t.AllPublished) : (newRequest k g args (v t) act data t).state.AllPublished := by
    unfold newRequest
    split
    · exact h
    · next u answered => exact hv t u answered h
    · split
      · exact h
      · exact ha _ _ h.onSlp
  intro t h
  unfold deferredRequest
  split
  · split
    · exact foundSlot _ _ _ _ t h
    · exact new t h
  · exact new t h

end RulePublishes

/-- A START PUMP is answered at once with nothing done. -/
theorem startVerdict_answered {p : PumpId} {u : State} (h : startVerdict p t = .answered u) : u = t := by
  revert h
  unfold startVerdict
  split
  · nofun
  · split
    · intro h; cases h; rfl
    all_goals nofun

/-- A STOP PUMP is answered at once with at most the pump's start withdrawn. -/
theorem stopVerdict_answered {p : PumpId} {f : Bool} {u : State} (h : stopVerdict p f t = .answered u) :
    u = t ∨ u = t.leaveStart p := by
  revert h
  unfold stopVerdict
  split
  · nofun
  · split
    · intro h; cases h; exact .inr rfl
    iterate 3
      intro h; cases h; exact .inl rfl
    iterate 2 nofun
    · split <;> nofun

/-! ## Commands -/

/-- A command ends in a next state in which everything published is current. -/
def EndsPublished (o : Host.Outcome State Fault Refusal) : Prop := ∃ t, o = .next t ∧ t.PublicationsCurrent

namespace EndsPublished

theorem next (h : t.AllPublished) : EndsPublished (.next t) := ⟨t, rfl, h.current⟩

theorem atStartUp (h : t.AtStartUp) : EndsPublished (.next t) := ⟨t, rfl, publicationsCurrent_of_atStartUp h⟩

variable (h : s.AllPublished)
include h

/-- A command that acts on a condition, and otherwise does nothing. -/
theorem onCondition {c : Prop} [Decidable c] (k : t.AllPublished) : EndsPublished (.next (if c then t else s)) :=
  next (.ite k h)

theorem requestIn {f g : State → Answer} (hg : RulePublishes g) (i : Instr) : EndsPublished (.next (s.requestIn i f g)) :=
  next (requestIn_keeps (P := State.AllPublished) h (fun _ k => k.arrive) (fun _ _ _ k => k.reply)
    (fun _ loading k => absurd (loading.symm.trans k.phase) nofun) fun t _ k => hg t k)

theorem request {g : State → Answer} (i : Instr) (hg : RulePublishes g) : EndsPublished (.next (s.request i g)) :=
  requestIn h hg i

/-- A request with arguments. -/
theorem args {α : Type} {k : α → State → Answer} (i : Instr) (a : Form α) (hk : ∀ x, RulePublishes (k x)) :
    EndsPublished (.next (s.request i (withArgs a k))) := request h i (.withArgs a hk)

/-- A request that reads. -/
theorem reads {α : Type} {k : α → State → Answer} (i : Instr) (a : Form α) (hk : ∀ x t, (k x t).state = t) :
    EndsPublished (.next (s.request i (withArgs a k))) := args h i a fun x _ ht => by rw [hk]; exact ht

end EndsPublished

section Events
variable (h : s.AllPublished)
include h

theorem endsPublished_indexPulse (n : ScreenId) : EndsPublished (execIndexPulse n s) := by
  unfold execIndexPulse
  split
  · next act =>
    refine .next ?_
    split
    · exact h
    · exact .ite (h.setWash (Bool.and_eq_true_iff.1 act).2) h.acceptPulse
  · exact .next h

theorem endsPublished_hdokChange (level : Bool) : EndsPublished (execHdokChange level s) := by
  have read (f : Swc → Swc) (kept : ((f s.swc).screens, (f s.swc).queue) = (s.swc.screens, s.swc.queue))
      (count : (f s.swc).runningCount = s.swc.runningCount) (header : (f s.swc).header = s.swc.header) :
      (s.onSwc f).AllPublished := by
    obtain ⟨screens, -⟩ := Prod.mk.inj kept
    have flow := header
    simp only [Swc.header, Prod.mk.injEq] at flow
    obtain ⟨sluicing, sluv, purge, hprg⟩ := flow
    refine h.onSwc (s.keepsWashes.onHeader kept (fun k => by rw [sluv, k, sluicing]) (fun k => by rw [hprg, k, purge])
      fun k => .inl (purge ▸ k)) (by rw [screens, count]) fun l => ⟨l, by rw [sluicing, purge]⟩
  exact .next (.ite h (.ite (read _ rfl rfl rfl).reevaluate.settle (read _ rfl rfl rfl)))

theorem endsPublished_headerPurgeTimerExpiry : EndsPublished (execHeaderPurgeTimerExpiry s) := by
  unfold execHeaderPurgeTimerExpiry
  split
  · next act =>
    simp only [Swc.purgeFalls, Bool.and_eq_true, decide_eq_true_eq] at act
    obtain ⟨-, ⟨idle, -⟩, -⟩ := act
    have pending : (s.onSwc fun w => { w with purge := .pending, pendingMs := 0 }).Published True False True :=
      h.onSwc (s.keepsWashes.pendPurge idle) rfl nofun
    exact .next pending.activatePurge.publishHeld.settle
  · exact .next h

theorem endsPublished_pfbRising (p : PumpId) : EndsPublished (execPfbRising p s) := by
  have read : (s.feedbackLevel p true).AllPublished := h.onPump fun _ => rfl
  exact .next (.ite h (.ite read.enterRunning.settle read))

theorem endsPublished_pfbFalling (p : PumpId) : EndsPublished (execPfbFalling p s) := by
  have read : (s.feedbackLevel p false).AllPublished := h.onPump fun _ => rfl
  refine .onCondition h (.ite ?_ read)
  split
  · exact .ite read read.failPump.settle
  · next stopping => exact (read.stopEnded (by rw [stopping]; nofun)).settle
  all_goals exact read

theorem endsPublished_ptrpActive (p : PumpId) (level : Bool) : EndsPublished (execPtrpActive p level s) := by
  have read : (s.onPump p fun q => { q with trip := level }).AllPublished := h.onPump fun _ => rfl
  exact .next (.ite read.failPump.settle read)

theorem endsPublished_recoveryTimerExpiry (p : PumpId) : EndsPublished (execRecoveryTimerExpiry p s) := by
  unfold execRecoveryTimerExpiry
  split
  · next act =>
    simp only [State.recovered, Bool.and_eq_true, decide_eq_true_eq] at act
    obtain ⟨-, recovering, -⟩ := act
    exact .next (h.enterPump (by rw [recovering]; decide) (by decide)).settle
  · exact .next h

theorem endsPublished_startSpacingExpiry : EndsPublished (execStartSpacingExpiry s) := by
  have noted : (s.onPdc fun d => { d with spacingTaken := true }).AllPublished := h.onPdc rfl rfl
  exact .onCondition h noted.startArbiter.settle

theorem endsPublished_rotationTimerExpiry : EndsPublished (execRotationTimerExpiry s) := by
  have rotated : (s.onPdc fun d =>
      { d with order := rotate d.order, rotationTimer := 0, changeover := true }).AllPublished := h.onPdc rfl rfl
  exact .onCondition h rotated.notify.evaluationFollows.settle

theorem endsPublished_shedTimerExpiry (k : ScopeId) : EndsPublished (execShedTimerExpiry k s) := by
  refine .next ?_
  split
  · exact .ite h.fallDue.settle h
  · exact h

theorem endsPublished_saveConfigEnd (e : SaveEnd) : EndsPublished (execSaveConfigEnd e s) := by
  refine .next ?_
  split
  · exact h
  · exact .ite h.onSlp.notify.complete h.onSlp

theorem endsPublished_replySent (c : Bool) : EndsPublished (execReplySent c s) := by
  unfold execReplySent
  split
  · dsimp only
    split
    · exact .atStartUp (startUp_atStartUp _ _)
    · exact .next h.onSlp.transmitNext
  all_goals exact .next h

theorem endsPublished_batchSent : EndsPublished (execBatchSent s) := by
  refine .next ?_
  split
  · exact h.onSlp.transmitNext
  all_goals exact h

end Events

section Requests
variable (h : s.AllPublished)
include h

theorem endsPublished_getTidePoints (a : Form (Nat × Nat)) : EndsPublished (execGetTidePoints a s) := by
  refine .reads h _ a fun x t => ?_
  split
  · rfl
  · dsimp only; split <;> rfl

theorem endsPublished_getScreen (a : Form Nat) : EndsPublished (execGetScreen a s) := by
  refine .reads h _ a fun x t => ?_
  split <;> rfl

theorem endsPublished_getPump (a : Form Nat) : EndsPublished (execGetPump a s) := by
  refine .reads h _ a fun x t => ?_
  split <;> rfl

theorem endsPublished_setChannel (a : Form ChannelArgs) : EndsPublished (execSetChannel a s) := by
  have set (n : ChannelId) (en : Option Bool) (c : ChannelArgs) : RulePublishes (setChannelOn n en c) := fun t ht => by
    unfold setChannelOn
    dsimp only
    exact ht.onChannel
  refine .args h _ a fun x t ht => ?_
  split
  · exact ht
  · split
    · exact ht
    · split
      · exact set _ _ _ t ht
      · split
        · exact ht
        · exact set _ _ _ t ht

theorem endsPublished_setSea (a : Form SeaArgs) : EndsPublished (execSetSea a s) := by
  refine .args h _ a fun x t ht => ?_
  split
  · exact ht
  · dsimp only
    exact ht.onLau

theorem endsPublished_setTrend (a : Form Nat) : EndsPublished (execSetTrend a s) :=
  .args h _ a fun _ _ ht => .ite ht ht.onTwu.emptyRing

theorem endsPublished_setBandEntry (a : Form BandArgs) : EndsPublished (execSetBandEntry a s) := by
  refine .args h _ a fun x t ht => ?_
  split
  · exact ht
  · split
    · exact ht
    · exact ht.onBand.reevaluateQuantities.recompute.settle

theorem endsPublished_setScreen (a : Form ScreenArgs) : EndsPublished (execSetScreen a s) := by
  refine .args h _ a fun x t ht => ?_
  split
  · exact ht
  · split
    · exact ht
    · dsimp only
      exact ht.onScreen (t.keepsWashes.onScreen (by rfl)) (by rfl)

theorem endsPublished_setWashTiming (a : Form WashTimingArgs) : EndsPublished (execSetWashTiming a s) := by
  refine .args h _ a fun x t ht => ?_
  split
  · exact ht
  · exact (ht.onSwc (t.keepsWashes.onSwc (by rfl) (by rfl)) (by rfl) fun l => ⟨l, by rfl⟩).washTimingActs.settle

omit h in
theorem setPumpOn_publishes (p : PumpId) (k : Option PumpClass) (c : PumpArgs) : RulePublishes (setPumpOn p k c) := by
  intro t ht
  have set (f : Pump → Pump) (hf : ∀ q : Pump, (f q).state = q.state) : (t.onPump p f).AllPublished := ht.onPump hf
  unfold setPumpOn
  exact .ite (set _ fun _ => by rfl) (set _ fun _ => by rfl).cutRecovery.settle

theorem endsPublished_setPump (a : Form PumpArgs) : EndsPublished (execSetPump a s) := by
  refine .args h _ a fun x t ht => ?_
  split
  · exact ht
  · split
    · exact ht
    · split
      · exact setPumpOn_publishes _ _ _ t ht
      · split
        · exact ht
        · exact setPumpOn_publishes _ _ _ t ht

theorem endsPublished_setPumpTiming (a : Form PumpTimingArgs) : EndsPublished (execSetPumpTiming a s) := by
  refine .args h _ a fun x t ht => ?_
  split
  · exact ht
  · exact (ht.onPdc (by rfl) (by rfl)).pumpTimingActs.settle

theorem endsPublished_setDutyOrder (a : Form (List Nat)) : EndsPublished (execSetDutyOrder a s) := by
  refine .args h _ a fun x t ht => ?_
  split
  · exact ht
  · next o _ =>
    have ordered : (t.onPdc fun d => { d with order := o, rotationTimer := 0, changeover := true }).AllPublished :=
      ht.onPdc rfl rfl
    exact .ite ordered ordered.evaluationFollows.settle

theorem endsPublished_setDutyMode (a : Form Nat) : EndsPublished (execSetDutyMode a s) := by
  refine .args h _ a fun x t ht => ?_
  split
  · exact ht
  · exact RulePublishes.outsideFallback (fun _ k => k.setMode.settle) t ht

theorem endsPublished_setDemand (a : Form Nat) : EndsPublished (execSetDemand a s) :=
  .args h _ a fun _ => .outsideFallback fun _ ht => .ite ht (ht.onPdc (by rfl) (by rfl)).evaluationFollows.settle

theorem endsPublished_setLink (a : Form LinkArgs) : EndsPublished (execSetLink a s) := by
  refine .args h _ a fun x t ht => ?_
  split
  · exact ht
  · split
    · exact ht
    · exact ht.onSlp.linkActs

theorem endsPublished_setClockStep (a : Form Int) : EndsPublished (execSetClockStep a s) := by
  refine .args h _ a fun x t ht => ?_
  split
  · exact ht.onSlp.checkBanks
  · exact ht

theorem endsPublished_tidePoints (a : Form (List TidePoint)) : EndsPublished (execTidePoints a s) := by
  refine .args h _ a fun x t ht => ?_
  dsimp only
  split
  · exact ht
  · split
    · exact ht
    · dsimp only
      exact ht.onTwu

theorem endsPublished_tideCommitNow (a : Form Unit) : EndsPublished (execTideCommitNow a s) := by
  refine .args h _ a fun x t ht => ?_
  dsimp only
  split
  · exact ht.swapBanks.checkBanks
  · exact ht

theorem endsPublished_tideSeal (a : Form Unit) : EndsPublished (execTideSeal a s) := by
  refine .args h _ a fun x t ht => ?_
  dsimp only
  split
  · exact ht.onTwu.checkBanks
  · exact ht

theorem endsPublished_stopWash (a : Form Nat) : EndsPublished (execStopWash a s) := by
  refine .args h _ a fun x t ht => ?_
  split
  · exact ht
  · exact RulePublishes.outsideFallback (fun _ k => k.stopWash) t ht

theorem endsPublished_clearScreen (a : Form Nat) : EndsPublished (execClearScreen a s) := by
  refine .args h _ a fun x t ht => ?_
  split
  · exact ht
  · split
    · next jammed =>
      split
      · exact ht
      · exact (ht.moveScreen (by rw [jammed]; rfl) rfl).publishCapacity.settle
    all_goals exact ht

theorem endsPublished_setService (a : Form (Nat × Nat)) : EndsPublished (execSetService a s) := by
  refine .args h _ a fun x t ht => ?_
  split
  · next n v _ _ =>
    refine RulePublishes.outsideFallback (fun u k => ?_) t ht
    have set : (u.onScreen n fun sc => { sc with inService := v }).AllPublished :=
      k.onScreen (u.keepsWashes.onScreen (by rfl)) rfl
    exact (State.Published.ite set.serviceIn set.serviceOut).publishCapacity.settle
  · exact ht

theorem endsPublished_enablePump (a : Form Nat) : EndsPublished (execEnablePump a s) := by
  refine .args h _ a fun x t ht => ?_
  split
  · exact ht
  · next p _ =>
    split
    · next disabled =>
      have enabled : (t.onPump p fun q => { q with enabled := true }).AllPublished := ht.onPump fun _ => rfl
      have resting : ((t.onPump p fun q => { q with enabled := true }).pump p).state ≠ .running := by
        rw [State.pump_onPump_self, disabled]; decide
      dsimp only
      exact (enabled.rest resting).settle
    all_goals exact ht

theorem endsPublished_disablePump (a : Form Nat) : EndsPublished (execDisablePump a s) := by
  refine .args h _ a fun x t ht => ?_
  split
  · exact ht
  · split
    · exact ht
    iterate 3
      next resting =>
        dsimp only
        exact (ht.disablePump (by rw [resting]; decide)).settle
    all_goals exact ht

theorem endsPublished_clearPump (a : Form Nat) : EndsPublished (execClearPump a s) := by
  refine .args h _ a fun x t ht => ?_
  split
  · exact ht
  · split
    · next failed =>
      split
      · exact ht
      · dsimp only
        exact (ht.rest (by rw [failed]; decide)).settle
    all_goals exact ht

theorem endsPublished_resetHours (a : Form Nat) : EndsPublished (execResetHours a s) := by
  refine .args h _ a fun x t ht => ?_
  split
  · exact ht
  · dsimp only
    exact ht.onPump fun _ => by rfl

theorem endsPublished_ackBand (a : Form Nat) : EndsPublished (execAckBand a s) := by
  refine .args h _ a fun x t ht => ?_
  split
  · exact ht
  · dsimp only
    exact ht.onTwu

theorem endsPublished_washScreen (a : Form (Nat × Nat)) : EndsPublished (execWashScreen a s) := by
  refine .args h _ a fun x t ht => ?_
  split
  · exact ht
  · exact RulePublishes.outsideFallback (.deferred (fun _ _ answered => absurd answered washVerdict_answers)
      fun _ _ k => k.hostWash) t ht

theorem endsPublished_startPump (a : Form Nat) : EndsPublished (execStartPump a s) := by
  refine .args h _ a fun x t ht => ?_
  split
  · exact ht
  · exact RulePublishes.outsideFallback (.deferred (fun _ _ answered k => startVerdict_answered answered ▸ k)
      fun _ _ k => k.hostStart) t ht

theorem endsPublished_stopPump (a : Form (Nat × Nat)) : EndsPublished (execStopPump a s) := by
  refine .args h _ a fun x t ht => ?_
  split
  · refine RulePublishes.outsideFallback (.deferred (fun u v answered k => ?_) fun _ _ k => k.hostStop) t ht
    rcases stopVerdict_answered answered with rfl | rfl
    · exact k
    · exact k.leaveStart
  · exact ht

end Requests

/-! ## The whole machine -/

/-- Every command keeps everything published current in a running part. -/
theorem exec_endsPublished (c : Instr) (h : s.AllPublished) : EndsPublished (exec c s) := by
  cases c
  case powerOn c => exact .atStartUp (startUp_atStartUp _ _)
  case resetNAsserted =>
    exact ⟨_, congrArg Host.Outcome.next (if_neg (by rw [h.phase]; decide)),
      publicationsCurrent_of_atStartUp (resetHeld_atStartUp _)⟩
  case resetNReleased c => exact ⟨s, congrArg Host.Outcome.next (if_neg (by rw [h.phase]; decide)), h.current⟩
  case loadingEnd e => exact ⟨s, congrArg Host.Outcome.next (if_neg (by rw [h.phase]; decide)), h.current⟩
  case scanTimerExpiry v dealt => exact .onCondition h (.dealMany _ h.onLau)
  case scanEvent => exact .onCondition h (State.Published.dealMany _ h).scanEnd
  case trendTimerExpiry => exact .onCondition h (.ite h.onTwu h.onTwu.onTwu.rateEvent)
  case reminderTimerExpiry => exact .onCondition h (h.onTwu.foldl (fun _ _ k => k.remind) _)
  case intakeTimeCount => exact .onCondition h h.onSlp.checkBanks
  case indexPulse n => exact endsPublished_indexPulse h n
  case sjamRising n => exact .next h.jamLevel
  case sjamFalling n => exact .next h.jamLevel
  case passTimeout n => exact .onCondition h h.endWashIdle.settle
  case hdokChange level => exact endsPublished_hdokChange h level
  case headerLossDelayExpiry => exact .onCondition h h.loseHeader.settle
  case sluiceRunEnd => exact .onCondition h h.endSluice.publishHeld.settle
  case headerPurgeTimerExpiry => exact endsPublished_headerPurgeTimerExpiry h
  case headerPurgeComplete => exact .onCondition h h.finishPurge.settle
  case purgeOverdue => exact .onCondition h h.purgeOverdue
  case pfbRising p => exact endsPublished_pfbRising h p
  case pfbFalling p => exact endsPublished_pfbFalling h p
  case ptrpActive p level => exact endsPublished_ptrpActive h p level
  case startTimeout p => exact .onCondition h h.failPump.settle
  case stopTimeout p => exact .onCondition h h.failPump.settle
  case recoveryTimerExpiry p => exact endsPublished_recoveryTimerExpiry h p
  case startSpacingExpiry => exact endsPublished_startSpacingExpiry h
  case rotationTimerExpiry => exact endsPublished_rotationTimerExpiry h
  case shedTimerExpiry k => exact endsPublished_shedTimerExpiry h k
  case lowLevelStop p => exact .onCondition h h.lowLevelActs.settle
  case discardTimerExpiry i => exact .onCondition h h.discardSlot
  case supervisionTimerExpiry => exact .onCondition h (.ite h.onSlp h.onSlp.enterFallback)
  case saveConfigEnd e => exact endsPublished_saveConfigEnd h e
  case frameReceived f => exact .onCondition h (.ite h.hunt.goodFrame h.hunt.markLinkError)
  case framingError => exact .onCondition h h.hunt.markLinkError
  case rxGapTimeout => exact .onCondition h h.hunt.markLinkError
  case lenAbove120 => exact .onCondition h h.hunt.markLinkError
  case replySent c => exact endsPublished_replySent h c
  case batchSent => exact endsPublished_batchSent h
  case noticeBatch => exact .onCondition h h.formBatch
  case quietTimeExpiry => exact .onCondition h h.onSlp
  case frameStart => exact .onCondition h h.onSlp
  case unknownKind k => exact .request h _ (.refuse _)
  case getStatus a => exact .requestIn h (.withArgs a fun _ _ ht => ht) _
  case getLevels a => exact .reads h _ a fun _ t => by split <;> rfl
  case getTideSummary a => exact .reads h _ a fun _ _ => rfl
  case getTidePoints a => exact endsPublished_getTidePoints h a
  case getCondition a => exact .reads h _ a fun _ _ => rfl
  case getScreen a => exact endsPublished_getScreen h a
  case getPump a => exact endsPublished_getPump h a
  case getNotices a => exact .args h _ a fun _ _ ht => by dsimp only; exact ht.onSlp
  case getConfig a => exact .reads h _ a fun _ t => by split <;> rfl
  case setChannel a => exact endsPublished_setChannel h a
  case setDensity a => exact .args h _ a fun _ _ ht => by dsimp only; exact ht.onLau
  case setScan a => exact .args h _ a fun _ _ ht => by dsimp only; exact ht.onLau
  case setSea a => exact endsPublished_setSea h a
  case setTrend a => exact endsPublished_setTrend h a
  case setBandEntry a => exact endsPublished_setBandEntry h a
  case setBandReminder a => exact .args h _ a fun _ _ ht => .ite ht ht.onTwu
  case setScreen a => exact endsPublished_setScreen h a
  case setWashTiming a => exact endsPublished_setWashTiming h a
  case setPump a => exact endsPublished_setPump h a
  case setPumpTiming a => exact endsPublished_setPumpTiming h a
  case setDutyOrder a => exact endsPublished_setDutyOrder h a
  case setDutyMode a => exact endsPublished_setDutyMode h a
  case setDemand a => exact endsPublished_setDemand h a
  case setLink a => exact endsPublished_setLink h a
  case setClockAbsolute a => exact .args h _ a fun _ _ ht => by dsimp only; exact ht.onSlp.checkBanks
  case setClockStep a => exact endsPublished_setClockStep h a
  case tidePoints a => exact endsPublished_tidePoints h a
  case tideCommitNow a => exact endsPublished_tideCommitNow h a
  case tideSeal a => exact endsPublished_tideSeal h a
  case tideClear a => exact .args h _ a fun _ _ ht => by dsimp only; exact ht.onTwu
  case stopWash a => exact endsPublished_stopWash h a
  case clearScreen a => exact endsPublished_clearScreen h a
  case setService a => exact endsPublished_setService h a
  case enablePump a => exact endsPublished_enablePump h a
  case disablePump a => exact endsPublished_disablePump h a
  case clearPump a => exact endsPublished_clearPump h a
  case resetHours a => exact endsPublished_resetHours h a
  case ackBand a => exact endsPublished_ackBand h a
  case resume a => exact .args h _ a fun _ _ ht => by dsimp only; exact ht.onSlp
  case softResetLink a => exact .args h _ a fun _ _ ht => by dsimp only; exact ht.onSlp
  case softResetFull a => exact .args h _ a fun _ _ ht => by dsimp only; exact ht.onSlp
  case washScreen a => exact endsPublished_washScreen h a
  case startPump a => exact endsPublished_startPump h a
  case stopPump a => exact endsPublished_stopPump h a
  case saveConfig a =>
    exact .args h _ a fun _ => .deferred (fun _ _ answered => absurd answered saveVerdict_answers) fun _ _ k => k.onSlp

/-- Before the end of LOADING a command leaves the start-up values, or ends LOADING. -/
theorem exec_publishesFromStart (c : Instr) (h : s.Starting) : EndsPublished (exec c s) := by
  by_cases hc : ∃ e, c = .loadingEnd e
  · obtain ⟨e, rfl⟩ := hc
    refine ⟨_, rfl, ?_⟩
    split
    · exact publicationsCurrent_loadingEnd h.start _ _
    · exact publicationsCurrent_of_atStartUp h.start
  · obtain ⟨t, ht, starting⟩ := exec_staysStarting c (fun e he => hc ⟨e, he⟩) h
    exact ⟨t, ht, publicationsCurrent_of_atStartUp starting.start⟩

/-- A millisecond changes timers alone. -/
theorem State.Published.elapse (h : t.AllPublished) : t.elapse.AllPublished := by
  have k := t.keepsWashes.elapse
  have screens (n : ScreenId) : ((t.elapse.screen n).state, (t.elapse.screen n).flagView)
      = ((t.screen n).state, (t.screen n).flagView) := by
    simp [State.screen, State.elapse, Swc.elapse, Screen.elapse, Screen.flagView]
  simp only [Prod.mk.injEq] at screens
  refine ⟨h.phase, k.washes h.sound, fun r => countCurrent_congr (h.running r) rfl fun p => ?_, fun l =>
    heldCurrent_congr (h.held l) rfl (headerInUse_congr (fun n => by rw [(screens n).1]) rfl rfl), fun c =>
    flagsCurrent_congr (h.counts c) fun n => (screens n).2⟩
  simp [State.pump, State.elapse, Pdc.elapse, Pump.elapse]

/-- What the part does of itself on an empty queue keeps everything published current. -/
theorem idle_publicationsCurrent (sound : s.SwcSound) (h : s.PublicationsCurrent) : s.idle.PublicationsCurrent := by
  unfold State.idle
  split
  · split
    · next active =>
      have all := published_of_current (by simpa [State.active] using active) sound h
      exact (State.Published.ite all.dealNext all.elapse).current
    · exact h
  · exact ⟨h.running, h.held, h.counts⟩

/-- Settles O11: a running part publishes what changes within the same piece of work (`State.Published`), by every
command; before the end of LOADING everything published is at its start-up value. -/
theorem publicationsStayCurrent : Obligations.PublicationsStayCurrent := by
  intro s t sound start current h
  unfold step at h
  split at h
  · obtain rfl : s.idle = t := by simpa using h
    exact idle_publicationsCurrent sound current
  · next c rest _ =>
    have ends : EndsPublished (exec c { s with pending := rest }) := by
      by_cases running : s.phase = .running
      · exact exec_endsPublished c (State.Published.same (published_of_current running sound current) rfl)
      · exact exec_publishesFromStart c ⟨running, start running⟩
    obtain ⟨u, hu, kept⟩ := ends
    obtain rfl : u = t := by simpa [hu] using h
    exact kept

end Sys2Proof.Machine
end

section
/-! PROOFS. When the settings, the pump counters and the recovery timers are sound, block by block, and the changes within
one block that keep them so: for O9. -/

namespace Sys2Proof.Machine

variable {s t : State}

/-! ## Block by block -/

/-- Every setting of the LAU is in range. -/
def Lau.Sound (l : Lau) : Prop :=
  (∀ c : ChannelId, settingsValid 0 l.channels[c].values = true)
    ∧ settingsValid 1 [l.density, l.interval, l.tolerance, l.lostLimit] = true

/-- Every setting of the TWU is in range. -/
def Twu.Sound (w : Twu) : Prop :=
  settingsValid 2 [w.trendInterval] = true ∧ (∀ b : BandId, settingsValid 3 w.bands[b].values = true)
    ∧ settingsValid 4 [w.reminderInterval] = true

/-- Every setting of the SWC is in range. -/
def Swc.Sound (w : Swc) : Prop :=
  (∀ n : ScreenId, settingsValid 5 w.screens[n].values = true) ∧ settingsValid 6 (w.timings.map Int.ofNat) = true

/-- A pump's settings are in range, its recovery timer is as R123 has it, and its counters are within their fields. -/
def Pump.Sound (q : Pump) : Prop :=
  settingsValid 7 q.values = true ∧ (q.state.resting = false → q.recovery = 0) ∧ q.recovery ≤ 3600000
    ∧ q.runMs ≤ 4294967295999 ∧ q.starts ≤ 65535

/-- Every pump is sound, every setting of the PDC is in range, and the duty order is a permutation. -/
def Pdc.Sound (d : Pdc) : Prop :=
  (∀ p : PumpId, d.pumps[p].Sound) ∧ settingsValid 8 (d.timings.map Int.ofNat) = true ∧ d.order.toList.Nodup

/-- The settings of SET LINK. -/
def Slp.settings (l : Slp) : List Int := [l.rate, l.threshold, l.batchTimeout, l.supervision, l.discard]

/-- Every setting of the link is in range. -/
def Slp.Sound (l : Slp) : Prop := settingsValid 10 l.settings = true

/-- The five blocks are sound. -/
structure State.Sound (s : State) : Prop where
  lau : s.lau.Sound
  twu : s.twu.Sound
  swc : s.swc.Sound
  pdc : s.pdc.Sound
  slp : s.slp.Sound

/-- Numbers are a duty order exactly when no pump stands twice (R134). -/
theorem order_valid_iff (s : State) : settingsValid 9 (s.sectionValues 9 0) = true ↔ s.pdc.order.toList.Nodup := by
  have reads : settingsValid 9 (s.sectionValues 9 0) = (toOrder (s.pdc.order.toList.map fun p => p.val + 1)).isSome := by
    rw [← orderValues_toNat]; rfl
  rw [reads]
  obtain ⟨⟨l⟩, len⟩ := s.pdc.order
  match l, len with
  | [a, b, c, d, e, f, g, i], _ =>
    have eight := toOrder_eight a b c d e f g i
    by_cases distinct : [a, b, c, d, e, f, g, i].Nodup
    · exact iff_of_true (congrArg Option.isSome (eight.trans (if_pos distinct))) distinct
    · refine iff_of_false ?_ distinct
      have none := congrArg Option.isSome (eight.trans (if_neg distinct))
      exact fun some => Bool.false_ne_true (none.symm.trans some)

theorem counters_valid (v : List Int) : settingsValid 11 v = true := rfl

theorem itemValid {α : Type} {n x : Nat} {v : Vector α n} {f : α → List Int} {k : Fin n}
    (h : settingsValid x (f v[k]) = true) : settingsValid x (itemValues v (k.val + 1) f) = true := by
  rw [itemValues_succ]; exact h

/-- Sound blocks are what the statements about settings and recovery timers ask. -/
theorem sound_iff : s.Sound ↔ s.SettingsSound ∧ s.RecoverySound := by
  constructor
  · rintro ⟨⟨channels, levels⟩, ⟨trend, bands, reminder⟩, ⟨screens, wash⟩, ⟨pumps, duty, order⟩, link⟩
    refine ⟨⟨fun k hk => ?_, fun p => ?_⟩, fun p => ?_⟩
    · have item := imageItem_of_mem hk
      unfold State.sectionSound
      cases item with
      | channel c => exact itemValid (channels c)
      | band b => exact itemValid (bands b)
      | screen n => exact itemValid (screens n)
      | pump p => exact itemValid (pumps p).1
      | counters p => exact counters_valid _
      | order => exact (order_valid_iff s).2 order
      | levels => exact levels
      | trend => exact trend
      | reminder => exact reminder
      | wash => exact wash
      | duty => exact duty
      | link => exact link
    · obtain ⟨-, -, -, run, starts⟩ := pumps p
      exact ⟨run, starts⟩
    · obtain ⟨-, timer, bounded, -, -⟩ := pumps p
      exact ⟨timer, bounded⟩
  · rintro ⟨⟨settings, counters⟩, recovery⟩
    have item {α : Type} {n x : Nat} {v : Vector α n} {f : α → List Int} (k : Fin n)
        (h : settingsValid x (itemValues v (k.val + 1) f) = true) : settingsValid x (f v[k]) = true := by
      rwa [itemValues_succ] at h
    have index {n : Nat} (k : Fin n) : k.val + 1 ∈ List.range' 1 n := List.mem_range'_1.2 (by omega)
    exact
      { lau := ⟨fun c => item c (settings (0, c.val) (mem_imageKeys.2 ⟨by decide, List.mem_range.2 c.2⟩)),
          settings (1, 0) (by decide)⟩
        twu := ⟨settings (2, 0) (by decide),
          fun b => item b (settings (3, b.val + 1) (mem_imageKeys.2 ⟨by decide, index b⟩)), settings (4, 0) (by decide)⟩
        swc := ⟨fun n => item n (settings (5, n.val + 1) (mem_imageKeys.2 ⟨by decide, index n⟩)),
          settings (6, 0) (by decide)⟩
        pdc := ⟨fun p => ⟨item p (settings (7, p.val + 1) (mem_imageKeys.2 ⟨by decide, index p⟩)), (recovery p).1,
            (recovery p).2, (counters p).1, (counters p).2⟩,
          settings (8, 0) (by decide), (order_valid_iff s).1 (settings (9, 0) (by decide))⟩
        slp := settings (10, 0) (by decide) }

/-! ## Changes within one block -/

/-- The link keeps its settings in all that is news on it. -/
theorem slpSound_of_sansNews {l m : Slp} (h : m.sansNews = l.sansNews) (sound : l.Sound) : m.Sound := by
  have same : m.settings = l.settings := (congrArg Slp.settings h :)
  unfold Slp.Sound
  rw [same]
  exact sound

theorem onPump_onPump (s : State) (p : PumpId) (f g : Pump → Pump) :
    (s.onPump p f).onPump p g = s.onPump p fun q => g (f q) := by
  simp [State.onPump, State.onPdc]

namespace State.Sound

/-- A change of no block. -/
theorem same (h : s.Sound) (kept : (t.lau, t.twu, t.swc, t.pdc, t.slp) = (s.lau, s.twu, s.swc, s.pdc, s.slp)) :
    t.Sound := by
  obtain ⟨lau, twu, swc, pdc, slp⟩ :
      t.lau = s.lau ∧ t.twu = s.twu ∧ t.swc = s.swc ∧ t.pdc = s.pdc ∧ t.slp = s.slp := by simpa using kept
  exact ⟨lau ▸ h.lau, twu ▸ h.twu, swc ▸ h.swc, pdc ▸ h.pdc, slp ▸ h.slp⟩

theorem ite {c : Prop} [Decidable c] (h : s.Sound) (k : t.Sound) : (if c then s else t).Sound := by
  split
  · exact h
  · exact k

theorem foldl {α : Type} {f : State → α → State} (h : s.Sound) (hf : ∀ (t : State) a, t.Sound → (f t a).Sound)
    (l : List α) : (l.foldl f s).Sound :=
  List.foldlRecOn (motive := State.Sound) l f h fun t k a _ => hf t a k

variable (h : s.Sound)
include h

theorem onLau {f : Lau → Lau} (hf : s.lau.Sound → (f s.lau).Sound) : (s.onLau f).Sound :=
  ⟨hf h.lau, h.twu, h.swc, h.pdc, h.slp⟩

theorem onTwu {f : Twu → Twu} (hf : s.twu.Sound → (f s.twu).Sound) : (s.onTwu f).Sound :=
  ⟨h.lau, hf h.twu, h.swc, h.pdc, h.slp⟩

theorem onSwc {f : Swc → Swc} (hf : s.swc.Sound → (f s.swc).Sound) : (s.onSwc f).Sound :=
  ⟨h.lau, h.twu, hf h.swc, h.pdc, h.slp⟩

theorem onPdc {f : Pdc → Pdc} (hf : s.pdc.Sound → (f s.pdc).Sound) : (s.onPdc f).Sound :=
  ⟨h.lau, h.twu, h.swc, hf h.pdc, h.slp⟩

theorem onSlp {f : Slp → Slp} (hf : s.slp.Sound → (f s.slp).Sound) : (s.onSlp f).Sound :=
  ⟨h.lau, h.twu, h.swc, h.pdc, hf h.slp⟩

theorem onChannel {c : ChannelId} {f : Channel → Channel}
    (hf : settingsValid 0 s.lau.channels[c].values = true → settingsValid 0 (f s.lau.channels[c]).values = true) :
    (s.onChannel c f).Sound := by
  refine ⟨⟨fun k => ?_, h.lau.2⟩, h.twu, h.swc, h.pdc, h.slp⟩
  rw [State.channel_onChannel]
  split
  · next e => subst e; exact hf (h.lau.1 c)
  · exact h.lau.1 k

theorem onBand {b : BandId} {f : Band → Band}
    (hf : settingsValid 3 s.twu.bands[b].values = true → settingsValid 3 (f s.twu.bands[b]).values = true) :
    (s.onBand b f).Sound := by
  obtain ⟨trend, bands, reminder⟩ := h.twu
  refine ⟨h.lau, ⟨trend, fun k => ?_, reminder⟩, h.swc, h.pdc, h.slp⟩
  rw [State.band_onBand]
  split
  · next e => subst e; exact hf (bands b)
  · exact bands k

theorem screen (n : ScreenId) : settingsValid 5 (s.screen n).values = true := h.swc.1 n

theorem pump (p : PumpId) : (s.pump p).Sound := h.pdc.1 p

theorem onScreen {n : ScreenId} {f : Screen → Screen}
    (hf : settingsValid 5 (s.screen n).values = true → settingsValid 5 (f (s.screen n)).values = true) :
    (s.onScreen n f).Sound := by
  refine ⟨h.lau, h.twu, ⟨fun k => ?_, h.swc.2⟩, h.pdc, h.slp⟩
  show settingsValid 5 ((s.onScreen n f).screen k).values = true
  rw [State.screen_onScreen]
  split
  · next e => subst e; exact hf (h.screen n)
  · exact h.screen k

theorem onPump {p : PumpId} {f : Pump → Pump} (hf : (s.pump p).Sound → (f (s.pump p)).Sound) :
    (s.onPump p f).Sound := by
  obtain ⟨-, timings, order⟩ := h.pdc
  refine ⟨h.lau, h.twu, h.swc, ⟨fun k => ?_, timings, order⟩, h.slp⟩
  show ((s.onPump p f).pump k).Sound
  rw [State.pump_onPump]
  split
  · next e => subst e; exact hf (h.pump p)
  · exact h.pump k

theorem drawn : s.drawn.Sound := h.same rfl
theorem onScope {k : ScopeId} {f : Scope → Scope} : (s.onScope k f).Sound := h.onPdc (by exact id)
theorem evaluationFollows : s.evaluationFollows.Sound := h.onPdc (by exact id)

/-! ## Notices, outcomes and replies -/

theorem onNews {f : Slp → Slp} (hf : (f s.slp).sansNews = s.slp.sansNews) : (s.onSlp f).Sound :=
  h.onSlp (slpSound_of_sansNews hf)

theorem notify {c : NoticeClass} {k : NoticeKind} {u g : Nat} {v w : Int} : (s.notify c k u g v w).Sound :=
  h.onNews (Slp.enqueue_sansNews _ _)

theorem complete {m : Option Nat} {r d : Nat} : (s.complete m r d).Sound := by
  obtain ⟨v, e, -⟩ := s.complete_cases m r d
  rw [e]
  exact h.onSlp (by exact id)

theorem reply {c : Code} {d : List Byte} : (s.reply c d).Sound := by
  unfold State.reply
  split
  · exact h
  · refine h.onSlp fun sound => ?_
    rw [send_eq]
    exact sound

theorem markLinkError : s.markLinkError.Sound := h.onSlp (by exact id)

theorem heard : s.heard.Sound := ite (h.onSlp (by exact id)) h

theorem hold {r : Request} : (s.hold r).Sound := ite (h.onSlp (by exact id)) h.markLinkError

theorem arrive {i : Instr} : (s.arrive i).Sound := h.heard.hold

theorem delivered : (s.onSlp Slp.delivered).Sound := h.onSlp (by exact id)

theorem formBatch : s.formBatch.Sound := by
  unfold State.formBatch
  exact h.delivered.onSlp (by exact id)

theorem transmitNext {b : Bool} : (s.transmitNext b).Sound := by
  unfold State.transmitNext
  split
  · exact h.onSlp (by exact id)
  · exact ite h.formBatch h

end State.Sound

end Sys2Proof.Machine
end

section
/-! PROOFS. What the ranges and lists of a section ask of its settings (R166, R193). -/

namespace Sys2Proof.Machine

/-! ## Codes -/

theorem flag_within (b : Bool) : within 0 1 (flag b) = true := by cases b <;> rfl

theorem within_iff {lo hi v : Int} : within lo hi v = true ↔ lo ≤ v ∧ v ≤ hi := decide_eq_true_iff

theorem offOrWithin_iff {lo hi v : Int} : offOrWithin lo hi v = true ↔ v = 0 ∨ lo ≤ v ∧ v ≤ hi := by
  simp [offOrWithin, within_iff]

theorem allowed_nil (vs : List Int) : allowed [] vs = true := rfl

theorem allowed_cons {t : Int → Bool} {ts : List (Int → Bool)} {v : Int} {vs : List Int} :
    allowed (t :: ts) (v :: vs) = true ↔ t v = true ∧ allowed ts vs = true := by
  simp [allowed]

/-- A number of no bounds of its own passes with its section's ranges and lists, except of a band and the duty order. -/
theorem settingsValid_iff {x : Nat} {vs : List Int} (h3 : x ≠ 3) (h9 : x ≠ 9) :
    settingsValid x vs = true ↔ allowed (sectionTests x) vs = true := by
  unfold settingsValid
  split
  · exact absurd rfl h3
  · exact absurd rfl h9
  · exact Bool.and_true _ ▸ Iff.rfl

/-! ## Sections -/

theorem channel_valid_iff {ch : Channel} : settingsValid 0 ch.values = true ↔
    ch.zero ≤ 65535 ∧ ch.gain ≤ 65535 ∧ (-20000 ≤ ch.elevation ∧ ch.elevation ≤ 20000) ∧ ch.shift ≤ 6 := by
  rw [settingsValid_iff (by decide) (by decide)]
  simp only [sectionTests, Channel.values, allowed_cons, allowed_nil, and_true, true_and, flag_within, within_iff]
  omega

theorem levels_valid_iff {d i t l : Nat} : settingsValid 1 [d, i, t, l] = true ↔
    (9900 ≤ d ∧ d ≤ 10400) ∧ ((100 ≤ i ∧ i ≤ 2000) ∧ i % 100 = 0) ∧ (10 ≤ t ∧ t ≤ 500) ∧ 10 ≤ l ∧ l ≤ 300 := by
  rw [settingsValid_iff (by decide) (by decide)]
  simp only [sectionTests, allowed_cons, allowed_nil, and_true, within_iff, Bool.and_eq_true, decide_eq_true_eq]
  omega

theorem trend_valid_iff {v : Nat} : settingsValid 2 [v] = true ↔ 5 ≤ v ∧ v ≤ 60 := by
  rw [settingsValid_iff (by decide) (by decide)]
  simp only [sectionTests, allowed_cons, allowed_nil, and_true, within_iff]
  omega

theorem reminder_valid_iff {v : Nat} : settingsValid 4 [v] = true ↔ v = 0 ∨ 60 ≤ v ∧ v ≤ 3600 := by
  rw [settingsValid_iff (by decide) (by decide)]
  simp only [sectionTests, allowed_cons, allowed_nil, and_true, offOrWithin_iff]
  omega

/-- Every band's cap but NONE is a number of 0 to 8 (R48). -/
theorem capCode_within (c : Option Nat) : (within 0 8 (capCode c) || decide ((capCode c : Int) = 255)) = true ↔
    ∀ n, c = some n → n ≤ 8 ∨ n = 255 := by
  simp only [Bool.or_eq_true, within_iff, decide_eq_true_eq]
  cases c with
  | none => exact iff_of_true (.inr rfl) nofun
  | some n => simp only [capCode, Option.some.injEq, forall_eq']; omega

theorem band_valid_iff {b : Band} : settingsValid 3 b.values = true ↔
    (-30000 ≤ b.low ∧ b.low < b.high ∧ b.high ≤ 30000) ∧ b.hysteresis ≤ 500
      ∧ ∀ n, b.cap = some n → n ≤ 8 ∨ n = 255 := by
  have quantity : within 0 2 b.quantity.code = true := by cases b.quantity <;> rfl
  have rank : within 0 3 b.rank.code = true := by cases b.rank <;> rfl
  have mode : within 0 2 b.mode.code = true := by cases b.mode <;> rfl
  have cls : within 0 1 b.noticeClass.code = true := by cases b.noticeClass <;> rfl
  have parts : settingsValid 3 b.values = true ↔
      allowed (sectionTests 3) b.values = true ∧ b.low < b.high := by
    simp [settingsValid, Band.values]
  rw [parts]
  simp only [sectionTests, Band.values, allowed_cons, allowed_nil, and_true, true_and, flag_within, quantity, rank, mode,
    cls, capCode_within, within_iff]
  constructor
  · rintro ⟨⟨low, high, hyst, cap⟩, order⟩
    exact ⟨by omega, by omega, cap⟩
  · rintro ⟨bounds, hyst, cap⟩
    exact ⟨⟨by omega, by omega, by omega, cap⟩, by omega⟩

theorem screen_valid_iff {sc : Screen} : settingsValid 5 sc.values = true ↔
    sc.washStart ≤ 3000 ∧ sc.high ≤ 3000 ∧ sc.blind ≤ 3000 ∧ 1 ≤ sc.defaultPasses ∧ sc.defaultPasses ≤ 64 := by
  rw [settingsValid_iff (by decide) (by decide)]
  simp only [sectionTests, Screen.values, allowed_cons, allowed_nil, and_true, true_and, flag_within, within_iff]
  omega

theorem pump_valid_iff {q : Pump} : settingsValid 7 q.values = true ↔
    (-30000 ≤ q.inlet ∧ q.inlet ≤ 30000) ∧ q.submergence ≤ 5000 := by
  have cls : within 0 1 q.cls.code = true := by cases q.cls <;> rfl
  rw [settingsValid_iff (by decide) (by decide)]
  simp only [sectionTests, Pump.values, allowed_cons, allowed_nil, and_true, true_and, flag_within, cls, within_iff]
  omega

theorem wash_valid_iff {w : Swc} : settingsValid 6 (w.timings.map Int.ofNat) = true ↔
    (30 ≤ w.passTimeout ∧ w.passTimeout ≤ 1800) ∧ (1 ≤ w.indexGuard ∧ w.indexGuard ≤ 30)
      ∧ (w.washInterval = 0 ∨ 10 ≤ w.washInterval ∧ w.washInterval ≤ 1440)
      ∧ (10 ≤ w.fallbackInterval ∧ w.fallbackInterval ≤ 1440) ∧ (1 ≤ w.stormPasses ∧ w.stormPasses ≤ 64)
      ∧ (10 ≤ w.sluiceTime ∧ w.sluiceTime ≤ 600)
      ∧ (w.purgeInterval = 0 ∨ 5 ≤ w.purgeInterval ∧ w.purgeInterval ≤ 240)
      ∧ (10 ≤ w.purgeTime ∧ w.purgeTime ≤ 300) ∧ (1 ≤ w.deferral ∧ w.deferral ≤ 60)
      ∧ 2 ≤ w.lossDelay ∧ w.lossDelay ≤ 60 := by
  rw [settingsValid_iff (by decide) (by decide)]
  simp only [sectionTests, Swc.timings, List.map_cons, List.map_nil, Int.ofNat_eq_natCast, allowed_cons, allowed_nil, and_true,
    within_iff, offOrWithin_iff]
  omega

theorem duty_valid_iff {d : Pdc} : settingsValid 8 (d.timings.map Int.ofNat) = true ↔
    d.recoveryLarge ≤ 3600 ∧ d.recoverySmall ≤ 3600 ∧ (5 ≤ d.startTimeout ∧ d.startTimeout ≤ 120)
      ∧ (5 ≤ d.stopTimeout ∧ d.stopTimeout ≤ 300) ∧ (2 ≤ d.startSpacing ∧ d.startSpacing ≤ 60)
      ∧ d.startMargin ≤ 3000 ∧ (5 ≤ d.tripDelay ∧ d.tripDelay ≤ 120) ∧ (5 ≤ d.shedDelay ∧ d.shedDelay ≤ 300)
      ∧ (1 ≤ d.pumpsPerScreen ∧ d.pumpsPerScreen ≤ 4) ∧ d.rotationInterval ≤ 720 ∧ d.fallbackDemand ≤ 8 := by
  rw [settingsValid_iff (by decide) (by decide)]
  simp only [sectionTests, Pdc.timings, List.map_cons, List.map_nil, Int.ofNat_eq_natCast, allowed_cons, allowed_nil, and_true,
    within_iff]
  omega

theorem link_valid_iff {l : Slp} : settingsValid 10 l.settings = true ↔
    l.rate ≤ 4 ∧ l.threshold ∈ [1, 3, 6, 12] ∧ (5 ≤ l.batchTimeout ∧ l.batchTimeout ≤ 300)
      ∧ (l.supervision = 0 ∨ 5 ≤ l.supervision ∧ l.supervision ≤ 600) ∧ 5 ≤ l.discard ∧ l.discard ≤ 600 := by
  rw [settingsValid_iff (by decide) (by decide)]
  simp only [sectionTests, Slp.settings, allowed_cons, allowed_nil, and_true, within_iff, offOrWithin_iff, oneOf, decide_eq_true_eq,
    List.mem_cons, List.not_mem_nil, or_false]
  omega

/-! ## Clamps -/

theorem taken_within {lo hi old : Nat} (range : lo ≤ hi) (h : lo ≤ old ∧ old ≤ hi) (o : Option Nat) :
    lo ≤ taken (clampNat lo hi) o old ∧ taken (clampNat lo hi) o old ≤ hi := by
  cases o with
  | none => exact h
  | some v => simp only [taken, clampNat]; split_ifs <;> omega

theorem taken_offOrWithin {lo hi old : Nat} (range : lo ≤ hi) (h : old = 0 ∨ lo ≤ old ∧ old ≤ hi) (o : Option Nat) :
    taken (clampOff lo hi) o old = 0 ∨ lo ≤ taken (clampOff lo hi) o old ∧ taken (clampOff lo hi) o old ≤ hi := by
  cases o with
  | none => exact h
  | some v => simp only [taken, clampOff, clampNat]; split_ifs <;> omega

theorem taken_withinInt {lo hi old : Int} (range : lo ≤ hi) (h : lo ≤ old ∧ old ≤ hi) (o : Option Int) :
    lo ≤ taken (clampInt lo hi) o old ∧ taken (clampInt lo hi) o old ≤ hi := by
  cases o with
  | none => exact h
  | some v => simp only [taken, clampInt]; split_ifs <;> omega

end Sys2Proof.Machine
end

section
/-! PROOFS. Settings and recovery timers through the operations of the SWC and of the PDC: a screen and a pump keep their
settings, and a pump leaves a state of rest with its recovery timer at 0 (R123): for O9. -/

namespace Sys2Proof.Machine

variable {s : State}

namespace State.Sound

section Washes
variable (h : s.Sound)
include h

/-! ## Results, the sluice and the header purge -/

theorem enterScreen {n : ScreenId} {st : ScreenState} : (s.enterScreen n st).Sound := h.onScreen (by exact id)

theorem setWash {n : ScreenId} {w : WashRecord} : (s.setWash n w).Sound := h.onScreen (by exact id)

theorem publishHeld : s.publishHeld.Sound := ite h (h.onPdc (by exact id))

/-- A change of the screens beside their settings. -/
theorem screens {f : Screen → Screen} (hf : ∀ sc, (f sc).values = sc.values) :
    (s.onSwc fun w => { w with screens := w.screens.map f }).Sound := by
  refine h.onSwc fun ⟨screens, timings⟩ => ⟨fun n => ?_, timings⟩
  have kept : (s.swc.screens.map f)[n].values = s.swc.screens[n].values := by simp [hf]
  rw [kept]
  exact screens n

theorem publishCapacity : s.publishCapacity.Sound := by
  have counted := h.screens (f := fun sc => { sc with counts := sc.counting }) fun _ => rfl
  exact ite counted counted.evaluationFollows

theorem announce {n : ScreenId} {r : WashResult} : (s.announce n r).Sound := h.notify.complete

theorem announcePending {n : ScreenId} {r : Option WashResult} : (s.announcePending n r).Sound := by
  unfold State.announcePending
  split
  · exact ite h.announce h
  · exact h

theorem enterResult {n : ScreenId} {r : WashResult} : (s.enterResult n r).Sound := h.announcePending.onScreen (by exact id)

theorem releaseScreen {n : ScreenId} : (s.releaseScreen n).Sound := h.announcePending.announcePending.onScreen (by exact id)

theorem releaseResults : s.releaseResults.Sound := h.foldl (fun _ _ k => k.releaseScreen) _

theorem startSluice : s.startSluice.Sound := h.onSwc (by exact id)

theorem endSluice : s.endSluice.Sound := releaseResults (h.onSwc (by exact id))

theorem activatePurge : s.activatePurge.Sound := ite (h.onSwc (by exact id)) h

theorem idlePurge : s.idlePurge.Sound := h.onSwc (by exact id)

theorem finishContinuous : s.finishContinuous.Sound := by
  refine h.foldl (fun t n k => ?_) _
  split
  · exact ite k.enterScreen k
  · exact k

/-! ## The wash queue and the header arbiter -/

theorem joinQueue {n : ScreenId} {c : WashClass} {p : Nat} {m : Option Nat} : (s.joinQueue n c p m).Sound :=
  enterScreen (h.onSwc (by exact id))

theorem mergeQueue {n : ScreenId} {c : WashClass} {p : Nat} {m : Option Nat} : (s.mergeQueue n c p m).Sound :=
  h.onSwc (by exact id)

theorem leaveQueue {n : ScreenId} : (s.leaveQueue n).Sound := h.onSwc (by exact id)

theorem grantHeader {e : QueueEntry} : (s.grantHeader e).Sound := enterScreen (h.leaveQueue.onScreen (by exact id))

theorem tryGrant : s.tryGrant.Sound := by
  unfold State.tryGrant
  split
  · split
    · exact h.grantHeader
    · exact h
  · exact h

theorem reevaluate : s.reevaluate.Sound := h.tryGrant.tryGrant.publishHeld

theorem finishPurge : s.finishPurge.Sound := h.idlePurge.publishHeld.reevaluate

theorem removeEntry {n : ScreenId} {next : ScreenState} : (s.removeEntry n next).Sound :=
  h.complete.leaveQueue.enterScreen.reevaluate

/-! ## The end of a wash -/

theorem follow {n : ScreenId} {next : ScreenState} : (s.follow n next).Sound := by
  unfold State.follow
  split
  · exact enterScreen (h.onScreen (by exact id))
  · exact ite (enterScreen (h.onScreen (by exact id))) (joinQueue (h.onScreen (by exact id)))

theorem withdrawStaged {n : ScreenId} {next : ScreenState} : (s.withdrawStaged n next).Sound := by
  unfold State.withdrawStaged
  refine enterScreen (onScreen ?_ (by exact id))
  split
  · exact h
  · exact h.complete

theorem concludeWash {n : ScreenId} {w : WashRecord} {o : WashOutcome} {next : ScreenState} :
    (s.concludeWash n w o next).Sound := by
  unfold State.concludeWash
  refine onScreen ?_ (by exact id)
  split
  · exact h.enterResult.follow
  all_goals exact h.enterResult.withdrawStaged

theorem flushTrough {n : ScreenId} {w : WashRecord} {o : WashOutcome} : (s.flushTrough n w o).Sound :=
  (ite h.notify h).startSluice

theorem endWash {n : ScreenId} {o : WashOutcome} {next : ScreenState} : (s.endWash n o next).Sound := by
  unfold State.endWash
  split
  · exact h
  · exact h.concludeWash.flushTrough.activatePurge.publishHeld.reevaluate

theorem endWashes {p : State → ScreenId → Bool} {o : WashOutcome} : (s.endWashes p o).Sound :=
  h.foldl (fun _ _ k => ite k.endWash k) _

theorem loseHeader : s.loseHeader.Sound := h.endWashes

theorem purgeOverdue : s.purgeOverdue.Sound := finishContinuous (h.onSwc (by exact id))

theorem clearHeader {o : WashOutcome} : (s.clearHeader o).Sound := by
  have ended := h.foldl (f := fun t n =>
    if (t.screen n).state.isWashing then
      match (t.screen n).wash with
      | some w => (t.concludeWash n w o .idle).flushTrough n w o
      | none => t
    else t) (fun t n k => by
      refine ite ?_ k
      split
      · exact k.concludeWash.flushTrough
      · exact k) allScreens
  unfold State.clearHeader
  exact publishHeld (ite (ite ended.endSluice ended) (ite ended.endSluice ended).idlePurge)

/-! ## Triggers and verdicts -/

theorem stage {n : ScreenId} {g : Staged} : (s.stage n g).Sound := h.onScreen (by exact id)

theorem triggerScreen {n : ScreenId} : (s.triggerScreen n).Sound := by
  unfold State.triggerScreen
  split
  · exact h
  · split
    · exact h.joinQueue
    · exact h.mergeQueue
    · exact h.stage
    all_goals exact h

theorem evaluateTriggers : s.evaluateTriggers.Sound := by
  have screens := h.foldl (f := State.triggerScreen) (fun _ _ k => k.triggerScreen) allScreens
  unfold State.evaluateTriggers
  exact ite screens screens.reevaluate

theorem formVerdicts : s.formVerdicts.Sound := by
  unfold State.formVerdicts
  refine publishCapacity (h.onSwc fun ⟨screens, timings⟩ => ⟨fun n => ?_, timings⟩)
  have kept := screens n
  simp only [Fin.getElem_fin, Vector.getElem_ofFn]
  split
  · exact kept
  · exact kept

end Washes

/-! ## Pump states -/

section Pumps
variable {p : PumpId} (h : s.Sound)
include h

theorem recoveryTime_le (c : PumpClass) : s.pdc.recoveryTime c ≤ 3600 := by
  obtain ⟨-, timings, -⟩ := h.pdc
  have ranges := allowed_of_settingsValid timings
  simp only [allowed, sectionTests, Pdc.timings, List.map_cons, List.zip_cons_cons, List.all_cons, Bool.and_eq_true,
    within, decide_eq_true_eq, Int.ofNat_eq_natCast] at ranges
  obtain ⟨large, small, -⟩ := ranges
  cases c <;> simp only [Pdc.recoveryTime] <;> omega

/-- A pump that is not at rest has its recovery timer at 0 (R123). -/
theorem recovery_zero (moves : (s.pump p).state.resting = false) : (s.pump p).recovery = 0 := (h.pump p).2.1 moves

theorem enterPump {st : PumpState} (timer : st.resting = false → (s.pump p).recovery = 0) : (s.enterPump p st).Sound :=
  evaluationFollows (h.onPump fun ⟨settings, _, bounded, run, starts⟩ => ⟨settings, timer, bounded, run, starts⟩)

/-- Entering a state of rest. -/
theorem enterRest {st : PumpState} (rests : st.resting = true) : (s.enterPump p st).Sound :=
  h.enterPump fun moves => absurd (rests.symm.trans moves) (by decide)

/-- A pump brought to rest with its recovery timer at a value in range (R123). -/
theorem loadRest {f : Pump → Pump} (settings : (f (s.pump p)).values = (s.pump p).values)
    (counters : ((f (s.pump p)).runMs, (f (s.pump p)).starts) = ((s.pump p).runMs, (s.pump p).starts))
    (bounded : (f (s.pump p)).recovery ≤ 3600000) : ((s.onPump p f).rest p).Sound := by
  obtain ⟨run, starts⟩ : (f (s.pump p)).runMs = (s.pump p).runMs ∧ (f (s.pump p)).starts = (s.pump p).starts := by
    simpa using counters
  unfold State.rest State.enterPump
  rw [onPump_onPump, State.pump_onPump_self]
  refine evaluationFollows (h.onPump fun ⟨valid, _, _, least, most⟩ => ⟨?_, ?_, bounded, run ▸ least, starts ▸ most⟩)
  · rw [← settings] at valid
    exact valid
  · dsimp only
    split
    · next zero => exact fun _ => zero
    · nofun

theorem rest : (s.rest p).Sound := by
  have kept : s.onPump p id = s := by simp [State.onPump, State.onPdc]
  have rests := h.loadRest (p := p) (f := id) rfl rfl (h.pump p).2.2.1
  rwa [kept] at rests

theorem loaded_le (c : PumpClass) : s.pdc.recoveryTime c * 1000 ≤ 3600000 := Nat.mul_le_mul_right 1000 (h.recoveryTime_le c)

theorem publishRunning : s.publishRunning.Sound := ite h (reevaluate (h.onSwc (by exact id)))

theorem stopEnded : (s.stopEnded p).Sound :=
  (h.loadRest (p := p) (f := fun q => { q with
    stopTimer := 0, stopMark := none, recovery := s.pdc.recoveryTime q.cls * 1000 }) rfl rfl (h.loaded_le _)).notify.complete

theorem orderStop {o : StopOrigin} {m : Option Nat} : (s.orderStop p o m).Sound := by
  unfold State.orderStop
  dsimp only
  split
  · next running =>
    have stopping : (s.enterPump p .stopping).Sound := h.enterPump fun _ => h.recovery_zero (by rw [running]; rfl)
    have ordered := publishRunning (stopping.onPump (p := p)
      (f := fun q => { q with stopTimer := 0, stopOrigin := some o, stopMark := m }) id)
    exact ite ordered ordered.stopEnded
  · exact h

theorem lowLevelStop : (s.lowLevelStop p).Sound := h.notify.orderStop

theorem lowLevelActs : (s.lowLevelActs p).Sound := ite h.lowLevelStop (h.onPump (by exact id))

theorem startEnded : s.startEnded.Sound := h.onPdc (by exact id)

theorem endPair : (s.endPair p).Sound := h.onPdc (by exact id)

theorem changeoverStop : (s.changeoverStop p).Sound := by
  unfold State.changeoverStop
  split
  · exact ite h.endPair.orderStop h
  · exact h

/-- A pump enters RUNNING out of a state that is not one of rest. -/
theorem enterRunning (moves : (s.pump p).state.resting = false) : (s.enterRunning p).Sound := by
  unfold State.enterRunning
  have running : (s.enterPump p .running).Sound := h.enterPump fun _ => h.recovery_zero moves
  have entered :=
    running.onPump (p := p) (f := fun q => { q with startTimer := 0, startMark := none, runTime := 0 }) id
    |>.notify (c := .status) (k := .pumpStarted) (u := p.val + 1) (g := 0) (v := (s.pump p).startOrigin.code)
      (w := (min (s.pump p).starts 32767 : Nat)) |>.publishRunning.startEnded.complete (m := (s.pump p).startMark) (r := 0)
    (d := 0) |>.changeoverStop (p := p)
  exact ite entered.lowLevelStop entered

theorem failPump {c : FailCause} : (s.failPump p c).Sound := by
  have entered : (s.enterPump p .failed).Sound := h.enterRest rfl
  have rests : ((s.enterPump p .failed).pump p).state.resting = true := by rw [State.pump_enterPump_self]; rfl
  have failed := (entered.onPump (p := p) (f := fun q =>
      { q with
        cause := c, recovery := s.pdc.recoveryTime q.cls * 1000
        startTimer := 0, stopTimer := 0, startMark := none, stopMark := none })
    fun ⟨settings, _, _, run, starts⟩ => ⟨settings, fun moves => absurd (rests.symm.trans moves) (by decide),
      h.loaded_le _, run, starts⟩).notify (c := .fault) (k := .pumpFailed) (u := p.val + 1) (g := 0) (v := c.code)
    (w := (s.pdc.recoveryTime (s.pump p).cls : Nat))
  unfold State.failPump
  dsimp only
  split
  · exact failed.startEnded.endPair.complete
  · exact failed.publishRunning
  · exact failed.complete
  all_goals exact failed

/-! ## The start queue -/

theorem beginStart {e : StartEntry} (stopped : (s.pump e.pump).state = .stopped) : (s.beginStart e).Sound := by
  have starting : (s.enterPump e.pump .starting).Sound := h.enterPump fun _ => h.recovery_zero (by rw [stopped]; rfl)
  have begun := starting.onPump (p := e.pump) (f := fun q =>
    { q with starts := min (q.starts + 1) 65535, startTimer := 0, startOrigin := e.origin, startMark := e.mark })
    fun ⟨settings, timer, bounded, run, _⟩ => ⟨settings, timer, bounded, run, Nat.min_le_right _ _⟩
  refine ite begun.failPump (ite (begun.enterRunning ?_) begun)
  rw [State.pump_onPump_self, State.pump_enterPump_self]
  rfl

theorem refuseStart {e : StartEntry} {c : Nat} : (s.refuseStart e c).Sound := by
  unfold State.refuseStart
  split
  · exact h.complete
  · exact h.complete.endPair.evaluationFollows

omit h in
theorem grantFrom : ∀ (q : List StartEntry) {s : State}, s.Sound → (State.grantFrom q s).Sound
  | [], _, h => h.onPdc (by exact id)
  | e :: q, s, h => by
    have taken : (s.onPdc fun d => { d with queue := q }).Sound := h.onPdc (by exact id)
    unfold State.grantFrom
    dsimp only
    split
    · next checks => exact taken.beginStart (State.grantCheck_none checks)
    · exact grantFrom q taken.refuseStart

theorem startArbiter : s.startArbiter.Sound := ite (grantFrom _ h) h

theorem joinStart {o : StartOrigin} {m : Option Nat} : (s.joinStart p o m).Sound := by
  unfold State.joinStart
  split
  · exact h.onPdc (by exact id)
  · exact startArbiter (h.onPdc (by exact id))

theorem leaveStart : (s.leaveStart p).Sound := h.onPdc (by exact id)

/-! ## Duty evaluations -/

theorem makeDue {k : ScopeId} : (s.makeDue k).Sound := by
  unfold State.makeDue
  split
  · exact h.onScope
  · exact ite h.onScope (ite h.onScope h.onScope.orderStop)

theorem fallDue {k : ScopeId} : (s.fallDue k).Sound := ite h.makeDue h.onScope

theorem updateScope {k : ScopeId} : (s.updateScope k).Sound := by
  unfold State.updateScope
  refine ite ?_ h.onScope
  split
  · exact h.makeDue
  · exact h.makeDue
  · split
    · exact h.onScope
    · exact h

theorem searchChangeover : s.searchChangeover.Sound := by
  unfold State.searchChangeover
  refine ite ?_ h
  split
  · exact joinStart (h.onPdc (by exact id))
  · exact h.onPdc (by exact id)

theorem dutyEvaluate : s.dutyEvaluate.Sound := by
  have scopes := h.foldl (f := State.updateScope) (fun _ _ k => k.updateScope) allScopes
  unfold State.dutyEvaluate
  dsimp only
  split
  · exact scopes
  · split
    · exact scopes.joinStart
    · exact scopes.searchChangeover

omit h in
theorem evaluations : ∀ (n : Nat) {s : State}, s.Sound → (State.evaluations n s).Sound
  | 0, _, h => h
  | n + 1, _, h => ite (evaluations n (dutyEvaluate (h.onPdc (by exact id)))) h

theorem settle : s.settle.Sound := evaluations 32 h

theorem setMode {m : DutyMode} : (s.setMode m).Sound := by
  refine ite h (evaluationFollows ?_)
  cases m with
  | auto => exact h.onPdc (by exact id)
  | manual => exact h.onPdc (by exact id)

end Pumps

end State.Sound

end Sys2Proof.Machine
end

section
/-! PROOFS. Settings and recovery timers through the operations of the TWU and the LAU, of the commands of the SWC and the
PDC, and of the link: for O9. -/

namespace Sys2Proof.Machine

variable {s : State}

namespace State.Sound
variable (h : s.Sound)
include h

/-! ## The banks, the claims and the publications -/

theorem swapBanks {c : Nat} : (s.swapBanks c).Sound := (h.onTwu (by exact id)).notify

theorem expireBank : s.expireBank.Sound := (h.onTwu (by exact id)).notify

theorem checkBank : s.checkBank.Sound := by
  unfold State.checkBank
  dsimp only
  split
  · exact ite (ite h.swapBanks h.expireBank) h
  · exact ite h.swapBanks h
  all_goals exact h

theorem checkBanks : s.checkBanks.Sound := ite h.checkBank.checkBank h

theorem latch {b : BandId} : (s.onBand b Band.latch).Sound := by
  refine h.onBand fun valid => ?_
  unfold Band.latch
  split
  · exact valid
  · exact valid

theorem evaluateClaim {q : Quantity} : (s.evaluateClaim q).Sound := by
  unfold State.evaluateClaim
  dsimp only
  refine ite h ?_
  split
  · exact (h.onTwu (by exact id)).notify.latch
  · exact (h.onTwu (by exact id)).notify

theorem pdcActs {old : Condition} : (s.pdcActs old).Sound := ite h (ite h.clearHeader h).evaluationFollows

theorem modeActs {old : Condition} : (s.modeActs old).Sound := by
  unfold State.modeActs
  refine ite h ?_
  split
  · exact h.finishContinuous
  · exact h.evaluateTriggers
  · exact h

theorem capActs {old : Condition} : (s.capActs old).Sound := ite h.activatePurge.publishHeld h

theorem swcActs {old : Condition} : (s.swcActs old).Sound := ite h h.modeActs.capActs.reevaluate

theorem readersAct {old : Condition} : (s.readersAct old).Sound :=
  ite (ite h.drawn.pdcActs.swcActs h.drawn.swcActs.pdcActs) h.pdcActs.swcActs

theorem recompute : s.recompute.Sound := by
  unfold State.recompute
  exact ite h (h.onTwu (by exact id)).readersAct

theorem reevaluateQuantities {a b : Quantity} : (s.reevaluateQuantities a b).Sound :=
  h.foldl (fun _ _ k => ite k.evaluateClaim k) _

theorem remind {b : BandId} : (s.remind b).Sound := ite (h.onBand (by exact id)).notify h

/-! ## The trend ring and the scan -/

theorem rateEvent : s.rateEvent.Sound := by
  unfold State.rateEvent
  exact (h.onTwu (by exact id)).evaluateClaim.recompute.settle

theorem emptyRing : s.emptyRing.Sound := (h.onTwu (by exact id)).rateEvent

theorem handLevels : s.handLevels.Sound := by
  unfold State.handLevels
  exact (h.onTwu (by exact id)).evaluateClaim.evaluateClaim.recompute.settle

theorem twuReads {before : SeaClass} : (s.twuReads before).Sound :=
  ite (ite h.drawn.emptyRing.handLevels h.drawn.handLevels.emptyRing) h.handLevels

theorem swcReads : s.swcReads.Sound := h.evaluateTriggers.formVerdicts.settle

theorem pdcReads : s.pdcReads.Sound :=
  (h.foldl (f := State.marginPeriod) (fun _ _ k => (k.onPump (by exact id))) allPumps).evaluationFollows.settle

theorem read {before : SeaClass} {k : Nat} : (State.read before k s).Sound := by
  unfold State.read
  split
  · exact h.twuReads.swcReads.pdcReads
  · exact h.twuReads.pdcReads.swcReads
  · exact h.swcReads.twuReads.pdcReads
  · exact h.swcReads.pdcReads.twuReads
  · exact h.pdcReads.twuReads.swcReads
  · exact h.pdcReads.swcReads.twuReads

theorem publishRecord : s.publishRecord.Sound := ite (h.onLau (by exact id)) (h.onLau (by exact id)).notify

theorem scanEnd : s.scanEnd.Sound := by
  unfold State.scanEnd
  exact h.publishRecord.drawn.read

/-- A sample leaves a channel's settings. -/
theorem sampled {c : ChannelId} {d v e : Nat} : (s.onChannel c fun ch => ch.sampled d v e).Sound := by
  refine h.onChannel fun valid => ?_
  unfold Channel.sampled
  split
  · exact valid
  · exact valid

theorem sampleNotice {c : ChannelId} {ch : Channel} {e : Nat} : (s.sampleNotice c ch e).Sound := by
  obtain hn | ⟨_, _, _, _, _, _, hn⟩ := sampleNotice_cases s c ch e <;> rw [hn]
  · exact h
  · exact h.notify

theorem dealChannel {c : ChannelId} {sample e : Nat} : (s.dealChannel c sample e).Sound := by
  unfold State.dealChannel
  exact ite h.sampled.sampleNotice (h.onChannel (by exact id))

theorem dealNext : s.dealNext.Sound := by
  unfold State.dealNext
  split
  · exact h
  · split
    · exact h.dealChannel.onLau (by exact id)
    · exact h

omit h in
theorem dealMany : ∀ (k : Nat) {s : State}, s.Sound → (State.dealMany k s).Sound
  | 0, _, h => h
  | k + 1, _, h => dealMany k h.dealNext

/-! ## Screens -/

/-- What a changed setting does. -/
theorem changed {old new : Nat} {f : State → State} (hf : ∀ t : State, t.Sound → (f t).Sound) :
    (whenNew old new f s).Sound := ite h (hf s h)

section Screens
variable {n : ScreenId}

theorem acceptPulse {w : WashRecord} : (s.acceptPulse n w).Sound := by
  unfold State.acceptPulse
  split
  · exact ite h.setWash (ite h.setWash.enterScreen h.setWash)
  · exact h.setWash.endWash.settle
  all_goals exact h

theorem jamActs {rising : Bool} : (s.jamActs n rising).Sound := by
  unfold State.jamActs
  split
  iterate 2 exact ite h.endWash.publishCapacity.settle h
  · exact h.reevaluate.settle
  all_goals exact h

theorem jamLevel {level : Bool} : (s.jamLevel n level).Sound := ite h (ite (h.onScreen (by exact id)).jamActs (h.onScreen (by exact id)))

theorem stopWash : (s.stopWash n).Sound := by
  unfold State.stopWash
  split
  iterate 2 exact h.endWash.settle
  · exact h.removeEntry.settle
  all_goals exact h

theorem serviceOut : (s.serviceOut n).Sound := by
  unfold State.serviceOut
  split
  iterate 2 exact h.endWash
  · exact h.removeEntry
  iterate 2 exact h.enterScreen
  · exact h

theorem foundJammed : (s.foundJammed n).Sound := h.enterScreen.notify

theorem serviceIn : (s.serviceIn n).Sound := by
  unfold State.serviceIn
  split
  · exact ite h.foundJammed h.enterScreen
  all_goals exact h

theorem purgeIntervalActs : s.purgeIntervalActs.Sound := by
  unfold State.purgeIntervalActs
  split
  · exact h.onSwc (by exact id)
  · exact ite h.finishPurge h
  · exact h

theorem washTimingActs {old : Swc} : (s.washTimingActs old).Sound := by
  unfold State.washTimingActs
  exact h.changed (fun _ k => k.endWashes)
    |>.changed (fun _ k => ite k.endSluice.publishHeld k)
    |>.changed (fun _ k => k.purgeIntervalActs)
    |>.changed (fun _ k => ite k.finishPurge k)
    |>.changed (fun _ k => ite k.purgeOverdue k)
    |>.changed (fun _ k => ite k.loseHeader k)

theorem hostWash {p m : Nat} : (s.hostWash n p m).Sound := by
  unfold State.hostWash
  split
  · exact h.joinQueue.reevaluate.settle
  · exact h.mergeQueue.reevaluate.settle
  iterate 2 exact h.stage
  all_goals exact h

end Screens

/-! ## Pumps -/

section Pumps
variable {p : PumpId}

theorem feedbackLevel {level : Bool} : (s.feedbackLevel p level).Sound := h.onPump (by exact id)

/-- Whether a pump is enabled is in no range. -/
theorem setEnabled {b : Bool} : (s.onPump p fun q => { q with enabled := b }).Sound :=
  h.onPump fun ⟨settings, rest⟩ => ⟨pump_valid_iff.2 (pump_valid_iff.1 settings :), rest⟩

theorem disablePump : (s.disablePump p).Sound := by
  have left : (match s.startEntry p with
      | some e => (s.leaveStart p).refuseStart e 1
      | none => s).Sound := by
    split
    · exact h.leaveStart.refuseStart
    · exact h
  exact left.setEnabled.enterRest rfl

/-- A recovery timer that exceeds the time it is cut to is one that counts (R123). -/
theorem cutRecovery : (s.cutRecovery p).Sound := by
  unfold State.cutRecovery
  dsimp only
  split
  · next less =>
    have cut : (s.onPump p fun q => { q with recovery := s.pdc.recoveryTime (s.pump p).cls * 1000 }).Sound :=
      h.onPump fun ⟨settings, timer, _, run, starts⟩ =>
        ⟨settings, fun moves => absurd (timer moves) (by omega), h.loaded_le _, run, starts⟩
    split
    · next zero => exact cut.enterPump fun _ => (of_decide_eq_true zero).2
    · exact cut
  · exact h

theorem cutClass {c : PumpClass} : (State.cutClass c s).Sound := h.foldl (fun _ _ k => ite k.cutRecovery k) _

theorem pumpTimingActs {old : Pdc} : (s.pumpTimingActs old).Sound := by
  unfold State.pumpTimingActs
  exact h.changed (fun _ k => k.cutClass) |>.changed (fun _ k => k.cutClass)
    |>.changed (fun _ k => k.foldl (fun _ _ k => ite k.failPump k) _)
    |>.changed (fun _ k => k.foldl (fun _ _ k => ite k.failPump k) _)
    |>.changed (fun _ k => (k.onPdc (by exact id)).startArbiter)
    |>.changed (fun _ k => k.evaluationFollows)
    |>.changed (fun _ k => k.foldl (fun _ _ k => ite k.lowLevelActs k) _)
    |>.changed (fun _ k => (k.foldl (fun _ _ k => ite k.fallDue k) _).evaluationFollows)
    |>.changed (fun _ k => k.evaluationFollows)
    |>.changed (fun _ k => k.onPdc (by exact id))
    |>.changed (fun _ k => ite (k.onPdc (by exact id)).evaluationFollows k)

theorem hostStart {m : Nat} : (s.hostStart p m).Sound := by
  unfold State.hostStart
  split
  · exact h.onPump (by exact id)
  · exact h.joinStart.settle
  all_goals exact h

theorem hostStop {f : Bool} {m : Nat} : (s.hostStop p f m).Sound := by
  unfold State.hostStop
  split
  · exact h.onPump (by exact id)
  · exact (ite h.clearHeader h).orderStop.settle
  all_goals exact h

end Pumps

/-! ## Deferred requests and the link -/

theorem openSlot {i : SlotId} {k : DeferredKind} {g : Target} {args : List Byte} : (s.openSlot i k g args).Sound :=
  h.onSlp (by exact id)

theorem freeSlotAt {i : SlotId} : (s.freeSlotAt i).Sound := h.onSlp (by exact id)

theorem discardSlot {i : SlotId} : (s.discardSlot i).Sound := by
  unfold State.discardSlot
  split
  · split
    · exact h.freeSlotAt.notify
    · exact h
  · exact h

theorem reportSave {m r n : Nat} : (s.reportSave m r n).Sound := h.notify.complete

theorem beginSave {m : Nat} : (s.beginSave m).Sound := h.onSlp (by exact id)

theorem hunt : s.hunt.Sound := h.onSlp (by exact id)

theorem goodFrame {f : Frame} : (s.goodFrame f).Sound := ite h.heard.markLinkError h.heard.hold

theorem enterFallback : s.enterFallback.Sound := by
  unfold State.enterFallback
  exact ((h.onSlp (by exact id)).setMode.onPdc (by exact id)).evaluationFollows.settle.notify

theorem linkActs {old : Slp} : (s.linkActs old).Sound := by
  unfold State.linkActs
  exact h.changed (fun _ k => k.onSlp (by exact id)) |>.changed (fun _ k => k.onSlp (by exact id))
    |>.changed (fun _ k => k.foldl (fun _ _ k => ite k.discardSlot k) _)

end State.Sound

theorem Slp.Sound.takeRate {l : Slp} (h : l.Sound) : l.takeRate.Sound := by
  unfold Slp.takeRate
  split
  · exact h
  · exact h

theorem Slp.Sound.start {l : Slp} (h : l.Sound) : l.start.Sound := by
  have started : Slp.Sound { l with
    supervising := decide (l.supervision ≠ 0), supervisionMs := 0, nextRate := some l.rate } := h
  unfold Slp.start
  dsimp only
  split
  · exact started.takeRate
  · exact started

theorem Slp.Sound.finishSave {l : Slp} (h : l.Sound) : l.finishSave.Sound := by
  unfold Slp.finishSave
  split
  · exact h
  · exact h

end Sys2Proof.Machine
end

section
/-! PROOFS. Settings, counters and recovery timers through start-up, an image read and applied, the end of LOADING, and a
millisecond: for O9. -/

namespace Sys2Proof.Machine

variable {s t : State}

/-! ## Numbers read from bytes -/

theorem foldl_bytes_lt : ∀ (bs : List Byte) (acc : Nat),
    bs.foldl (fun acc b => acc * 256 + b.toNat) acc < (acc + 1) * 256 ^ bs.length
  | [], acc => by simp
  | b :: bs, acc => by
    have rest := foldl_bytes_lt bs (acc * 256 + b.toNat)
    have digit : acc * 256 + b.toNat + 1 ≤ (acc + 1) * 256 := by have := b.isLt; omega
    calc _ < (acc * 256 + b.toNat + 1) * 256 ^ bs.length := rest
      _ ≤ (acc + 1) * 256 * 256 ^ bs.length := Nat.mul_le_mul_right _ digit
      _ = (acc + 1) * 256 ^ (b :: bs).length := by rw [List.length_cons, Nat.pow_succ']; ring

theorem numberOf_lt (bs : List Byte) : numberOf bs < 256 ^ bs.length := by
  have bound := foldl_bytes_lt bs 0
  rwa [Nat.zero_add, Nat.one_mul] at bound

theorem fieldValue_holds {w : Width} {bs : List Byte} (h : numberOf bs < 256 ^ w.bytes) : Width.Holds w (fieldValue w bs) := by
  cases w <;> simp only [Width.bytes] at h <;> norm_num at h <;>
    simp only [fieldValue, Width.Holds, Width.least, Width.greatest]
  case u8 | u16 | u32 => omega
  case s16 | s32 => split_ifs <;> omega

/-- A field read holds its value. -/
theorem takeField_holds {w : Width} {bs rest : List Byte} {v : Int} (h : takeField w bs = some (v, rest)) :
    Width.Holds w v := by
  unfold takeField at h
  split at h
  · next long =>
    obtain ⟨rfl, -⟩ := Prod.mk.inj (Option.some.inj h)
    have bound := numberOf_lt (bs.take w.bytes)
    rw [List.length_take_of_le long] at bound
    exact fieldValue_holds bound
  · cases h

theorem takeFields_holds : ∀ {ws : List Width} {bs rest : List Byte} {vs : List Int},
    takeFields ws bs = some (vs, rest) → List.Forall₂ Width.Holds ws vs
  | [], _, _, _, h => by obtain ⟨rfl, -⟩ := Prod.mk.inj (Option.some.inj h); exact .nil
  | w :: ws, bs, rest, vs, h => by
    unfold takeFields at h
    split at h
    · cases h
    · next first =>
      split at h
      · cases h
      · next others =>
        obtain ⟨rfl, -⟩ := Prod.mk.inj (Option.some.inj h)
        exact .cons (takeField_holds first) (takeFields_holds others)

/-! ## The records of an image -/

/-- A record passes its checks: its settings are in range, and its fields hold its values. -/
def Record.Sound (r : Record) : Prop :=
  settingsValid r.sec r.values = true ∧ List.Forall₂ Width.Holds (sectionWidths r.sec) r.values

/-- Every record of an image that is read passes its checks (R193). -/
theorem readRecords_sound : ∀ (fuel : Nat) (keys : List (Nat × Nat)) (bs : List Byte) {rs : List Record},
    readRecords fuel keys bs = .ok rs → ∀ r ∈ rs, r.Sound
  | fuel, [], [], rs, h => by
    obtain rfl : [] = rs := by cases fuel <;> simpa [readRecords] using h
    nofun
  | fuel, _ :: _, [], _, h => by cases fuel <;> cases h
  | fuel, _, [_], _, h => by cases fuel <;> simp [readRecords] at h
  | 0, _, _ :: _ :: _, _, h => by simp [readRecords] at h
  | fuel + 1, keys, x :: i :: rest, rs, h => by
    rw [readRecords] at h
    split at h
    · split at h
      · cases h
      · next vs left fields =>
        split at h
        · cases h
        · next valid =>
          split at h
          · cases h
          · next k ks =>
            split at h
            · split at h
              · next others read =>
                obtain rfl := Except.ok.inj h
                refine List.forall_mem_cons.2 ⟨⟨by simpa using valid, takeFields_holds fields⟩, ?_⟩
                exact readRecords_sound fuel ks left read
              · cases h
            · cases h
    · cases h

theorem readImage_sound {m : List Byte} {answers : Bool} {rs : List Record} (h : readImage m answers = .ok rs) :
    ∀ r ∈ rs, r.Sound := by
  unfold readImage at h
  dsimp only at h
  split_ifs at h
  exact readRecords_sound _ _ _ h

/-! ## Values loaded -/

theorem Channel.load_valid {ch : Channel} (h : settingsValid 0 ch.values = true) {vs : List Int}
    (valid : settingsValid 0 vs = true) : settingsValid 0 (ch.load vs).values = true := by
  unfold Channel.load
  split
  · have ranges := allowed_of_settingsValid valid
    simp only [sectionTests, allowed_cons, within_iff] at ranges
    rw [channel_valid_iff]
    dsimp only
    omega
  · exact h

theorem Band.load_valid {b : Band} (h : settingsValid 3 b.values = true) {vs : List Int}
    (valid : settingsValid 3 vs = true) : settingsValid 3 (b.load vs).values = true := by
  unfold Band.load
  split
  · obtain ⟨ranges, order⟩ := Bool.and_eq_true_iff.1 valid
    have less := of_decide_eq_true order
    simp only [sectionTests, allowed_cons, within_iff] at ranges
    obtain ⟨-, -, low, high, -, hyst, -⟩ := ranges
    refine band_valid_iff.2 ⟨⟨low.1, less, high.2⟩, by dsimp only; omega, fun n cap => .inl ?_⟩
    unfold toCap at cap
    split at cap
    · cases cap
    · obtain rfl := Option.some.inj cap; exact Nat.min_le_right _ _
  · exact h

theorem Screen.load_valid {sc : Screen} (h : settingsValid 5 sc.values = true) {vs : List Int}
    (valid : settingsValid 5 vs = true) : settingsValid 5 (sc.load vs).values = true := by
  unfold Screen.load
  split
  · have ranges := allowed_of_settingsValid valid
    simp only [sectionTests, allowed_cons, within_iff] at ranges
    rw [screen_valid_iff]
    dsimp only
    omega
  · exact h

theorem Pump.Sound.load {q : Pump} (h : q.Sound) {vs : List Int} (valid : settingsValid 7 vs = true) :
    (q.load vs).Sound := by
  obtain ⟨-, rest⟩ := id h
  unfold Pump.load
  split
  · have ranges := allowed_of_settingsValid valid
    simp only [sectionTests, allowed_cons, within_iff] at ranges
    refine ⟨pump_valid_iff.2 ?_, rest⟩
    dsimp only
    omega
  · exact h

theorem Pump.Sound.loadCounters {q : Pump} (h : q.Sound) {vs : List Int}
    (held : List.Forall₂ Width.Holds (sectionWidths 11) vs) : (q.loadCounters vs).Sound := by
  obtain ⟨settings, timer, bounded, -, -⟩ := h
  obtain _ | ⟨⟨-, seconds⟩, _ | ⟨⟨-, starts⟩, _ | _⟩⟩ := held
  simp only [Width.greatest] at seconds starts
  exact ⟨settings, timer, bounded, by simp only [Pump.loadCounters]; omega, by simp only [Pump.loadCounters]; omega⟩

theorem Lau.Sound.load {l : Lau} (h : l.Sound) {vs : List Int} (valid : settingsValid 1 vs = true) : (l.load vs).Sound := by
  unfold Lau.load
  split
  · have ranges := allowed_of_settingsValid valid
    simp only [sectionTests, allowed_cons, within_iff, Bool.and_eq_true, decide_eq_true_eq] at ranges
    refine ⟨h.1, levels_valid_iff.2 ?_⟩
    dsimp only
    omega
  · exact h

theorem Swc.Sound.load {w : Swc} (h : w.Sound) {vs : List Int} (valid : settingsValid 6 vs = true) : (w.load vs).Sound := by
  unfold Swc.load
  split
  · have ranges := allowed_of_settingsValid valid
    simp only [sectionTests, allowed_cons, within_iff, offOrWithin_iff] at ranges
    refine ⟨h.1, wash_valid_iff.2 ?_⟩
    dsimp only
    omega
  · exact h

theorem Pdc.Sound.load {d : Pdc} (h : d.Sound) {vs : List Int} (valid : settingsValid 8 vs = true) : (d.load vs).Sound := by
  obtain ⟨pumps, -, order⟩ := id h
  unfold Pdc.load
  split
  · have ranges := allowed_of_settingsValid valid
    simp only [sectionTests, allowed_cons, within_iff] at ranges
    refine ⟨pumps, duty_valid_iff.2 ?_, order⟩
    dsimp only
    omega
  · exact h

theorem Slp.Sound.load {l : Slp} (h : l.Sound) {vs : List Int} (valid : settingsValid 10 vs = true) : (l.load vs).Sound := by
  unfold Slp.load
  split
  · have ranges := allowed_of_settingsValid valid
    simp only [sectionTests, allowed_cons, within_iff, offOrWithin_iff, oneOf, decide_eq_true_eq, List.mem_cons,
      List.not_mem_nil, or_false] at ranges
    refine link_valid_iff.2 ?_
    simp only [List.mem_cons, List.not_mem_nil, or_false]
    omega
  · exact h

/-- One field holds one value. -/
theorem values_single {w : Width} {vs : List Int} (held : List.Forall₂ Width.Holds [w] vs) : ∃ v, vs = [v] := by
  obtain _ | ⟨-, _ | _⟩ := held
  exact ⟨_, rfl⟩

namespace State.Sound

/-! ## Start-up -/

theorem reset : State.reset.Sound := sound_iff.2 ⟨reset_settingsSound, by unfold State.RecoverySound; decide⟩

theorem startUp (s : State) (c : Bool) : (s.startUp c).Sound where
  lau := reset.lau
  twu := reset.twu
  swc := by
    refine ⟨fun n => ?_, reset.swc.2⟩
    show settingsValid 5 ((s.startUp c).screen n).values = true
    rw [screen_startUp]
    exact screen_valid_iff.2 ⟨by simp, by simp, by simp, by simp, by simp⟩
  pdc := by
    obtain ⟨-, timings⟩ := reset.pdc
    refine ⟨fun p => ?_, timings⟩
    show ((s.startUp c).pump p).Sound
    rw [pump_startUp]
    exact ⟨pump_valid_iff.2 ⟨⟨by simp, by simp⟩, by simp⟩, fun _ => rfl, Nat.zero_le _, Nat.zero_le _, Nat.zero_le _⟩
  slp := reset.slp

/-! ## The image and the end of LOADING -/

section Loading
variable (h : s.Sound)
include h

theorem applyRecord {r : Record} (sound : r.Sound) : (s.applyRecord r).Sound := by
  have order (l : List Nat) : ((toOrder l).getD s.pdc.order).toList.Nodup := by
    obtain ⟨-, -, order⟩ := h.pdc
    cases e : toOrder l with
    | none => exact order
    | some o => exact toOrder_nodup e
  obtain ⟨sec, index, values⟩ := r
  obtain ⟨valid, held⟩ := sound
  unfold State.applyRecord
  dsimp only at valid held ⊢
  split
  · split
    · exact h.onChannel fun old => Channel.load_valid old valid
    · exact h
  · exact h.onLau fun old => old.load valid
  · obtain ⟨v, rfl⟩ := values_single held
    have range := allowed_of_settingsValid valid
    simp only [sectionTests, allowed_cons, allowed_nil, and_true, within_iff] at range
    exact h.onTwu fun ⟨_, rest⟩ => ⟨trend_valid_iff.2 (by simp only [List.headD_cons]; omega), rest⟩
  · split
    · exact h.onBand fun old => Band.load_valid old valid
    · exact h
  · obtain ⟨v, rfl⟩ := values_single held
    have range := allowed_of_settingsValid valid
    simp only [sectionTests, allowed_cons, allowed_nil, and_true, offOrWithin_iff] at range
    exact h.onTwu fun ⟨trend, bands, _⟩ =>
      ⟨trend, bands, reminder_valid_iff.2 (by simp only [List.headD_cons]; omega)⟩
  · split
    · exact h.onScreen fun old => Screen.load_valid old valid
    · exact h
  · exact h.onSwc fun old => old.load valid
  · split
    · exact h.onPump fun old => old.load valid
    · exact h
  · exact h.onPdc fun old => old.load valid
  · exact h.onPdc fun ⟨pumps, timings, _⟩ => ⟨pumps, timings, order _⟩
  · exact h.onSlp fun old => old.load valid
  · split
    · exact h.onPump fun old => old.loadCounters held
    · exact h
  · exact h

omit h in
theorem applyRecords : ∀ (rs : List Record) {s : State}, s.Sound → (∀ r ∈ rs, r.Sound) → (rs.foldl State.applyRecord s).Sound
  | [], _, h, _ => h
  | _ :: rs, _, h, sound =>
    have ⟨first, others⟩ := List.forall_mem_cons.1 sound
    applyRecords rs (h.applyRecord first) others

theorem loadImage {b : Bool} : (s.loadImage b).Sound := by
  unfold State.loadImage
  split
  · next rs read => exact (applyRecords rs h (readImage_sound read)).onSlp (by exact id)
  · exact h.notify

theorem takeSettings {b : Bool} : (s.takeSettings b).Sound := ite h.loadImage h

theorem startScreen {n : ScreenId} : (s.startScreen n).Sound := ite (ite h.foundJammed h.enterScreen) h.enterScreen

theorem startPump {p : PumpId} : (s.startPump p).Sound :=
  ite (h.loadRest rfl rfl (h.loaded_le _)) (h.enterRest rfl)

theorem startLau {v : Vector Nat 12} : (s.startLau v).Sound := by
  refine h.onLau fun ⟨channels, levels⟩ => ⟨fun c => ?_, levels⟩
  have kept : (s.lau.channels.map Channel.start)[c].values = s.lau.channels[c].values := by
    simp [Channel.start, Channel.values]
  show settingsValid 0 (s.lau.channels.map Channel.start)[c].values = true
  rw [kept]
  exact channels c

theorem startBlocks {v : Vector Nat 12} : (s.startBlocks v).Sound := by
  have screens := h.startLau (v := v) |>.foldl (f := State.startScreen) (fun _ _ k => k.startScreen) allScreens
  have pumps := screens.foldl (f := State.startPump) (fun _ _ k => k.startPump) allPumps
  unfold State.startBlocks
  dsimp only
  generalize allPumps.foldl State.startPump (allScreens.foldl State.startScreen (s.startLau v)) = u at pumps ⊢
  refine onSlp (onPdc (onSwc ?_ (by exact id)) (by exact id)) Slp.Sound.start
  exact pumps.same rfl

/-! ## A millisecond -/

theorem elapse : s.elapse.Sound := by
  obtain ⟨pumps, timings, order⟩ := h.pdc
  obtain ⟨screens, wash⟩ := h.swc
  refine ⟨h.lau, h.twu, ⟨fun n => ?_, wash⟩, ⟨fun p => ?_, timings, order⟩, h.slp⟩
  · have kept : (s.swc.screens.map Screen.elapse)[n].values = s.swc.screens[n].values := by
      simp [Screen.elapse, Screen.values]
    show settingsValid 5 (s.swc.screens.map Screen.elapse)[n].values = true
    rw [kept]
    exact screens n
  · have aged : (s.pdc.pumps.map Pump.elapse)[p] = s.pdc.pumps[p].elapse := by simp
    obtain ⟨valid, timer, bounded, run, starts⟩ := pumps p
    show (s.pdc.pumps.map Pump.elapse)[p].Sound
    rw [aged]
    refine ⟨valid, fun moves => ?_, ?_, ?_, starts⟩
    · have rests : s.pdc.pumps[p].state.resting = false := moves
      simp only [Pump.elapse, rests]
      exact timer rests
    · simp only [Pump.elapse]; split <;> omega
    · simp only [Pump.elapse, countTo]; split <;> omega

theorem idle : s.idle.Sound := by
  unfold State.idle
  split
  · exact ite (ite h.dealNext h.elapse) h
  · exact h.same rfl

end Loading

end State.Sound

end Sys2Proof.Machine
end

section
/-! PROOFS. The walk of the commands for the settings: a setting taken is clamped to its range or is in its list, and a
recovery timer counts in RECOVERING, FAILED and DISABLED alone: O9. -/

namespace Sys2Proof.Machine

variable {s : State}

/-! ## Settings taken -/

theorem Channel.setEnabled_valid {ch : Channel} (h : settingsValid 0 ch.values = true) (on : Bool) :
    settingsValid 0 (ch.setEnabled on).values = true := by
  rw [channel_valid_iff] at h ⊢
  unfold Channel.setEnabled
  split_ifs <;> exact h

theorem Channel.calibrate_valid {ch : Channel} (h : settingsValid 0 ch.values = true) (c : ChannelArgs) :
    settingsValid 0 (ch.calibrate c).values = true := by
  obtain ⟨zero, gain, elevation, shift⟩ := channel_valid_iff.1 h
  obtain ⟨-, z⟩ := taken_within (hi := 65535) (Nat.zero_le _) ⟨Nat.zero_le _, zero⟩ c.zero
  obtain ⟨-, g⟩ := taken_within (hi := 65535) (Nat.zero_le _) ⟨Nat.zero_le _, gain⟩ c.gain
  obtain ⟨-, k⟩ := taken_within (hi := 6) (Nat.zero_le _) ⟨Nat.zero_le _, shift⟩ c.shift
  exact channel_valid_iff.2 ⟨z, g, taken_withinInt (by decide) elevation c.elevation, k⟩

theorem scanInterval_valid (v : Nat) :
    (100 ≤ scanInterval v ∧ scanInterval v ≤ 2000) ∧ scanInterval v % 100 = 0 := by
  unfold scanInterval clampNat
  split_ifs <;> omega

theorem bandEntry_valid {old new : Band} {b : BandArgs} (h : bandEntry old b = some new) :
    settingsValid 3 new.values = true := by
  obtain ⟨enabled, quantity, rank, mode, cls, order⟩ := bandEntry_some h
  obtain ⟨_, taken⟩ := bandTaken old enabled quantity rank mode cls order
  obtain rfl := Option.some.inj (taken.entry.symm.trans h)
  have low : -30000 ≤ heldBound b.low := Int.le_max_left ..
  have high : heldBound b.high ≤ 30000 := max_le (by decide) (Int.min_le_left ..)
  refine band_valid_iff.2 ⟨by rw [taken.low, taken.high]; exact ⟨low, order, high⟩, ?_, fun n cap => .inl ?_⟩
  · rw [taken.hysteresis]; exact Nat.min_le_right ..
  · rw [taken.cap, toCap] at cap
    split at cap
    · cases cap
    · obtain rfl := Option.some.inj cap; exact Nat.min_le_right ..

theorem Screen.configure_valid {sc : Screen} (h : settingsValid 5 sc.values = true) (c : ScreenArgs) :
    settingsValid 5 (sc.configure c).values = true := by
  obtain ⟨wash, high, blind, least, most⟩ := screen_valid_iff.1 h
  obtain ⟨-, w⟩ := taken_within (hi := 3000) (Nat.zero_le _) ⟨Nat.zero_le _, wash⟩ c.washStart
  obtain ⟨-, k⟩ := taken_within (hi := 3000) (Nat.zero_le _) ⟨Nat.zero_le _, high⟩ c.high
  obtain ⟨-, b⟩ := taken_within (hi := 3000) (Nat.zero_le _) ⟨Nat.zero_le _, blind⟩ c.blind
  exact screen_valid_iff.2 ⟨w, k, b, taken_within (by decide) ⟨least, most⟩ c.defaultPasses⟩

theorem Swc.Sound.configure {w : Swc} (h : w.Sound) (c : WashTimingArgs) : (w.configure c).Sound := by
  obtain ⟨screens, timings⟩ := h
  obtain ⟨pass, guard, wash, fallback, storm, sluice, purge, time, deferral, loss⟩ := wash_valid_iff.1 timings
  exact ⟨screens, wash_valid_iff.2 ⟨taken_within (by decide) pass _, taken_within (by decide) guard _,
    taken_offOrWithin (by decide) wash _, taken_within (by decide) fallback _, taken_within (by decide) storm _,
    taken_within (by decide) sluice _, taken_offOrWithin (by decide) purge _, taken_within (by decide) time _,
    taken_within (by decide) deferral _, taken_within (by decide) loss _⟩⟩

theorem Pdc.Sound.configure {d : Pdc} (h : d.Sound) (c : PumpTimingArgs) : (d.configure c).Sound := by
  obtain ⟨pumps, timings, order⟩ := h
  have upTo {hi old : Nat} (range : old ≤ hi) (o : Option Nat) : taken (clampNat 0 hi) o old ≤ hi :=
    (taken_within (Nat.zero_le hi) ⟨Nat.zero_le old, range⟩ o).2
  obtain ⟨large, small, start, stop, spacing, margin, trip, shed, screen, rotation, demand⟩ := duty_valid_iff.1 timings
  exact ⟨pumps, duty_valid_iff.2 ⟨upTo large _, upTo small _, taken_within (by decide) start _,
    taken_within (by decide) stop _, taken_within (by decide) spacing _, upTo margin _, taken_within (by decide) trip _,
    taken_within (by decide) shed _, taken_within (by decide) screen _, upTo rotation _, upTo demand _⟩, order⟩

theorem Slp.Sound.configure {l : Slp} (h : l.Sound) {c : LinkArgs} (listed : linkListed c = true) :
    (l.configure c).Sound := by
  obtain ⟨rate, threshold, batch, supervision, discard⟩ := link_valid_iff.1 h
  obtain ⟨newRate, newThreshold⟩ : c.rate.getD 0 ≤ 4 ∧ c.threshold.getD 1 ∈ [1, 3, 6, 12] := by
    simpa only [linkListed, Bool.and_eq_true, decide_eq_true_eq] using listed
  refine link_valid_iff.2 ⟨?_, ?_, taken_within (by decide) batch _, taken_offOrWithin (by decide) supervision _,
    taken_within (by decide) discard _⟩
  · show c.rate.getD l.rate ≤ 4
    cases e : c.rate <;> simp_all
  · show c.threshold.getD l.threshold ∈ [1, 3, 6, 12]
    cases e : c.threshold <;> simp_all

/-! ## Rules of requests -/

/-- The rule of a request keeps the settings sound. -/
def RuleKeepsSettings (rule : State → Answer) : Prop := ∀ t : State, t.Sound → (rule t).state.Sound

namespace RuleKeepsSettings

theorem refuse (c : Code) : RuleKeepsSettings fun t => .refuse t c := fun _ h => h

theorem withArgs {α : Type} {k : α → State → Answer} (a : Form α) (h : ∀ x, RuleKeepsSettings (k x)) :
    RuleKeepsSettings (withArgs a k) := by
  cases a with
  | args x => exact h x
  | mismatch => exact fun _ h => h

theorem outsideFallback {k : State → Answer} (h : RuleKeepsSettings k) : RuleKeepsSettings (outsideFallback k) := by
  intro t sound
  unfold Machine.outsideFallback
  split
  · exact sound
  · exact h t sound

theorem ite {c : State → Prop} [∀ t, Decidable (c t)] {a b : State → Answer} (ha : RuleKeepsSettings a) (hb : RuleKeepsSettings b) :
    RuleKeepsSettings fun t => if c t then a t else b t := by
  intro t sound
  dsimp only
  split
  · exact ha t sound
  · exact hb t sound

end RuleKeepsSettings

/-! ## Deferred requests -/

/-- What the rule of the owner of a deferred request leaves is sound. -/
def Verdict.Sound : Verdict → Prop
  | .answered u => u.Sound
  | .refused _ | .opens => True

theorem newRequest_sound {k : DeferredKind} {g : Target} {args : List Byte} {v : Verdict} {act : Nat → State → State}
    {data : List Byte} (h : s.Sound) (hv : v.Sound) (ha : ∀ m (t : State), t.Sound → (act m t).Sound) :
    (newRequest k g args v act data s).state.Sound := by
  unfold newRequest
  split
  · exact h
  · exact hv
  · split
    · exact h
    · exact ha _ _ h.openSlot

theorem foundSlot_sound (i : SlotId) (sl : Slot) (k : DeferredKind) (args : List Byte) :
    RuleKeepsSettings (foundSlot i sl k args) := by
  intro t h
  unfold foundSlot
  split
  · split
    · exact h
    · exact h.freeSlotAt
  · exact h

theorem RuleKeepsSettings.deferred {k : DeferredKind} {g : Target} {args : List Byte} {v : State → Verdict}
    {act : Nat → State → State} {data : List Byte} (hv : ∀ t : State, t.Sound → (v t).Sound)
    (ha : ∀ m (t : State), t.Sound → (act m t).Sound) : RuleKeepsSettings (deferredRequest k g args v act data) := by
  intro t h
  unfold deferredRequest
  split
  · split
    · exact foundSlot_sound _ _ _ _ t h
    · exact newRequest_sound h (hv t h) ha
  · exact newRequest_sound h (hv t h) ha

theorem washVerdict_sound (n : ScreenId) (t : State) : (washVerdict n t).Sound := by
  unfold washVerdict
  split
  iterate 4 trivial
  all_goals split <;> trivial

theorem startVerdict_sound (p : PumpId) {t : State} (h : t.Sound) : (startVerdict p t).Sound := by
  unfold startVerdict
  split
  · trivial
  · split
    · exact h
    all_goals trivial

theorem stopVerdict_sound (p : PumpId) (f : Bool) {t : State} (h : t.Sound) : (stopVerdict p f t).Sound := by
  unfold stopVerdict
  split
  · trivial
  · split
    · exact h.leaveStart
    iterate 3 exact h
    iterate 2 trivial
    split <;> trivial

theorem saveVerdict_sound (t : State) : (saveVerdict t).Sound := by
  unfold saveVerdict; split <;> trivial

/-! ## Requests taken -/

theorem serve_sound {f g : State → Answer} (hf : RuleKeepsSettings f) (hg : RuleKeepsSettings g) {t : State} (h : t.Sound) :
    (t.serve f g).Sound := by
  unfold State.serve
  dsimp only
  refine State.Sound.reply ?_
  split
  · exact hf t h
  · exact hg t h
  · exact hg t h

/-- A request whose rule keeps the settings sound keeps them so, however it comes and whether or not it is taken. -/
theorem requestIn_sound {f g : State → Answer} (hf : RuleKeepsSettings f) (hg : RuleKeepsSettings g) (i : Instr) (h : s.Sound) :
    (s.requestIn i f g).Sound := by
  have taken : (if s.slp.replyOutstanding then s.arrive i
      else match s.slp.requests with
        | [] => (s.arrive i).serve f g
        | r :: _ => if r.command = i then s.serve f g else s.arrive i).Sound := by
    refine .ite h.arrive ?_
    split
    · exact serve_sound hf hg h.arrive
    · exact .ite (serve_sound hf hg h) h.arrive
  unfold State.requestIn
  split
  · exact h
  all_goals exact taken

/-! ## The commands -/

/-- A command ends in a next state whose settings are sound. -/
def EndsKeepingSettings (o : Host.Outcome State Fault Refusal) : Prop := ∃ t, o = .next t ∧ t.Sound

namespace EndsKeepingSettings

theorem next {t : State} (h : t.Sound) : EndsKeepingSettings (.next t) := ⟨t, rfl, h⟩

/-- A command that acts on a condition, and otherwise does nothing. -/
theorem onCondition {c : Prop} [Decidable c] {t : State} (h : s.Sound) (k : t.Sound) :
    EndsKeepingSettings (.next (if c then t else s)) := next (.ite k h)

theorem request {rule : State → Answer} (h : s.Sound) (hr : RuleKeepsSettings rule) (i : Instr) :
    EndsKeepingSettings (.next (s.request i rule)) := next (requestIn_sound (.refuse _) hr i h)

/-- A request with arguments. -/
theorem args {α : Type} {k : α → State → Answer} (h : s.Sound) (i : Instr) (a : Form α) (hr : ∀ x, RuleKeepsSettings (k x)) :
    EndsKeepingSettings (.next (s.request i (withArgs a k))) := request h (.withArgs a hr) i

/-- A request that reads. -/
theorem reads {α : Type} {k : α → State → Answer} (h : s.Sound) (i : Instr) (a : Form α)
    (hr : ∀ x t, (k x t).state = t) : EndsKeepingSettings (.next (s.request i (withArgs a k))) :=
  args h i a fun x t sound => by rw [hr]; exact sound

end EndsKeepingSettings

section Events
variable (h : s.Sound)
include h

theorem sound_scanTimerExpiry (v : Vector Nat 12) (dealt : Nat) : EndsKeepingSettings (execScanTimerExpiry v dealt s) :=
  .onCondition h (.dealMany _ (h.onLau (by exact id)))

theorem sound_trendTimerExpiry : EndsKeepingSettings (execTrendTimerExpiry s) :=
  .onCondition h (.ite (h.onTwu (by exact id)) (State.Sound.rateEvent (State.Sound.onTwu (h.onTwu (by exact id)) (by exact id))))

theorem sound_indexPulse (n : ScreenId) : EndsKeepingSettings (execIndexPulse n s) := by
  refine .onCondition h ?_
  split
  · exact h
  · exact .ite h.setWash h.acceptPulse

theorem sound_hdokChange (level : Bool) : EndsKeepingSettings (execHdokChange level s) := by
  have read : (s.onSwc fun w => { w with hdok := level }).Sound := h.onSwc (by exact id)
  have acts : (s.onSwc fun w => { w with hdok := level, falsePeriod := if level then none else some 0 }).Sound := h.onSwc (by exact id)
  exact .next (.ite h (.ite acts.reevaluate.settle read))

theorem sound_pfbRising (p : PumpId) : EndsKeepingSettings (execPfbRising p s) := by
  have read : (s.feedbackLevel p true).Sound := h.feedbackLevel
  refine .next (.ite h ?_)
  dsimp only
  split
  · next entered =>
    have starting : ((s.feedbackLevel p true).pump p).state = .starting := by simp_all
    exact (read.enterRunning (by rw [starting]; rfl)).settle
  · exact read

theorem sound_pfbFalling (p : PumpId) : EndsKeepingSettings (execPfbFalling p s) := by
  have read : (s.feedbackLevel p false).Sound := h.feedbackLevel
  refine .onCondition h (.ite ?_ read)
  split
  · exact .ite read read.failPump.settle
  · exact read.stopEnded.settle
  all_goals exact read

theorem sound_ptrpActive (p : PumpId) (level : Bool) : EndsKeepingSettings (execPtrpActive p level s) := by
  have read : (s.onPump p fun q => { q with trip := level }).Sound := h.onPump (by exact id)
  exact .next (.ite read.failPump.settle read)

theorem sound_recoveryTimerExpiry (p : PumpId) : EndsKeepingSettings (execRecoveryTimerExpiry p s) := by
  unfold execRecoveryTimerExpiry
  split
  · next falls =>
    obtain ⟨-, zero⟩ : (s.pump p).state = .recovering ∧ (s.pump p).recovery = 0 := by
      simpa [State.recovered] using (Bool.and_eq_true_iff.1 falls).2
    exact .next (h.enterPump fun _ => zero).settle
  · exact .next h

theorem sound_rotationTimerExpiry : EndsKeepingSettings (execRotationTimerExpiry s) := by
  have rotated : (s.onPdc fun d =>
      { d with order := rotate d.order, rotationTimer := 0, changeover := true }).Sound :=
    h.onPdc fun ⟨pumps, timings, order⟩ =>
      ⟨pumps, timings, by dsimp only; rw [rotate_toList]; exact List.nodup_rotate.2 order⟩
  exact .onCondition h rotated.notify.evaluationFollows.settle

theorem sound_shedTimerExpiry (k : ScopeId) : EndsKeepingSettings (execShedTimerExpiry k s) := by
  refine .next ?_
  split
  · exact .ite h.fallDue.settle h
  · exact h

theorem sound_supervisionTimerExpiry : EndsKeepingSettings (execSupervisionTimerExpiry s) := by
  have stopped : (s.onSlp fun l => { l with supervising := false }).Sound := h.onSlp (by exact id)
  exact .onCondition h (.ite stopped stopped.enterFallback)

theorem sound_saveConfigEnd (e : SaveEnd) : EndsKeepingSettings (execSaveConfigEnd e s) := by
  refine .next ?_
  split
  · exact h
  · next sv _ =>
    have ended : (s.onSlp fun l => { l with memory := savedMemory sv.image l.memory e, save := none }).Sound := h.onSlp (by exact id)
    exact .ite ended.reportSave ended

theorem sound_frameReceived (f : Frame) : EndsKeepingSettings (execFrameReceived f s) :=
  .onCondition h (.ite h.hunt.goodFrame h.hunt.markLinkError)

theorem sound_replySent (c : Bool) : EndsKeepingSettings (execReplySent c s) := by
  refine .next ?_
  split
  · have sent : (s.onSlp fun l => { l with requests := l.requests.drop 1, tx := .free }.takeRate).Sound :=
      h.onSlp fun sound => Slp.Sound.takeRate (l := { s.slp with requests := s.slp.requests.drop 1, tx := .free }) sound
    exact .ite (.startUp _ _) sent.transmitNext
  all_goals exact h

theorem sound_batchSent : EndsKeepingSettings (execBatchSent s) := by
  refine .next ?_
  split
  · exact State.Sound.transmitNext (h.onSlp (by exact id))
  all_goals exact h

end Events

section Requests
variable (h : s.Sound)
include h

theorem sound_getTidePoints (a : Form (Nat × Nat)) : EndsKeepingSettings (execGetTidePoints a s) := by
  refine .reads h _ a fun x t => ?_
  split
  · rfl
  · dsimp only; split <;> rfl

theorem sound_getScreen (a : Form Nat) : EndsKeepingSettings (execGetScreen a s) := by
  refine .reads h _ a fun x t => ?_
  split <;> rfl

theorem sound_getPump (a : Form Nat) : EndsKeepingSettings (execGetPump a s) := by
  refine .reads h _ a fun x t => ?_
  split <;> rfl

theorem sound_setChannel (a : Form ChannelArgs) : EndsKeepingSettings (execSetChannel a s) := by
  have set (n : ChannelId) (en : Option Bool) (c : ChannelArgs) : RuleKeepsSettings (setChannelOn n en c) :=
    fun t k => by
      dsimp only [setChannelOn]
      exact k.onChannel fun valid => Channel.calibrate_valid (Channel.setEnabled_valid valid _) _
  refine .args h _ a fun x t k => ?_
  split
  · exact k
  · split
    · exact k
    · split
      · exact set _ _ _ t k
      · split
        · exact k
        · exact set _ _ _ t k

theorem sound_setDensity (a : Form Nat) : EndsKeepingSettings (execSetDensity a s) := by
  refine .args h _ a fun v t k => ?_
  dsimp only
  refine k.onLau fun ⟨channels, levels⟩ => ?_
  unfold Lau.setDensity
  split
  · exact ⟨channels, levels⟩
  · obtain ⟨density, rest⟩ := levels_valid_iff.1 levels
    refine ⟨fun c => ?_, levels_valid_iff.2 ⟨taken_within (by decide) density (some v), rest⟩⟩
    have kept : (t.lau.channels.map fun ch : Channel => { ch with seeded := ch.seeded && !ch.enabled })[c].values =
        t.lau.channels[c].values := by simp [Channel.values]
    rw [kept]
    exact channels c

theorem sound_setScan (a : Form Nat) : EndsKeepingSettings (execSetScan a s) := by
  refine .args h _ a fun v t k => ?_
  dsimp only
  refine k.onLau fun ⟨channels, levels⟩ => ⟨channels, levels_valid_iff.2 ?_⟩
  obtain ⟨density, -, rest⟩ := levels_valid_iff.1 levels
  exact ⟨density, scanInterval_valid v, rest⟩

theorem sound_setSea (a : Form SeaArgs) : EndsKeepingSettings (execSetSea a s) := by
  refine .args h _ a fun c t k => ?_
  dsimp only
  split
  · exact k
  · dsimp only
    refine k.onLau fun ⟨channels, levels⟩ => ⟨channels, levels_valid_iff.2 ?_⟩
    obtain ⟨density, interval, tolerance, limit⟩ := levels_valid_iff.1 levels
    exact ⟨density, interval, taken_within (by decide) tolerance _, taken_within (by decide) limit _⟩

theorem sound_setTrend (a : Form Nat) : EndsKeepingSettings (execSetTrend a s) :=
  .args h _ a fun v t k => by
    have set : (t.onTwu fun u => { u with trendInterval := clampNat 5 60 v }).Sound := k.onTwu fun ⟨_, rest⟩ =>
      ⟨trend_valid_iff.2 (taken_within (old := 5) (by decide) (by decide) (some v)), rest⟩
    exact .ite k set.emptyRing

theorem sound_setBandEntry (a : Form BandArgs) : EndsKeepingSettings (execSetBandEntry a s) := by
  refine .args h _ a fun x t k => ?_
  dsimp only
  split
  · exact k
  · split
    · exact k
    · next entry =>
      exact (State.Sound.reevaluateQuantities (k.onBand fun _ => bandEntry_valid entry)).recompute.settle

theorem sound_setBandReminder (a : Form Nat) : EndsKeepingSettings (execSetBandReminder a s) :=
  .args h _ a fun v t k => by
    dsimp only
    refine .ite k (k.onTwu fun ⟨trend, bands, _⟩ => ⟨trend, bands, reminder_valid_iff.2 ?_⟩)
    exact taken_offOrWithin (old := 0) (by decide) (.inl rfl) (some v)

theorem sound_setScreen (a : Form ScreenArgs) : EndsKeepingSettings (execSetScreen a s) := by
  refine .args h _ a fun c t k => ?_
  dsimp only
  split
  · exact k
  · split
    · exact k
    · dsimp only
      exact k.onScreen fun valid => Screen.configure_valid valid c

theorem sound_setWashTiming (a : Form WashTimingArgs) : EndsKeepingSettings (execSetWashTiming a s) := by
  refine .args h _ a fun c t k => ?_
  dsimp only
  split
  · exact k
  · have set : (t.onSwc fun w => w.configure c).Sound := k.onSwc fun sound => sound.configure c
    exact set.washTimingActs.settle

omit h in
theorem setPumpOn_sound (p : PumpId) (cls : Option PumpClass) (c : PumpArgs) : RuleKeepsSettings (setPumpOn p cls c) := by
  intro t k
  have set : (t.onPump p fun q =>
      { q with
        cls := cls.getD q.cls
        inlet := taken (clampInt (-30000) 30000) c.inlet q.inlet
        submergence := taken (clampNat 0 5000) c.submergence q.submergence }).Sound :=
    k.onPump fun ⟨valid, rest⟩ => by
      obtain ⟨inlet, submergence⟩ := pump_valid_iff.1 valid
      exact ⟨pump_valid_iff.2 ⟨taken_withinInt (by decide) inlet _,
        (taken_within (Nat.zero_le _) ⟨Nat.zero_le _, submergence⟩ _).2⟩, rest⟩
  unfold setPumpOn
  dsimp only
  exact .ite set set.cutRecovery.settle

theorem sound_setPump (a : Form PumpArgs) : EndsKeepingSettings (execSetPump a s) := by
  refine .args h _ a fun x t k => ?_
  split
  · exact k
  · split
    · exact k
    · split
      · exact setPumpOn_sound _ _ _ t k
      · split
        · exact k
        · exact setPumpOn_sound _ _ _ t k

theorem sound_setPumpTiming (a : Form PumpTimingArgs) : EndsKeepingSettings (execSetPumpTiming a s) := by
  refine .args h _ a fun c t k => ?_
  dsimp only
  split
  · exact k
  · have set : (t.onPdc fun d => d.configure c).Sound := k.onPdc fun sound => sound.configure c
    exact set.pumpTimingActs.settle

theorem sound_setDutyOrder (a : Form (List Nat)) : EndsKeepingSettings (execSetDutyOrder a s) := by
  refine .args h _ a fun l t k => ?_
  dsimp only
  split
  · exact k
  · next o ho =>
    have ordered : (t.onPdc fun d => { d with order := o, rotationTimer := 0, changeover := true }).Sound :=
      k.onPdc fun ⟨pumps, timings, _⟩ => ⟨pumps, timings, toOrder_nodup ho⟩
    exact .ite ordered ordered.evaluationFollows.settle

theorem sound_setDutyMode (a : Form Nat) : EndsKeepingSettings (execSetDutyMode a s) := by
  refine .args h _ a fun x t k => ?_
  split
  · exact k
  · exact RuleKeepsSettings.outsideFallback (fun _ k => k.setMode.settle) t k

theorem sound_setDemand (a : Form Nat) : EndsKeepingSettings (execSetDemand a s) :=
  .args h _ a fun v => .outsideFallback fun t k => by
    have set : (t.onPdc fun d => { d with demand := clampNat 0 8 v }).Sound := k.onPdc (by exact id)
    exact .ite k set.evaluationFollows.settle

theorem sound_setLink (a : Form LinkArgs) : EndsKeepingSettings (execSetLink a s) := by
  refine .args h _ a fun c t k => ?_
  dsimp only
  split
  · exact k
  · split
    · exact k
    · next listed => exact State.Sound.linkActs (k.onSlp fun sound => sound.configure (by simpa using listed))

theorem sound_setClockStep (a : Form Int) : EndsKeepingSettings (execSetClockStep a s) := by
  refine .args h _ a fun x t k => ?_
  dsimp only
  split
  · exact State.Sound.checkBanks (k.onSlp (by exact id))
  · exact k

theorem sound_tidePoints (a : Form (List TidePoint)) : EndsKeepingSettings (execTidePoints a s) := by
  refine .args h _ a fun x t k => ?_
  dsimp only
  split
  · exact k
  · split
    · exact k
    · dsimp only
      exact k.onTwu (by exact id)

theorem sound_tideCommitNow (a : Form Unit) : EndsKeepingSettings (execTideCommitNow a s) := by
  refine .args h _ a fun x t k => ?_
  dsimp only
  split
  · exact k.swapBanks.checkBanks
  · exact k

theorem sound_tideSeal (a : Form Unit) : EndsKeepingSettings (execTideSeal a s) := by
  refine .args h _ a fun x t k => ?_
  dsimp only
  split
  · exact State.Sound.checkBanks (k.onTwu (by exact id))
  · exact k

theorem sound_stopWash (a : Form Nat) : EndsKeepingSettings (execStopWash a s) := by
  refine .args h _ a fun x t k => ?_
  split
  · exact k
  · exact RuleKeepsSettings.outsideFallback (fun _ k => k.stopWash) t k

theorem sound_clearScreen (a : Form Nat) : EndsKeepingSettings (execClearScreen a s) := by
  refine .args h _ a fun x t k => ?_
  split
  · exact k
  · split
    · split
      · exact k
      · exact k.enterScreen.publishCapacity.settle
    all_goals exact k

theorem sound_setService (a : Form (Nat × Nat)) : EndsKeepingSettings (execSetService a s) := by
  refine .args h _ a fun x t k => ?_
  dsimp only
  split
  · next n v _ _ =>
    refine RuleKeepsSettings.outsideFallback (fun u k => ?_) t k
    have set : (u.onScreen n fun sc => { sc with inService := v }).Sound :=
      k.onScreen fun valid => screen_valid_iff.2 (screen_valid_iff.1 valid :)
    exact (State.Sound.ite set.serviceIn set.serviceOut).publishCapacity.settle
  · exact k

theorem sound_enablePump (a : Form Nat) : EndsKeepingSettings (execEnablePump a s) := by
  refine .args h _ a fun x t k => ?_
  split
  · exact k
  · split
    · dsimp only
      exact k.setEnabled.rest.settle
    all_goals exact k

theorem sound_disablePump (a : Form Nat) : EndsKeepingSettings (execDisablePump a s) := by
  refine .args h _ a fun x t k => ?_
  split
  · exact k
  · split
    · exact k
    iterate 3
      dsimp only
      exact k.disablePump.settle
    all_goals exact k

theorem sound_clearPump (a : Form Nat) : EndsKeepingSettings (execClearPump a s) := by
  refine .args h _ a fun x t k => ?_
  split
  · exact k
  · split
    · split
      · exact k
      · dsimp only
        exact k.rest.settle
    all_goals exact k

theorem sound_resetHours (a : Form Nat) : EndsKeepingSettings (execResetHours a s) := by
  refine .args h _ a fun x t k => ?_
  split
  · exact k
  · dsimp only
    exact k.onPump fun ⟨valid, timer, bounded, _, _⟩ => ⟨valid, timer, bounded, Nat.zero_le _, Nat.zero_le _⟩

theorem sound_ackBand (a : Form Nat) : EndsKeepingSettings (execAckBand a s) := by
  refine .args h _ a fun v => .ite (.refuse _) fun t k => ?_
  dsimp only
  refine k.onTwu fun ⟨trend, bands, reminder⟩ => ⟨trend, fun b => ?_, reminder⟩
  have kept := bands b
  simp only [Fin.getElem_fin, Vector.getElem_ofFn]
  split
  · exact kept
  · exact kept

theorem sound_washScreen (a : Form (Nat × Nat)) : EndsKeepingSettings (execWashScreen a s) := by
  refine .args h _ a fun x t k => ?_
  dsimp only
  split
  · exact k
  · exact RuleKeepsSettings.outsideFallback
      (.deferred (fun u _ => washVerdict_sound _ u) fun _ _ k => k.hostWash) t k

theorem sound_startPump (a : Form Nat) : EndsKeepingSettings (execStartPump a s) := by
  refine .args h _ a fun x t k => ?_
  split
  · exact k
  · exact RuleKeepsSettings.outsideFallback
      (.deferred (fun _ k => startVerdict_sound _ k) fun _ _ k => k.hostStart) t k

theorem sound_stopPump (a : Form (Nat × Nat)) : EndsKeepingSettings (execStopPump a s) := by
  refine .args h _ a fun x t k => ?_
  split
  · exact RuleKeepsSettings.outsideFallback
      (.deferred (fun _ k => stopVerdict_sound _ _ k) fun _ _ k => k.hostStop) t k
  · exact k

end Requests

/-- Every command keeps the settings sound. -/
theorem exec_sound (c : Instr) (h : s.Sound) : EndsKeepingSettings (exec c s) := by
  cases c
  case powerOn c => exact .next (.startUp _ _)
  case resetNAsserted => exact .next (.ite h ((State.Sound.startUp s.abandonSave false).same rfl))
  case resetNReleased c => exact .next (.ite (.startUp _ _) h)
  case loadingEnd e =>
    exact .onCondition h (State.Sound.takeSettings (h.onSlp Slp.Sound.finishSave)).startBlocks
  case scanTimerExpiry v dealt => exact sound_scanTimerExpiry h v dealt
  case scanEvent => exact .onCondition h (State.Sound.dealMany _ h).scanEnd
  case trendTimerExpiry => exact sound_trendTimerExpiry h
  case reminderTimerExpiry => exact .onCondition h (State.Sound.foldl (h.onTwu (by exact id)) (fun _ _ k => k.remind) _)
  case intakeTimeCount => exact .onCondition h (State.Sound.checkBanks (h.onSlp (by exact id)))
  case indexPulse n => exact sound_indexPulse h n
  case sjamRising n => exact .next h.jamLevel
  case sjamFalling n => exact .next h.jamLevel
  case passTimeout n => exact .onCondition h h.endWash.settle
  case hdokChange level => exact sound_hdokChange h level
  case headerLossDelayExpiry => exact .onCondition h h.loseHeader.settle
  case sluiceRunEnd => exact .onCondition h h.endSluice.publishHeld.settle
  case headerPurgeTimerExpiry =>
    exact .onCondition h (State.Sound.settle (State.Sound.publishHeld (State.Sound.activatePurge (h.onSwc (by exact id)))))
  case headerPurgeComplete => exact .onCondition h h.finishPurge.settle
  case purgeOverdue => exact .onCondition h h.purgeOverdue
  case pfbRising p => exact sound_pfbRising h p
  case pfbFalling p => exact sound_pfbFalling h p
  case ptrpActive p level => exact sound_ptrpActive h p level
  case startTimeout p => exact .onCondition h h.failPump.settle
  case stopTimeout p => exact .onCondition h h.failPump.settle
  case recoveryTimerExpiry p => exact sound_recoveryTimerExpiry h p
  case startSpacingExpiry => exact .onCondition h (State.Sound.settle (State.Sound.startArbiter (h.onPdc (by exact id))))
  case rotationTimerExpiry => exact sound_rotationTimerExpiry h
  case shedTimerExpiry k => exact sound_shedTimerExpiry h k
  case lowLevelStop p => exact .onCondition h h.lowLevelActs.settle
  case discardTimerExpiry i => exact .onCondition h h.discardSlot
  case supervisionTimerExpiry => exact sound_supervisionTimerExpiry h
  case saveConfigEnd e => exact sound_saveConfigEnd h e
  case frameReceived f => exact sound_frameReceived h f
  case framingError => exact .onCondition h h.hunt.markLinkError
  case rxGapTimeout => exact .onCondition h h.hunt.markLinkError
  case lenAbove120 => exact .onCondition h h.hunt.markLinkError
  case replySent c => exact sound_replySent h c
  case batchSent => exact sound_batchSent h
  case noticeBatch => exact .onCondition h h.formBatch
  case quietTimeExpiry => exact .onCondition h (h.onSlp (by exact id))
  case frameStart => exact .onCondition h (h.onSlp (by exact id))
  case unknownKind k => exact .request h (.refuse _) _
  case getStatus a =>
    exact .next (requestIn_sound (.withArgs a fun _ _ k => k) (.withArgs a fun _ _ k => k) _ h)
  case getLevels a => exact .args h _ a fun _ => .ite (.refuse _) fun _ k => k
  case getTideSummary a => exact .reads h _ a fun _ _ => rfl
  case getTidePoints a => exact sound_getTidePoints h a
  case getCondition a => exact .reads h _ a fun _ _ => rfl
  case getScreen a => exact sound_getScreen h a
  case getPump a => exact sound_getPump h a
  case getNotices a => exact .args h _ a fun _ _ k => k.delivered
  case getConfig a => exact .args h _ a fun _ => .ite (fun _ k => k) (.refuse _)
  case setChannel a => exact sound_setChannel h a
  case setDensity a => exact sound_setDensity h a
  case setScan a => exact sound_setScan h a
  case setSea a => exact sound_setSea h a
  case setTrend a => exact sound_setTrend h a
  case setBandEntry a => exact sound_setBandEntry h a
  case setBandReminder a => exact sound_setBandReminder h a
  case setScreen a => exact sound_setScreen h a
  case setWashTiming a => exact sound_setWashTiming h a
  case setPump a => exact sound_setPump h a
  case setPumpTiming a => exact sound_setPumpTiming h a
  case setDutyOrder a => exact sound_setDutyOrder h a
  case setDutyMode a => exact sound_setDutyMode h a
  case setDemand a => exact sound_setDemand h a
  case setLink a => exact sound_setLink h a
  case setClockAbsolute a => exact .args h _ a fun _ _ k => by dsimp only; exact State.Sound.checkBanks (k.onSlp (by exact id))
  case setClockStep a => exact sound_setClockStep h a
  case tidePoints a => exact sound_tidePoints h a
  case tideCommitNow a => exact sound_tideCommitNow h a
  case tideSeal a => exact sound_tideSeal h a
  case tideClear a => exact .args h _ a fun _ _ k => by dsimp only; exact k.onTwu (by exact id)
  case stopWash a => exact sound_stopWash h a
  case clearScreen a => exact sound_clearScreen h a
  case setService a => exact sound_setService h a
  case enablePump a => exact sound_enablePump h a
  case disablePump a => exact sound_disablePump h a
  case clearPump a => exact sound_clearPump h a
  case resetHours a => exact sound_resetHours h a
  case ackBand a => exact sound_ackBand h a
  case resume a => exact .args h _ a fun _ _ k => by dsimp only; exact k.onSlp (by exact id)
  case softResetLink a => exact .args h _ a fun _ _ k => by dsimp only; exact k.onSlp (by exact id)
  case softResetFull a => exact .args h _ a fun _ _ k => by dsimp only; exact k.onSlp (by exact id)
  case washScreen a => exact sound_washScreen h a
  case startPump a => exact sound_startPump h a
  case stopPump a => exact sound_stopPump h a
  case saveConfig a =>
    exact .args h _ a fun _ => .deferred (fun t _ => saveVerdict_sound t) fun _ _ k => k.beginSave

/-- Every step keeps the settings sound: its command, or on an empty queue what the part does of itself. -/
theorem step_sound {t : State} (sound : s.Sound) (h : step s = .next t) : t.Sound := by
  unfold step at h
  split at h
  · obtain rfl : s.idle = t := by simpa using h
    exact sound.idle
  · next c rest _ =>
    obtain ⟨u, hu, kept⟩ := exec_sound c (s := { s with pending := rest }) (sound.same rfl)
    obtain rfl : u = t := by simpa [hu] using h
    exact kept

/-- Settles O9: the five blocks are sound after a step as they were before. -/
theorem settingsStaySound : Obligations.SettingsStaySound :=
  fun _ _ settings recovery h => sound_iff.1 (step_sound (sound_iff.2 ⟨settings, recovery⟩) h)

end Sys2Proof.Machine
end

section
/-! PROOFS. The rules of the pump state machine: what each of its operations does to its pump and to every other one, to
the start queue and to the start spacing: for O38 to O42, O44 and O46. -/

namespace Sys2Proof.Machine

variable {s t : State} {p x : PumpId}

/-! ## Recovery times -/

theorem recoveryTime_pump (s : State) (p : PumpId) : s.pdc.recoveryTime (s.pump p).cls = s.recoverySeconds p := by
  unfold State.recoverySeconds
  cases (s.pump p).cls <;> rfl

/-! ## Rest and the end of a stop (R122, R123) -/

theorem pump_rest_self (s : State) (p : PumpId) : (s.rest p).pump p = { s.pump p with
    state := if (s.pump p).recovery = 0 then .stopped else .recovering, run := false, lowMargin := none } := by
  rw [State.rest, State.pump_enterPump_self]
  split <;> rfl

theorem pump_rest_other (other : x ≠ p) : (s.rest p).pump x = s.pump x := by
  rw [State.rest, State.pump_enterPump, if_neg other.symm]

/-- A pump after the end of its stop. -/
def Pump.stopDone (q : Pump) (seconds : Nat) : Pump :=
  { q with
    state := if seconds = 0 then .stopped else .recovering, run := false, lowMargin := none, stopTimer := 0
    stopMark := none, recovery := seconds * 1000 }

theorem pump_stopEnded_self (s : State) (p : PumpId) :
    (s.stopEnded p).pump p = (s.pump p).stopDone (s.recoverySeconds p) := by
  unfold State.stopEnded
  dsimp only
  rw [State.pump_complete, State.pump_notify, pump_rest_self, State.pump_onPump_self, ← recoveryTime_pump]
  simp only [Pump.stopDone, Nat.mul_eq_zero, OfNat.ofNat_ne_zero, or_false]

theorem pump_stopEnded_other (other : x ≠ p) : (s.stopEnded p).pump x = s.pump x := by
  unfold State.stopEnded
  dsimp only
  rw [State.pump_complete, State.pump_notify, pump_rest_other other, State.pump_onPump, if_neg other.symm]

/-! ## Stop orders (R122) -/

/-- A stop order to a pump that is not in RUNNING is none. -/
theorem orderStop_idle (still : (s.pump p).state ≠ .running) (o : StopOrigin) (m : Option Nat) : s.orderStop p o m = s :=
  if_neg still

/-- The part after a stop order before PFB is read. -/
def State.stopBegun (s : State) (p : PumpId) (o : StopOrigin) (m : Option Nat) : State :=
  ((s.enterPump p .stopping).onPump p fun q => { q with stopTimer := 0, stopOrigin := some o, stopMark := m }).publishRunning

theorem orderStop_running (running : (s.pump p).state = .running) (o : StopOrigin) (m : Option Nat) :
    s.orderStop p o m = if (s.pump p).feedback then s.stopBegun p o m else (s.stopBegun p o m).stopEnded p := if_pos running

theorem pump_stopBegun_self (s : State) (p : PumpId) (o : StopOrigin) (m : Option Nat) :
    (s.stopBegun p o m).pump p = (s.pump p).stopOrdered o m := by
  rw [State.stopBegun, State.pump_publishRunning, State.pump_onPump_self, State.pump_enterPump_self]
  rfl

theorem pump_stopBegun_other (other : x ≠ p) (o : StopOrigin) (m : Option Nat) : (s.stopBegun p o m).pump x = s.pump x := by
  rw [State.stopBegun, State.pump_publishRunning, State.pump_onPump, if_neg other.symm, State.pump_enterPump,
    if_neg other.symm]

/-- With PFB true the pump stays in STOPPING. -/
theorem pump_orderStop_fed (running : (s.pump p).state = .running) (feedback : (s.pump p).feedback = true) (o : StopOrigin)
    (m : Option Nat) : (s.orderStop p o m).pump p = (s.pump p).stopOrdered o m := by
  rw [orderStop_running running, if_pos feedback, pump_stopBegun_self]

theorem stopBegun_duty (s : State) (p : PumpId) (o : StopOrigin) (m : Option Nat) :
    s.DutyFrame (fun y => y = p) (s.stopBegun p o m) :=
  have entered := s.enterPump_duty (P := fun y => y = p) .stopping rfl
  have ordered := State.onPump_duty (P := fun y => y = p) p
    (fun q => { q with stopTimer := 0, stopOrigin := some o, stopMark := m }) (s.enterPump p .stopping) rfl fun _ => rfl
  (entered.trans ordered).trans (State.publishRunning_duty _ _)

theorem DutyFrame_recoverySeconds {P : PumpId → Prop} (h : s.DutyFrame P t) (p : PumpId) :
    t.recoverySeconds p = s.recoverySeconds p := by
  have cls : (t.pump p).cls = (s.pump p).cls := (congrArg Pump.cls (h.pump.pumps p) :)
  have large : t.pdc.recoveryLarge = s.pdc.recoveryLarge := (congrArg Pdc.recoveryLarge h.pump.pdc :)
  have small : t.pdc.recoverySmall = s.pdc.recoverySmall := (congrArg Pdc.recoverySmall h.pump.pdc :)
  rw [State.recoverySeconds, State.recoverySeconds, cls, large, small]

/-- With PFB false the stop ends as it is ordered. -/
theorem pump_orderStop_unfed (running : (s.pump p).state = .running) (feedback : (s.pump p).feedback = false)
    (o : StopOrigin) (m : Option Nat) :
    (s.orderStop p o m).pump p = ((s.pump p).stopOrdered o m).stopDone (s.recoverySeconds p) := by
  rw [orderStop_running running, feedback, if_neg (by decide), pump_stopEnded_self, pump_stopBegun_self,
    DutyFrame_recoverySeconds (stopBegun_duty s p o m)]

theorem pump_orderStop_other (other : x ≠ p) (o : StopOrigin) (m : Option Nat) : (s.orderStop p o m).pump x = s.pump x := by
  by_cases running : (s.pump p).state = .running
  · rw [orderStop_running running]
    split
    · rw [pump_stopBegun_other other]
    · rw [pump_stopEnded_other other, pump_stopBegun_other other]
  · rw [orderStop_idle running]

/-- A stop order leaves a pump that is not in RUNNING. -/
theorem pump_orderStop_still (still : (s.pump x).state ≠ .running) (o : StopOrigin) (m : Option Nat) :
    (s.orderStop p o m).pump x = s.pump x := by
  by_cases own : x = p
  · subst own; rw [orderStop_idle still]
  · exact pump_orderStop_other own o m

/-! ## The entry into FAILED (R118, R121, R122) -/

theorem pump_startEnded (s : State) (x : PumpId) : s.startEnded.pump x = s.pump x := rfl

theorem pump_endPair (s : State) (p x : PumpId) : (s.endPair p).pump x = s.pump x := rfl

/-- The part after an entry into FAILED, before what the end of a start, a run or a stop brings. -/
def State.failEntered (s : State) (p : PumpId) (c : FailCause) : State :=
  ((s.enterPump p .failed).onPump p fun q =>
      { q with
        cause := c, recovery := s.pdc.recoveryTime q.cls * 1000
        startTimer := 0, stopTimer := 0, startMark := none, stopMark := none })
    |>.notify .fault .pumpFailed (p.val + 1) 0 c.code (s.pdc.recoveryTime (s.pump p).cls : Nat)

theorem failPump_starting (starting : (s.pump p).state = .starting) (c : FailCause) :
    s.failPump p c = ((s.failEntered p c).startEnded.endPair p).complete (s.pump p).startMark 1 c.code := by
  unfold State.failPump
  dsimp only
  rw [starting]
  rfl

theorem failPump_running (running : (s.pump p).state = .running) (c : FailCause) :
    s.failPump p c = (s.failEntered p c).publishRunning := by
  unfold State.failPump
  dsimp only
  rw [running]
  rfl

theorem failPump_stopping (stopping : (s.pump p).state = .stopping) (c : FailCause) :
    s.failPump p c = (s.failEntered p c).complete (s.pump p).stopMark 1 c.code := by
  unfold State.failPump
  dsimp only
  rw [stopping]
  rfl

/-- The pumps are those of the entry into FAILED, whatever it ends. -/
theorem pump_failPump (s : State) (p x : PumpId) (c : FailCause) : (s.failPump p c).pump x = (s.failEntered p c).pump x := by
  cases state : (s.pump p).state
  case starting => rw [failPump_starting state, State.pump_complete, pump_endPair, pump_startEnded]
  case running => rw [failPump_running state, State.pump_publishRunning]
  case stopping => rw [failPump_stopping state, State.pump_complete]
  all_goals
    unfold State.failPump
    dsimp only
    rw [state]
    rfl

theorem pump_failPump_self (s : State) (p : PumpId) (c : FailCause) :
    (s.failPump p c).pump p = (s.pump p).failedWith c (s.recoverySeconds p) := by
  rw [pump_failPump, State.failEntered, State.pump_notify, State.pump_onPump_self, State.pump_enterPump_self,
    ← recoveryTime_pump]
  rfl

theorem pump_failPump_other (other : x ≠ p) (c : FailCause) : (s.failPump p c).pump x = s.pump x := by
  rw [pump_failPump, State.failEntered, State.pump_notify, State.pump_onPump, if_neg other.symm, State.pump_enterPump,
    if_neg other.symm]

/-! ## The entry into RUNNING (R120, R149, R150) -/

/-- The part after an entry into RUNNING, before the stops that waited for it. -/
def State.runBegun (s : State) (p : PumpId) : State :=
  (((s.enterPump p .running).onPump p fun q => { q with startTimer := 0, startMark := none, runTime := 0 }).notify .status
    .pumpStarted (p.val + 1) 0 (s.pump p).startOrigin.code (min (s.pump p).starts 32767 : Nat)).publishRunning.startEnded.complete
      (s.pump p).startMark 0 0

theorem enterRunning_eq (s : State) (p : PumpId) : s.enterRunning p =
    if ((s.runBegun p).changeoverStop p).lowLevelDue p then ((s.runBegun p).changeoverStop p).lowLevelStop p
    else (s.runBegun p).changeoverStop p := rfl

theorem pump_runBegun_self (s : State) (p : PumpId) : (s.runBegun p).pump p = { s.pump p with
    state := .running, run := true, startTimer := 0, startMark := none, runTime := 0 } := by
  rw [State.runBegun, State.pump_complete, pump_startEnded, State.pump_publishRunning, State.pump_notify,
    State.pump_onPump_self, State.pump_enterPump_self]
  rfl

theorem pump_runBegun_other (other : x ≠ p) : (s.runBegun p).pump x = s.pump x := by
  rw [State.runBegun, State.pump_complete, pump_startEnded, State.pump_publishRunning, State.pump_notify,
    State.pump_onPump, if_neg other.symm, State.pump_enterPump, if_neg other.symm]

theorem runBegun_duty (s : State) (p : PumpId) : s.DutyFrame (fun y => y = p) (s.runBegun p) := by
  have entered := s.enterPump_duty (P := fun y => y = p) .running rfl
  have cleared := State.onPump_duty (P := fun y => y = p) p
    (fun q => { q with startTimer := 0, startMark := none, runTime := 0 }) (s.enterPump p .running) rfl fun _ => rfl
  exact (entered.trans cleared).trans (State.notify_duty _ _ _ _ _ _ _ _) |>.trans (State.publishRunning_duty _ _)
    |>.trans (State.startEnded_duty _ _) |>.trans (State.complete_duty _ _ _ _ _)

theorem changeoverStop_none (none : ∀ pr, s.pdc.pair = some pr → pr.b ≠ p) : s.changeoverStop p = s := by
  unfold State.changeoverStop
  split
  · next pr pair => rw [if_neg (none pr pair)]
  · rfl

/-- The changeover stop is a stop order, or nothing (R149). -/
theorem changeoverStop_cases (s : State) (p : PumpId) :
    s.changeoverStop p = s ∨ ∃ w, s.changeoverStop p = (s.endPair p).orderStop w .changeover none := by
  unfold State.changeoverStop
  split
  · split
    · exact .inr ⟨_, rfl⟩
    · exact .inl rfl
  · exact .inl rfl

/-! ## The entry into STARTING (R120) -/

/-- The part after an entry into STARTING, before PTRP and PFB are read. -/
def State.startBegun (s : State) (e : StartEntry) : State :=
  (s.enterPump e.pump .starting).onPump e.pump fun q =>
    { q with starts := min (q.starts + 1) 65535, startTimer := 0, startOrigin := e.origin, startMark := e.mark }

theorem beginStart_eq (s : State) (e : StartEntry) : s.beginStart e =
    if (s.pump e.pump).trip then (s.startBegun e).failPump e.pump .tripped
    else if (s.pump e.pump).feedback then (s.startBegun e).enterRunning e.pump else s.startBegun e := rfl

theorem startBegun_duty (s : State) (e : StartEntry) : s.DutyFrame (fun y => y = e.pump) (s.startBegun e) := by
  have entered := s.enterPump_duty (P := fun y => y = e.pump) .starting rfl
  exact entered.trans (State.onPump_duty e.pump _ _ rfl fun _ => rfl)

theorem pump_startBegun_self (s : State) (e : StartEntry) : (s.startBegun e).pump e.pump = { s.pump e.pump with
    state := .starting, run := true, startTimer := 0, starts := min ((s.pump e.pump).starts + 1) 65535
    startOrigin := e.origin, startMark := e.mark } := by
  rw [State.startBegun, State.pump_onPump_self, State.pump_enterPump_self]
  rfl

theorem pump_startBegun_other {e : StartEntry} (other : x ≠ e.pump) : (s.startBegun e).pump x = s.pump x := by
  rw [State.startBegun, State.pump_onPump, if_neg other.symm, State.pump_enterPump, if_neg other.symm]

end Sys2Proof.Machine
end

section
/-! PROOFS. What the start arbiter's grants (R129, R130) and the duty evaluations (R143, R146, R148) keep: rules that
speak of their smallest pieces of work: for O38 to O42, O44 and O46. -/

namespace Sys2Proof.Machine

variable {s t : State} {p x : PumpId}

/-! ## The add decision and the search start startable pumps (R144, R148) -/

theorem startable_of_addChoice (h : s.addChoice = some p) : s.startable p = true := by
  unfold State.addChoice at h
  split at h
  · exact List.find?_some h
  · cases h

theorem startable_of_findPair {pr : Pair} (h : s.findPair = some pr) : s.startable pr.b = true := by
  unfold State.findPair at h
  split at h
  · obtain ⟨w, -, found⟩ := List.exists_of_findSome?_eq_some h
    obtain ⟨b, free, rfl⟩ := Option.map_eq_some_iff.1 found
    exact List.find?_some free
  · cases h

theorem startable_stopped (h : s.startable p = true) : (s.pump p).state = .stopped := by
  simp only [State.startable, Bool.and_eq_true, decide_eq_true_eq] at h
  tauto

theorem startable_unqueued (h : s.startable p = true) : s.pdc.queue.any (fun e => e.pump = p) = false := by
  simp only [State.startable, State.queued, Bool.and_eq_true, Bool.not_eq_true'] at h
  tauto

/-- An entry of origin DUTY joins the end of the start queue, and the arbiter evaluates (R128). -/
theorem joinStart_startable (h : s.startable p = true) : s.joinStart p .duty none =
    (s.onPdc fun d => { d with queue := d.queue ++ [⟨p, .duty, none, 0⟩] }).startArbiter :=
  if_neg (by rw [startable_unqueued h]; decide)

/-! ## The duty evaluations -/

/-- What one duty evaluation's steps keep, the evaluations after a piece of work keep. -/
theorem settle_keeps {I : State → Prop} (begins : ∀ t, I t → I (t.onPdc fun d => { d with evaluationDue := false }))
    (update : ∀ t k, I t → I (t.updateScope k))
    (adds : ∀ t p, t.pdc.mode = .auto → t.startable p = true → I t → I (t.joinStart p .duty none))
    (pairs : ∀ t pr, I t → I (t.onPdc fun d => { d with pair := some pr }))
    (ends : ∀ t, I t → I (t.onPdc fun d => { d with changeover := false })) (h : I s) : I s.settle := by
  have search (t : State) (auto : t.pdc.mode = .auto) (i : I t) : I t.searchChangeover := by
    unfold State.searchChangeover
    split
    · split
      · next pr found => exact adds _ pr.b auto (startable_of_findPair found) (pairs t pr i)
      · exact ends t i
    · exact i
  have evaluate (t : State) (i : I t) : I t.dutyEvaluate := by
    have scopes := List.foldlRecOn (motive := I) allScopes State.updateScope i fun u i k _ => update u k i
    unfold State.dutyEvaluate
    dsimp only
    split
    · exact scopes
    · next auto =>
      split
      · next p found => exact adds _ p auto (startable_of_addChoice found) scopes
      · exact search _ auto scopes
  have all (n : Nat) : ∀ t : State, I t → I (State.evaluations n t) := by
    induction n with
    | zero => exact fun _ i => i
    | succ n ih =>
      intro t i
      unfold State.evaluations
      split
      · exact ih _ (evaluate _ (begins t i))
      · exact i
  exact all 32 s h

/-- What the smallest pieces of work of the start arbiter and of the duty controller keep. -/
structure DutyKeeps (I : State → Prop) : Prop where
  quiet : ∀ (t : State) (k : Vector Scope 4) (c : Bool) (pr : Option Pair) (b : Bool), I t →
    I (t.onPdc fun d => { d with scopes := k, changeover := c, pair := pr, evaluationDue := b })
  complete : ∀ (t : State) (m : Option Nat) (r d : Nat), I t → I (t.complete m r d)
  order : ∀ (t : State) (p : PumpId) (o : StopOrigin), I t → I (t.orderStop p o none)
  take : ∀ (t : State) (q : List StartEntry), (∀ e ∈ q, e ∈ t.pdc.queue) → I t → I (t.onPdc fun d => { d with queue := q })
  append : ∀ (t : State) (p : PumpId), t.startable p = true → I t →
    I (t.onPdc fun d => { d with queue := d.queue ++ [⟨p, .duty, none, 0⟩] })
  start : ∀ (t : State) (e : StartEntry), (t.pump e.pump).state = .stopped → I t → I (t.beginStart e)

namespace DutyKeeps
variable {I : State → Prop} (rule : DutyKeeps I)
include rule

theorem evaluationFollows (h : I s) : I s.evaluationFollows :=
  rule.quiet s s.pdc.scopes s.pdc.changeover s.pdc.pair true h

theorem refuseStart (e : StartEntry) (c : Nat) (h : I s) : I (s.refuseStart e c) := by
  have told := rule.complete s e.mark 2 c h
  unfold State.refuseStart
  split
  · exact told
  · refine rule.evaluationFollows ?_
    exact rule.quiet _ _ _ ((s.complete e.mark 2 c).pdc.pair.filter fun pr => pr.b ≠ e.pump) _ told

theorem grantFrom (q : List StartEntry) : ∀ s : State, (∀ e ∈ q, e ∈ s.pdc.queue) → I s → I (State.grantFrom q s) := by
  induction q with
  | nil => exact fun s inside h => rule.take s [] inside h
  | cons e q ih =>
    intro s inside h
    have taken := rule.take s q (fun d hd => inside d (List.mem_cons_of_mem e hd)) h
    unfold State.grantFrom
    dsimp only
    split
    · next checks => exact rule.start _ e (State.grantCheck_none checks) taken
    · next check _ =>
      refine ih _ (fun d hd => ?_) (rule.refuseStart e check taken)
      rw [refuseStart_queue]
      exact hd

theorem startArbiter (h : I s) : I s.startArbiter := by
  unfold State.startArbiter
  split
  · exact rule.grantFrom _ s (fun _ he => he) h
  · exact h

theorem scope {k : ScopeId} {y : Scope} (h : I s) : I (s.onScope k fun _ => y) :=
  rule.quiet s (s.pdc.scopes.set k y) s.pdc.changeover s.pdc.pair s.pdc.evaluationDue h

theorem updateScope (k : ScopeId) (h : I s) : I (s.updateScope k) := by
  obtain ⟨y, same | ⟨p, o, ordered⟩⟩ := updateScope_cases s k
  · rw [same]; exact rule.scope h
  · rw [ordered]; exact rule.order _ p o (rule.scope h)

theorem settle (h : I s) : I s.settle :=
  settle_keeps (fun t i => rule.quiet t t.pdc.scopes t.pdc.changeover t.pdc.pair false i) (fun t k i => rule.updateScope k i)
    (fun t p _ fit i => by
      rw [joinStart_startable fit]
      exact rule.startArbiter (rule.append t p fit i))
    (fun t pr i => rule.quiet t t.pdc.scopes t.pdc.changeover (some pr) t.pdc.evaluationDue i)
    (fun t i => rule.quiet t t.pdc.scopes false t.pdc.pair t.pdc.evaluationDue i) h

end DutyKeeps

/-! ## One pump through the duty evaluations -/

/-- A pump after a stop order of the duty controller. -/
def Pump.afterOrder (q : Pump) (o : StopOrigin) (seconds : Nat) : Pump :=
  if q.state = .running then
    if q.feedback then q.stopOrdered o none else (q.stopOrdered o none).stopDone seconds
  else q

theorem pump_orderStop_self (s : State) (p : PumpId) (o : StopOrigin) :
    (s.orderStop p o none).pump p = (s.pump p).afterOrder o (s.recoverySeconds p) := by
  unfold Pump.afterOrder
  split
  · next running =>
    split
    · next fed => exact pump_orderStop_fed running fed o none
    · next unfed => exact pump_orderStop_unfed running (by simpa using unfed) o none
  · next still => rw [orderStop_idle still]

theorem afterOrder_still {q : Pump} (still : q.state ≠ .running) (o : StopOrigin) (seconds : Nat) :
    q.afterOrder o seconds = q := if_neg still

/-- A stop order for any pump, as one pump sees it. -/
theorem orderStop_orders (s : State) (w p : PumpId) (o : StopOrigin) :
    (s.orderStop w o none).pump p = s.pump p
      ∨ (s.orderStop w o none).pump p = (s.pump p).afterOrder o (s.recoverySeconds p) := by
  by_cases own : p = w
  · subst own; exact .inr (pump_orderStop_self s p o)
  · exact .inl (pump_orderStop_other own o none)

/-- An entry of another pump into RUNNING orders at most a stop of this one, for a changeover (R149). -/
theorem enterRunning_orders {y : PumpId} (other : p ≠ y) :
    (s.enterRunning y).pump p = s.pump p
      ∨ ∃ o : StopOrigin, (s.enterRunning y).pump p = (s.pump p).afterOrder o (s.recoverySeconds p) := by
  have begun := pump_runBegun_other (s := s) other
  have recovery : ((s.runBegun y).endPair y).recoverySeconds p = s.recoverySeconds p :=
    DutyFrame_recoverySeconds ((runBegun_duty s y).trans (State.endPair_duty _ y _)) p
  have changed : ((s.runBegun y).changeoverStop y).pump p = s.pump p
      ∨ ∃ o : StopOrigin, ((s.runBegun y).changeoverStop y).pump p = (s.pump p).afterOrder o (s.recoverySeconds p) := by
    obtain same | ⟨w, ordered⟩ := changeoverStop_cases (s.runBegun y) y
    · rw [same]; exact .inl begun
    · rw [ordered, ← begun, ← pump_endPair (s.runBegun y) y p, ← recovery]
      exact (orderStop_orders _ w p .changeover).imp_right fun h => ⟨.changeover, h⟩
  rw [enterRunning_eq]
  split
  · rw [State.lowLevelStop, pump_orderStop_other other, State.pump_notify]
    exact changed
  · exact changed

/-- A start of another pump orders at most a stop of this one. -/
theorem beginStart_orders {e : StartEntry} (other : p ≠ e.pump) :
    (s.beginStart e).pump p = s.pump p
      ∨ ∃ o : StopOrigin, (s.beginStart e).pump p = (s.pump p).afterOrder o (s.recoverySeconds p) := by
  have entered := startBegun_duty s e
  have same := pump_startBegun_other (s := s) other
  rw [beginStart_eq]
  split
  · left; rw [pump_failPump_other other, same]
  · split
    · rw [← same, ← DutyFrame_recoverySeconds entered]
      exact enterRunning_orders other
    · exact .inl same

/-- What holds of a pump that no evaluation starts, and is kept by a stop order, is kept by the duty evaluations. -/
theorem settle_pump {J : Pump → Prop} (moves : ∀ q, J q → q.state ≠ .stopped)
    (ordered : ∀ q o, J q → J (q.afterOrder o (s.recoverySeconds p))) (h : J (s.pump p)) : J (s.settle.pump p) := by
  have rule : DutyKeeps fun t => s.DutyFrame (fun _ => True) t ∧ J (t.pump p) :=
    { quiet := fun t _ _ _ _ ⟨frame, i⟩ => ⟨frame.trans (t.onPdc_duty _ _ rfl rfl), i⟩
      complete := fun t m r d ⟨frame, i⟩ => ⟨frame.trans (t.complete_duty m r d _), by rw [State.pump_complete]; exact i⟩
      order := fun t w o ⟨frame, i⟩ => by
        refine ⟨frame.trans (t.orderStop_duty w o none _), ?_⟩
        obtain same | order := orderStop_orders t w p o
        · rw [same]; exact i
        · rw [order, DutyFrame_recoverySeconds frame]; exact ordered _ o i
      take := fun t _ _ ⟨frame, i⟩ => ⟨frame.trans (t.onPdc_duty _ _ rfl rfl), i⟩
      append := fun t _ _ ⟨frame, i⟩ => ⟨frame.trans (t.onPdc_duty _ _ rfl rfl), i⟩
      start := fun t e stopped ⟨frame, i⟩ => by
        refine ⟨frame.trans (t.beginStart_duty e stopped _), ?_⟩
        obtain same | ⟨o, order⟩ := beginStart_orders (s := t) (p := p) (e := e) fun own => moves _ i (own ▸ stopped)
        · rw [same]; exact i
        · rw [order, DutyFrame_recoverySeconds frame]; exact ordered _ o i }
  exact (rule.settle ⟨.refl _ s, h⟩).2

/-- A pump in neither RUNNING nor STOPPED is left by the duty evaluations. -/
theorem settle_pump_still (running : (s.pump p).state ≠ .running) (stopped : (s.pump p).state ≠ .stopped) :
    s.settle.pump p = s.pump p := (s.settle_duty _).pump_of_still p running stopped

/-! ## The start queue through a start (R128) -/

theorem notify_startQueue (s : State) (c : NoticeClass) (k : NoticeKind) (u g : Nat) (v w : Int) :
    (s.notify c k u g v w).pdc.queue = s.pdc.queue := rfl

theorem failEntered_startQueue (s : State) (p : PumpId) (c : FailCause) :
    (s.failEntered p c).pdc.queue = s.pdc.queue := rfl

theorem failPump_startQueue (s : State) (p : PumpId) (c : FailCause) : (s.failPump p c).pdc.queue = s.pdc.queue := by
  cases state : (s.pump p).state
  case starting => rw [failPump_starting state, State.complete_pdc]; rfl
  case running => rw [failPump_running state, publishRunning_startQueue]; rfl
  case stopping => rw [failPump_stopping state, State.complete_pdc]; rfl
  all_goals
    unfold State.failPump
    dsimp only
    rw [state]
    rfl

theorem runBegun_startQueue (s : State) (p : PumpId) : (s.runBegun p).pdc.queue = s.pdc.queue := by
  rw [State.runBegun, State.complete_pdc]
  exact publishRunning_startQueue _

theorem changeoverStop_startQueue (s : State) (p : PumpId) : (s.changeoverStop p).pdc.queue = s.pdc.queue := by
  obtain same | ⟨w, ordered⟩ := changeoverStop_cases s p
  · rw [same]
  · rw [ordered, orderStop_startQueue]; rfl

theorem enterRunning_startQueue (s : State) (p : PumpId) : (s.enterRunning p).pdc.queue = s.pdc.queue := by
  have changed : ((s.runBegun p).changeoverStop p).pdc.queue = s.pdc.queue := by
    rw [changeoverStop_startQueue, runBegun_startQueue]
  rw [enterRunning_eq]
  split
  · rw [State.lowLevelStop, orderStop_startQueue, notify_startQueue, changed]
  · exact changed

theorem beginStart_startQueue (s : State) (e : StartEntry) : (s.beginStart e).pdc.queue = s.pdc.queue := by
  rw [beginStart_eq]
  split
  · rw [failPump_startQueue]; rfl
  · split
    · rw [enterRunning_startQueue]; rfl
    · rfl

/-! ## A start refused (R130, R131) -/

theorem refuseStart_done {e : StartEntry} {m : Nat} {i : SlotId} (mark : e.mark = some m) (follows : s.Follows m i)
    (outside : s.slp.fallback = false) (c : Nat) : s.DoneWith (s.refuseStart e c) i 2 c := by
  have done : s.DoneWith (s.complete e.mark 2 c) i 2 c := mark ▸ complete_done follows outside 2 c
  unfold State.refuseStart
  split
  · exact done
  · exact done

/-! ## Duty evaluations in MANUAL -/

/-- In MANUAL the duty evaluations leave a pump that is not in RUNNING: they start none. -/
theorem settle_pump_manual (manual : s.pdc.mode = .manual) (still : (s.pump p).state ≠ .running) :
    s.settle.pump p = s.pump p :=
  manual_settle (I := fun t => t.pump p = s.pump p) (fun _ i => i) (fun _ _ _ i => i)
    (fun t w o i => (pump_orderStop_still (by rw [i]; exact still) o none).trans i) manual rfl

end Sys2Proof.Machine
end

section
/-! PROOFS. ENABLE PUMP, DISABLE PUMP, CLEAR PUMP and RESET HOURS (R123, R125, R126, R127): O46. -/

namespace Sys2Proof.Machine

variable {s t : State} {v : Nat} {p : PumpId} {m : Nat} {i : SlotId}

/-! ## What each request is answered -/

theorem pumpCommand_refused {c : Instr} (h : c ∈ [Instr.enablePump (.args v), .disablePump (.args v), .clearPump (.args v),
    .resetHours (.args v)]) (takes : s.Takes c) (outside : v = 0 ∨ 8 < v) : exec c s = .next (s.reply .badArgument []) := by
  have none := index1_none outside
  simp only [List.mem_cons, List.not_mem_nil, or_false] at h
  obtain rfl | rfl | rfl | rfl := h
  all_goals
    refine (congrArg Host.Outcome.next (args_takes takes v _)).trans ?_
    rw [none]
    rfl

theorem resetHours_taken (takes : s.Takes (.resetHours (.args (p.val + 1)))) : exec (.resetHours (.args (p.val + 1))) s =
    .next ((s.onPump p fun q => { q with runMs := 0, starts := 0 }).reply .ok []) := by
  refine (congrArg Host.Outcome.next (args_takes takes _ _)).trans ?_
  rw [index1_succ]

section Enable
variable (takes : s.Takes (.enablePump (.args (p.val + 1))))
include takes

theorem enablePump_other (other : (s.pump p).state ≠ .disabled) :
    exec (.enablePump (.args (p.val + 1))) s = .next (s.reply .ok []) := by
  refine (congrArg Host.Outcome.next (args_takes takes _ _)).trans ?_
  rw [index1_succ]
  dsimp only
  split
  · next disabled => exact absurd disabled other
  all_goals rfl

theorem enablePump_disabled (disabled : (s.pump p).state = .disabled) : exec (.enablePump (.args (p.val + 1))) s =
    .next ((((s.onPump p fun q => { q with enabled := true }).rest p).settle).reply .ok []) := by
  refine (congrArg Host.Outcome.next (args_takes takes _ _)).trans ?_
  rw [index1_succ]
  dsimp only
  rw [disabled]

end Enable

section Disable
variable (takes : s.Takes (.disablePump (.args (p.val + 1))))
include takes

theorem disablePump_disabled (disabled : (s.pump p).state = .disabled) :
    exec (.disablePump (.args (p.val + 1))) s = .next (s.reply .ok []) := by
  refine (congrArg Host.Outcome.next (args_takes takes _ _)).trans ?_
  rw [index1_succ]
  dsimp only
  rw [disabled]

theorem disablePump_moving (moving : (s.pump p).state = .starting ∨ (s.pump p).state = .running
    ∨ (s.pump p).state = .stopping) : exec (.disablePump (.args (p.val + 1))) s = .next (s.reply .state []) := by
  refine (congrArg Host.Outcome.next (args_takes takes _ _)).trans ?_
  rw [index1_succ]
  rcases moving with state | state | state <;> dsimp only <;> rw [state] <;> rfl

theorem disablePump_taken (rests : (s.pump p).state = .recovering ∨ (s.pump p).state = .stopped
    ∨ (s.pump p).state = .failed) :
    exec (.disablePump (.args (p.val + 1))) s = .next ((s.disablePump p).settle.reply .ok []) := by
  refine (congrArg Host.Outcome.next (args_takes takes _ _)).trans ?_
  rw [index1_succ]
  rcases rests with state | state | state <;> dsimp only <;> rw [state]

end Disable

section Clear
variable (takes : s.Takes (.clearPump (.args (p.val + 1))))
include takes

theorem clearPump_refused (refused : (s.pump p).state ≠ .failed ∨ (s.pump p).trip = true) :
    exec (.clearPump (.args (p.val + 1))) s = .next (s.reply .state []) := by
  refine (congrArg Host.Outcome.next (args_takes takes _ _)).trans ?_
  rw [index1_succ]
  dsimp only
  split
  · next failed =>
    rw [if_pos (refused.resolve_left fun other => other failed)]
    rfl
  all_goals rfl

theorem clearPump_taken (failed : (s.pump p).state = .failed) (clear : (s.pump p).trip = false) :
    exec (.clearPump (.args (p.val + 1))) s = .next ((s.rest p).settle.reply .ok []) := by
  refine (congrArg Host.Outcome.next (args_takes takes _ _)).trans ?_
  rw [index1_succ]
  dsimp only
  rw [failed]
  dsimp only
  rw [if_neg (by rw [clear]; decide)]

end Clear

/-! ## Rest, and the evaluations that follow -/

/-- A pump that enters RECOVERING stays in it through the evaluations. -/
theorem rest_settled (counts : (s.pump p).recovery ≠ 0) : (s.rest p).settle.pump p =
    { s.pump p with state := .recovering, run := false, lowMargin := none } := by
  have rests : (s.rest p).pump p = { s.pump p with state := .recovering, run := false, lowMargin := none } := by
    rw [pump_rest_self, if_neg counts]
  rw [settle_pump_still (by rw [rests]; nofun) (by rw [rests]; nofun), rests]

/-- A pump that passes on to STOPPED stays in it in MANUAL. -/
theorem rest_settled_manual (manual : s.pdc.mode = .manual) (done : (s.pump p).recovery = 0) : (s.rest p).settle.pump p =
    { s.pump p with state := .stopped, run := false, lowMargin := none } := by
  have rests : (s.rest p).pump p = { s.pump p with state := .stopped, run := false, lowMargin := none } := by
    rw [pump_rest_self, if_pos done]
  have mode : (s.rest p).pdc.mode = .manual := manual
  rw [settle_pump_manual mode (by rw [rests]; nofun), rests]

theorem rest_settled_duty (s : State) (p : PumpId) : s.DutyFrame (fun x => x = p) (s.rest p).settle :=
  (s.rest_duty (P := fun x => x = p) rfl).trans (State.settle_duty _ _)

/-! ## A pump disabled (R126) -/

/-- The part after the pump's start queue entry is removed with NOT_PERMITTED. -/
def State.entryRefused (s : State) (p : PumpId) : State :=
  match s.startEntry p with
  | some e => (s.leaveStart p).refuseStart e 1
  | none => s

theorem disablePump_eq (s : State) (p : PumpId) : s.disablePump p =
    ((s.entryRefused p).onPump p fun q => { q with enabled := false }).enterPump p .disabled := rfl

theorem entryRefused_duty (s : State) (p : PumpId) (P : PumpId → Prop) : s.DutyFrame P (s.entryRefused p) := by
  unfold State.entryRefused
  split
  · exact (s.leaveStart_duty p P).trans (State.refuseStart_duty _ _ _ P)
  · exact .refl P s

theorem pump_entryRefused (s : State) (p x : PumpId) : (s.entryRefused p).pump x = s.pump x := by
  unfold State.entryRefused
  split
  · rw [refuseStart_pump]; rfl
  · rfl

theorem entryRefused_unqueued (s : State) (p : PumpId) : ∀ e ∈ (s.entryRefused p).pdc.queue, e.pump ≠ p := by
  unfold State.entryRefused
  split
  · rw [refuseStart_queue]
    intro e he
    have left : e ∈ s.pdc.queue.filter fun e => e.pump ≠ p := he
    simpa using (List.mem_filter.1 left).2
  · next absent => simpa [State.startEntry] using absent

theorem pump_disablePump (s : State) (p : PumpId) : (s.disablePump p).pump p =
    { s.pump p with enabled := false, state := .disabled, run := false, lowMargin := none } := by
  rw [disablePump_eq, State.pump_enterPump_self, State.pump_onPump_self, pump_entryRefused]
  rfl

/-- An outcome reads and changes nothing of the PDC. -/
theorem complete_onPdc (s : State) (f : Pdc → Pdc) (k : Option Nat) (r d : Nat) :
    (s.onPdc f).complete k r d = (s.complete k r d).onPdc f := by
  unfold State.complete
  cases k with
  | none => rfl
  | some n =>
    dsimp only [State.onPdc_slp]
    cases allSlots.find? fun j => followedBy n s.slp.slots[j] <;> rfl

/-- The refusal of the entry reads and changes nothing of the pumps. -/
theorem entryRefused_onPump (s : State) (p x : PumpId) (f : Pump → Pump) :
    (s.onPump x f).entryRefused p = (s.entryRefused p).onPump x f := by
  have entry : (s.onPump x f).startEntry p = s.startEntry p := rfl
  unfold State.entryRefused
  rw [entry]
  cases s.startEntry p with
  | none => rfl
  | some e =>
    have told := complete_onPdc (s.leaveStart p) (fun d => { d with pumps := d.pumps.set x (f d.pumps[x]) }) e.mark 2 1
    unfold State.refuseStart
    dsimp only
    cases e.origin with
    | host => exact told
    | duty => exact congrArg (fun t : State => (t.endPair e.pump).evaluationFollows) told

theorem disablePump_duty (s : State) (p : PumpId) :
    (s.onPump p fun q => { q with enabled := false }).DutyFrame (fun x => x = p) (s.disablePump p).settle := by
  rw [disablePump_eq, ← entryRefused_onPump]
  have entered := ((s.onPump p fun q => { q with enabled := false }).entryRefused p).enterPump_duty (P := fun x => x = p)
    .disabled rfl
  exact ((entryRefused_duty _ p _).trans entered).trans (State.settle_duty _ _)

/-- No evaluation queues a start of a pump that is DISABLED. -/
theorem settle_unqueued (disabled : (s.pump p).state = .disabled) (free : ∀ e ∈ s.pdc.queue, e.pump ≠ p) :
    ∀ e ∈ s.settle.pdc.queue, e.pump ≠ p := by
  have rule : DutyKeeps fun t => (t.pump p).state = .disabled ∧ ∀ e ∈ t.pdc.queue, e.pump ≠ p :=
    { quiet := fun _ _ _ _ _ i => i
      complete := fun t k r d i => by rw [State.pump_complete, State.complete_pdc]; exact i
      order := fun t w o ⟨off, i⟩ => by
        rw [pump_orderStop_still (by rw [off]; nofun), orderStop_startQueue]
        exact ⟨off, i⟩
      take := fun t q inside ⟨off, i⟩ => ⟨off, fun e he => i e (inside e he)⟩
      append := fun t w fit ⟨off, i⟩ => by
        refine ⟨off, fun e he => ?_⟩
        obtain old | new := List.mem_append.1 he
        · exact i e old
        · obtain rfl := List.mem_singleton.1 new
          rintro rfl
          cases (startable_stopped fit).symm.trans off
      start := fun t e stopped ⟨off, i⟩ => by
        have other : p ≠ e.pump := fun own => by rw [own, stopped] at off; cases off
        have same : (t.beginStart e).pump p = t.pump p := by
          obtain same | ⟨o, order⟩ := beginStart_orders (s := t) other
          · exact same
          · rw [order, afterOrder_still (by rw [off]; nofun)]
        rw [same, beginStart_startQueue]
        exact ⟨off, i⟩ }
  exact (rule.settle ⟨disabled, free⟩).2

theorem disablePump_unqueued (s : State) (p : PumpId) : ∀ e ∈ (s.disablePump p).settle.pdc.queue, e.pump ≠ p :=
  settle_unqueued (by rw [pump_disablePump]) (entryRefused_unqueued s p)

/-- The outcome NOT_PERMITTED, check 1, reaches the slot that follows the entry removed. -/
theorem disablePump_done {e : StartEntry} (differ : s.StartsDiffer) (mem : e ∈ s.pdc.queue) (own : e.pump = p)
    (mark : e.mark = some m) (follows : s.Follows m i) (outside : s.slp.fallback = false) :
    s.DoneWith (s.disablePump p).settle i 2 1 := by
  have entry : s.startEntry p = some e := by
    unfold State.startEntry
    cases found : s.pdc.queue.find? (fun d => d.pump = p) with
    | none => exact absurd own (by simpa using List.find?_eq_none.1 found e mem)
    | some d =>
      have on : d.pump = p := by simpa using List.find?_some found
      rw [List.inj_on_of_nodup_map differ (List.mem_of_find?_eq_some found) mem (on.trans own.symm)]
  have refused : s.DoneWith (s.entryRefused p) i 2 1 := by
    unfold State.entryRefused
    rw [entry]
    exact refuseStart_done (s := s.leaveStart p) mark follows outside 1
  have entered : (s.entryRefused p).LinkFrame (s.disablePump p) := .of_eq rfl
  exact (refused.link entered).link ((s.disablePump p).settle_duty fun _ => False).link

/-- Settles O46, by the pump's state. -/
theorem pumpCommandsActAtOnce : Obligations.PumpCommandsActAtOnce := by
  intro s v p
  refine ⟨fun c mem takes outside => pumpCommand_refused mem takes outside, ?_, ?_, ?_, ?_⟩
  · rintro rfl takes
    exact resetHours_taken takes
  · rintro rfl takes
    refine ⟨enablePump_other takes, fun disabled => ⟨_, enablePump_disabled takes disabled, ?_, fun counts => ?_, ?_⟩⟩
    · exact ((rest_settled_duty _ p).enabled p).trans (by rw [State.pump_onPump_self])
    · rw [rest_settled (by rwa [State.pump_onPump_self]), State.pump_onPump_self]
    · exact rest_settled_duty _ p
  · rintro rfl takes
    refine ⟨disablePump_disabled takes, disablePump_moving takes, fun rests => ⟨_, disablePump_taken takes rests, ?_,
      disablePump_unqueued s p, fun e m i differ mem own mark => disablePump_done differ mem own mark, disablePump_duty s p⟩⟩
    rw [settle_pump_still (by rw [pump_disablePump]; nofun) (by rw [pump_disablePump]; nofun), pump_disablePump]
  · rintro rfl takes
    exact ⟨clearPump_refused takes, fun failed clear => ⟨_, clearPump_taken takes failed clear, rest_settled,
      fun done manual => rest_settled_manual manual done, rest_settled_duty s p⟩⟩

end Sys2Proof.Machine
end

section
/-! PROOFS. What a stop order leaves of the PDC beside its pump, and so what the duty evaluations in MANUAL leave of it; and
duty evaluations that neither order a stop nor start a pump: for O38 to O42 and O44. -/

namespace Sys2Proof.Machine

variable {s t : State} {p x : PumpId}

/-! ## Starts, the spacing and the changeover (R128, R129, R148) -/

/-- The start queue, the start spacing, the changeover mark and the changeover pair. -/
def Pdc.starts (d : Pdc) : List StartEntry × Option Nat × Bool × Bool × Option Pair :=
  (d.queue, d.sinceStart, d.spacingTaken, d.changeover, d.pair)

theorem fields_of_starts {c d : Pdc} (h : c.starts = d.starts) : c.queue = d.queue ∧ c.sinceStart = d.sinceStart
    ∧ c.spacingTaken = d.spacingTaken ∧ c.changeover = d.changeover ∧ c.pair = d.pair := by
  simpa only [Pdc.starts, Prod.mk.injEq] using h

theorem publishHeld_starts (s : State) : s.publishHeld.pdc.starts = s.pdc.starts := by
  unfold State.publishHeld
  split <;> rfl

theorem publishRunning_starts (s : State) : s.publishRunning.pdc.starts = s.pdc.starts := by
  unfold State.publishRunning
  split
  · rfl
  · rw [State.reevaluate, publishHeld_starts, tryGrant_pdc, tryGrant_pdc, State.onSwc_pdc]

theorem stopEnded_starts (s : State) (p : PumpId) : (s.stopEnded p).pdc.starts = s.pdc.starts := by
  unfold State.stopEnded
  dsimp only
  rw [State.complete_pdc]
  rfl

theorem orderStop_starts (s : State) (p : PumpId) (o : StopOrigin) (m : Option Nat) :
    (s.orderStop p o m).pdc.starts = s.pdc.starts := by
  have begun : (s.stopBegun p o m).pdc.starts = s.pdc.starts := by rw [State.stopBegun, publishRunning_starts]; rfl
  by_cases running : (s.pump p).state = .running
  · rw [orderStop_running running]
    split
    · exact begun
    · rw [stopEnded_starts, begun]
  · rw [orderStop_idle running]

/-- In MANUAL the duty evaluations start nothing (R136). -/
theorem settle_starts (manual : s.pdc.mode = .manual) : s.settle.pdc.starts = s.pdc.starts :=
  manual_settle (I := fun t => t.pdc.starts = s.pdc.starts) (fun _ i => i) (fun _ _ _ i => i)
    (fun t p o i => (orderStop_starts t p o none).trans i) manual rfl

/-! ## Evaluations that order no stop and start no pump -/

/-- A part whose duty evaluations change no more than the start queue, the scopes, the changeover and its pair. -/
structure State.Quiet (s t : State) : Prop where
  due : t.NoDueStop
  same : ∃ (q : List StartEntry) (k : Vector Scope 4) (c : Bool) (pr : Option Pair) (b : Bool),
    t = s.onPdc fun d => { d with queue := q, scopes := k, changeover := c, pair := pr, evaluationDue := b }

/-- What bars every start of the duty controller: MANUAL, no pump STOPPED, or the start spacing. -/
def State.Barred (s : State) : Prop :=
  s.pdc.mode = .manual ∨ (∀ p, (s.pump p).state ≠ .stopped) ∨ s.pdc.spacingOut = false

namespace State.Quiet

theorem refl (due : s.NoDueStop) : s.Quiet s :=
  ⟨due, s.pdc.queue, s.pdc.scopes, s.pdc.changeover, s.pdc.pair, s.pdc.evaluationDue, rfl⟩

variable (h : s.Quiet t)
include h

theorem blocks : t.lau = s.lau ∧ t.twu = s.twu ∧ t.swc = s.swc ∧ t.slp = s.slp := by
  obtain ⟨-, q, k, c, pr, b, rfl⟩ := h
  exact ⟨rfl, rfl, rfl, rfl⟩

theorem pump (p : PumpId) : t.pump p = s.pump p := by
  obtain ⟨-, q, k, c, pr, b, rfl⟩ := h
  rfl

theorem spacing : (t.pdc.mode, t.pdc.sinceStart, t.pdc.spacingOut) = (s.pdc.mode, s.pdc.sinceStart, s.pdc.spacingOut) := by
  obtain ⟨-, q, k, c, pr, b, rfl⟩ := h
  rfl

theorem queue {q : List StartEntry} : s.Quiet (t.onPdc fun d => { d with queue := q }) := by
  obtain ⟨due, _, k, c, pr, b, rfl⟩ := h
  exact ⟨due, q, k, c, pr, b, rfl⟩

theorem pair {pr : Option Pair} : s.Quiet (t.onPdc fun d => { d with pair := pr }) := by
  obtain ⟨due, q, k, c, _, b, rfl⟩ := h
  exact ⟨due, q, k, c, pr, b, rfl⟩

theorem changeover {c : Bool} : s.Quiet (t.onPdc fun d => { d with changeover := c }) := by
  obtain ⟨due, q, k, _, pr, b, rfl⟩ := h
  exact ⟨due, q, k, c, pr, b, rfl⟩

theorem evaluationDue {b : Bool} : s.Quiet (t.onPdc fun d => { d with evaluationDue := b }) := by
  obtain ⟨due, q, k, c, pr, _, rfl⟩ := h
  exact ⟨due, q, k, c, pr, b, rfl⟩

theorem updateScope (k : ScopeId) : s.Quiet (t.updateScope k) := by
  obtain ⟨x, none, acts⟩ := updateScope_calm (k := k) h.due
  rw [acts]
  refine ⟨fun j => ?_, ?_⟩
  · rw [State.scope_onScope]
    split
    · exact none
    · exact h.due j
  · obtain ⟨-, q, v, c, pr, b, rfl⟩ := h
    exact ⟨q, v.set k x, c, pr, b, rfl⟩

/-- A start that would join is barred. -/
theorem joinStart (barred : s.Barred) {p : PumpId} (auto : t.pdc.mode = .auto) (fit : t.startable p = true) :
    s.Quiet (t.joinStart p .duty none) := by
  obtain ⟨mode, -, out⟩ : t.pdc.mode = s.pdc.mode ∧ t.pdc.sinceStart = s.pdc.sinceStart
    ∧ t.pdc.spacingOut = s.pdc.spacingOut := by simpa using h.spacing
  rw [joinStart_startable fit]
  rcases barred with manual | idle | waits
  · cases (auto.symm.trans mode).trans manual
  · exact absurd ((h.pump p ▸ startable_stopped fit :)) (idle p)
  · have spaced : (t.onPdc fun d => { d with queue := d.queue ++ [⟨p, .duty, none, 0⟩] }).pdc.spacingOut = false :=
      out.trans waits
    have none : (t.onPdc fun d => { d with queue := d.queue ++ [⟨p, .duty, none, 0⟩] }).startArbiter =
        t.onPdc fun d => { d with queue := d.queue ++ [⟨p, .duty, none, 0⟩] } := if_neg (by rw [spaced]; simp)
    rw [none]
    exact h.queue

end State.Quiet

theorem settle_quiet (due : s.NoDueStop) (barred : s.Barred) : s.Quiet s.settle :=
  settle_keeps (I := s.Quiet) (fun _ h => h.evaluationDue) (fun _ k h => h.updateScope k)
    (fun _ _ auto fit h => h.joinStart barred auto fit) (fun _ _ h => h.pair) (fun _ h => h.changeover) (.refl due)

end Sys2Proof.Machine
end

section
/-! PROOFS. SET DEMAND, SET DUTY MODE and SET DUTY ORDER (R134, R135, R136, R140, R143, R148, R152): O44. -/

namespace Sys2Proof.Machine

variable {s t : State} {v : Nat}

/-! ## SET DEMAND (R140) -/

theorem clampNat_demand (v : Nat) : clampNat 0 8 v = min v 8 := by
  rw [clampNat_eq (by decide), heldTo, Nat.zero_max, Nat.min_comm]

/-- The part with the demand in force, an evaluation being due. -/
def State.demanded (s : State) (d : Nat) : State := { s with pdc := { s.pdc with demand := d, evaluationDue := true } }

/-- The part after SET DEMAND: the demand in force changes nothing. -/
def State.demandTaken (s : State) (d : Nat) : State := if d = s.pdc.demand then s else (s.demanded d).settle

theorem setDemand_fallback (takes : s.Takes (.setDemand (.args v))) (fallback : s.slp.fallback = true) :
    exec (.setDemand (.args v)) s = .next (s.reply .inFallback []) := by
  refine (congrArg Host.Outcome.next (args_takes takes v _)).trans ?_
  rw [outsideFallback, if_pos fallback]
  rfl

theorem setDemand_taken (takes : s.Takes (.setDemand (.args v))) (outside : s.slp.fallback = false) :
    exec (.setDemand (.args v)) s = .next ((s.demandTaken (min v 8)).reply (if v ≤ 8 then .ok else .okAdjusted)
      (if v ≤ 8 then [] else encodeField .u16 (8 : Nat))) := by
  refine (congrArg Host.Outcome.next (args_takes takes v _)).trans ?_
  rw [outsideFallback, if_neg (by rw [outside]; decide)]
  simp only [clampNat_demand, okCode_ne, takenData_ne, min_eq_left_iff]
  by_cases least : v ≤ 8
  · simp only [if_pos least]; rfl
  · simp only [if_neg least, Nat.min_eq_right (Nat.le_of_not_le least)]; rfl

theorem demandTaken_duty (s : State) (d : Nat) : (s.demanded d).DutyFrame (fun _ => False) (s.demandTaken d) := by
  unfold State.demandTaken
  split
  · next same =>
    subst same
    exact (s.demanded s.pdc.demand).onPdc_duty (fun _ => s.pdc) _ rfl rfl
  · exact State.settle_duty _ _

/-! ## SET DUTY MODE (R136) -/

/-- The mode of a number of SET DUTY MODE. -/
def dutyModeOf (v : Nat) : DutyMode := if v = 0 then .auto else .manual

theorem toDutyMode_le (h : v ≤ 1) : toDutyMode v = some (dutyModeOf v) := by
  obtain rfl | rfl : v = 0 ∨ v = 1 := by omega
  all_goals rfl

theorem toDutyMode_none (h : 1 < v) : toDutyMode v = none := by
  unfold toDutyMode
  split
  · omega
  · omega
  · rfl

section Mode
variable (takes : s.Takes (.setDutyMode (.args v)))
include takes

theorem setDutyMode_refused (h : 1 < v) : exec (.setDutyMode (.args v)) s = .next (s.reply .badArgument []) := by
  refine (congrArg Host.Outcome.next (args_takes takes v _)).trans ?_
  rw [toDutyMode_none h]
  rfl

theorem setDutyMode_fallback (h : v ≤ 1) (fallback : s.slp.fallback = true) :
    exec (.setDutyMode (.args v)) s = .next (s.reply .inFallback []) := by
  refine (congrArg Host.Outcome.next (args_takes takes v _)).trans ?_
  rw [toDutyMode_le h]
  dsimp only
  rw [outsideFallback, if_pos fallback]
  rfl

theorem setDutyMode_taken (h : v ≤ 1) (outside : s.slp.fallback = false) :
    exec (.setDutyMode (.args v)) s = .next ((s.setMode (dutyModeOf v)).settle.reply .ok []) := by
  refine (congrArg Host.Outcome.next (args_takes takes v _)).trans ?_
  rw [toDutyMode_le h]
  dsimp only
  rw [outsideFallback, if_neg (by rw [outside]; decide)]

end Mode

theorem setMode_same (s : State) : s.setMode s.pdc.mode = s := if_pos rfl

theorem setMode_auto (manual : s.pdc.mode = .manual) :
    s.setMode .auto = { s with pdc := { s.pdc with mode := .auto, evaluationDue := true } } :=
  if_neg (by rw [manual]; nofun)

/-- The change to MANUAL: the pair ends, held stops are dropped, and the duty starts leave the queue. -/
theorem setMode_manual (auto : s.pdc.mode = .auto) : s.setMode .manual = { s with pdc := { s.pdc with
    mode := .manual, pair := none, scopes := s.pdc.scopes.map Scope.dropHeld
    queue := s.pdc.queue.filter fun e => e.origin ≠ .duty, evaluationDue := true } } := if_neg (by rw [auto]; nofun)

theorem setMode_mode (s : State) (m : DutyMode) : (s.setMode m).pdc.mode = m := by
  unfold State.setMode
  split
  · next same => exact same.symm
  · cases m <;> rfl

/-- Beside the mode a change of it is a piece of work of the PDC. -/
theorem setMode_duty (s : State) (m : DutyMode) :
    ({ s with pdc := { s.pdc with mode := m } } : State).DutyFrame (fun _ => False) (s.setMode m) := by
  unfold State.setMode
  split
  · next same => subst same; exact .refl _ s
  · cases m with
    | auto => exact State.evaluationFollows_duty _ _
    | manual =>
      exact State.onPdc_duty (s := { s with pdc := { s.pdc with mode := .manual } })
        (fun _ => { s.pdc.toManual with evaluationDue := true }) _ rfl rfl

theorem host_iff (o : StartOrigin) : decide (o ≠ .duty) = decide (o = .host) := by cases o <;> rfl

/-- In MANUAL the evaluations leave the pair ended and the entries of origin HOST alone in the queue. -/
theorem manual_settled (auto : s.pdc.mode = .auto) : (s.setMode .manual).settle.pdc.pair = none
    ∧ (s.setMode .manual).settle.pdc.queue = s.pdc.queue.filter fun e => e.origin = .host := by
  obtain ⟨queue, -, -, -, pair⟩ := fields_of_starts (settle_starts (setMode_mode s .manual))
  have set := setMode_manual auto
  refine ⟨pair.trans (by rw [set]), queue.trans ?_⟩
  rw [set]
  simp only [host_iff]

theorem dropHeld_held {k : Scope} {p : PumpId} (h : k.due = .held p) : k.dropHeld = ⟨none, .none⟩ := by
  unfold Scope.dropHeld
  rw [h]

theorem dropHeld_other {k : Scope} (h : ∀ p, k.due ≠ .held p) : k.dropHeld = k := by
  unfold Scope.dropHeld
  split
  · next held => exact absurd held (h _)
  all_goals rfl

/-! ## SET DUTY ORDER (R134, R135, R148) -/

/-- Numbers that are a permutation of 1 to 8. -/
def Permutes (l : List Nat) : Prop := l.length = 8 ∧ l.Nodup ∧ ∀ x ∈ l, 1 ≤ x ∧ x ≤ 8

theorem index1_some {n v : Nat} {i : Fin n} (h : index1 n v = some i) : v = i.val + 1 := by
  by_cases out : v = 0 ∨ n < v
  · rw [index1_none out] at h; cases h
  · have at_ : v = (⟨v - 1, by omega⟩ : Fin n).val + 1 := by simp only; omega
    rw [at_, index1_succ] at h
    rw [at_, Option.some.inj h]

theorem mapM_index1_some : ∀ {l : List Nat} {ps : List PumpId}, l.mapM (index1 8) = some ps →
    l = ps.map fun p => p.val + 1
  | [], ps, h => by
    obtain rfl : [] = ps := Option.some.inj h
    rfl
  | x :: l, ps, h => by
    simp only [List.mapM_cons, Option.bind_eq_bind, Option.bind_eq_some_iff, Option.pure_def, Option.some.injEq] at h
    obtain ⟨p, first, qs, rest, rfl⟩ := h
    rw [List.map_cons, ← mapM_index1_some rest, ← index1_some first]

/-- A list taken is the order's numbers. -/
theorem toOrder_numbers_eq {l : List Nat} {o : Vector PumpId 8} (h : toOrder l = some o) :
    o.toList.map (fun p => p.val + 1) = l := by
  unfold toOrder at h
  split at h
  · next read =>
    split at h
    · obtain rfl := Option.some.inj h
      exact (mapM_index1_some read).symm
    · cases h
  · cases h

theorem numbers_injective : Function.Injective fun p : PumpId => p.val + 1 := fun _ _ h => Fin.ext (Nat.succ.inj h)

/-- The list of a duty order is taken exactly when it is a permutation. -/
theorem toOrder_isSome {l : List Nat} : (toOrder l).isSome = true ↔ Permutes l := by
  constructor
  · intro some
    obtain ⟨o, ho⟩ := Option.isSome_iff_exists.1 some
    rw [← toOrder_numbers_eq ho]
    refine ⟨by simp, (toOrder_nodup ho).map numbers_injective, fun x hx => ?_⟩
    obtain ⟨p, -, rfl⟩ := List.mem_map.1 hx
    have := p.isLt
    omega
  · rintro ⟨eight, distinct, range⟩
    obtain ⟨ps, rfl⟩ : ∃ ps : List PumpId, l = ps.map fun p => p.val + 1 := by
      refine ⟨l.pmap (fun x hx => (⟨x - 1, hx⟩ : PumpId)) fun x hx => by have := range x hx; omega, ?_⟩
      rw [List.map_pmap]
      refine (List.ext_getElem (by simp) fun i h h' => ?_)
      have := range l[i] (List.getElem_mem _)
      simp only [List.getElem_pmap]
      omega
    have nodup := distinct.of_map
    match ps, eight with
    | [a, b, c, d, e, f, g, i], _ =>
      rw [toOrder_eight, if_pos nodup]
      rfl

/-- The part with a duty order taken, before the evaluation. -/
def State.ordered (s : State) (o : Vector PumpId 8) : State :=
  { s with pdc := { s.pdc with order := o, rotationTimer := 0, changeover := true } }

/-- The part after SET DUTY ORDER. -/
def State.orderTaken (s : State) (o : Vector PumpId 8) : State :=
  if (s.ordered o).pdc = s.pdc then s.ordered o else (s.ordered o).evaluationFollows.settle

section Order
variable {l : List Nat} (takes : s.Takes (.setDutyOrder (.args l)))
include takes

theorem setDutyOrder_refused (not : ¬ Permutes l) :
    exec (.setDutyOrder (.args l)) s = .next (s.reply .badArgument []) := by
  refine (congrArg Host.Outcome.next (args_takes takes l _)).trans ?_
  have none : toOrder l = none := by
    rw [← Option.not_isSome_iff_eq_none, toOrder_isSome]
    exact not
  rw [none]
  rfl

theorem setDutyOrder_taken {o : Vector PumpId 8} (order : toOrder l = some o) :
    exec (.setDutyOrder (.args l)) s = .next ((s.orderTaken o).reply .ok []) := by
  refine (congrArg Host.Outcome.next (args_takes takes l _)).trans ?_
  rw [order]
  rfl

end Order

theorem orderTaken_duty (s : State) (o : Vector PumpId 8) : (s.ordered o).DutyFrame (fun _ => False) (s.orderTaken o) := by
  unfold State.orderTaken
  split
  · exact .refl _ _
  · exact (State.evaluationFollows_duty _ _).trans (State.settle_duty _ _)

/-- In MANUAL the changeover stays pending. -/
theorem orderTaken_changeover (manual : s.pdc.mode = .manual) (o : Vector PumpId 8) :
    (s.orderTaken o).pdc.changeover = true := by
  unfold State.orderTaken
  split
  · rfl
  · obtain ⟨-, -, -, pending, -⟩ := fields_of_starts (settle_starts (s := (s.ordered o).evaluationFollows) manual)
    exact pending

/-- Settles O44, request by request. -/
theorem dutyRequestsTaken : Obligations.DutyRequestsTaken := by
  refine ⟨fun s v takes => ⟨setDemand_fallback takes, fun outside => ?_⟩, fun s v takes => ?_, fun s l takes => ?_⟩
  · refine ⟨s.demandTaken (min v 8), s.demanded (min v 8), setDemand_taken takes outside, rfl, fun same => if_pos same,
      fun new => if_neg new, ?_, demandTaken_duty s _⟩
    exact (demandTaken_duty s (min v 8)).demand
  · refine ⟨setDutyMode_refused takes, setDutyMode_fallback takes, fun listed outside => ?_⟩
    have settled := (s.setMode (dutyModeOf v)).settle_duty fun _ => False
    have mode : (s.setMode (dutyModeOf v)).settle.pdc.mode = dutyModeOf v := settled.mode.trans (setMode_mode s _)
    refine ⟨_, s.setMode (dutyModeOf v), setDutyMode_taken takes listed outside, rfl, mode, ?_, ?_, ?_, ?_⟩
    · rw [mode]; exact (setMode_duty s _).trans settled
    · rw [mode]; exact fun same => by rw [same]; exact setMode_same s
    · rintro rfl manual
      exact setMode_auto manual
    · rintro rfl auto
      have set : s.setMode (dutyModeOf 1) = _ := setMode_manual auto
      obtain ⟨pair, queue⟩ := manual_settled auto
      refine ⟨?_, fun k => ?_, pair, queue⟩
      · rw [set]; simp only [host_iff]
      · have dropped : (s.setMode (dutyModeOf 1)).pdc.scopes[k] = s.pdc.scopes[k].dropHeld := by rw [set]; simp
        rw [dropped]
        cases due : s.pdc.scopes[k].due with
        | held p => exact dropHeld_held due
        | none | waiting => exact dropHeld_other (by rw [due]; nofun)
  · refine ⟨setDutyOrder_refused takes, fun permutes => ?_⟩
    obtain ⟨o, order⟩ := Option.isSome_iff_exists.1 (toOrder_isSome.2 permutes)
    have frame := orderTaken_duty s o
    have listed : (s.orderTaken o).pdc.order = o := frame.order
    refine ⟨s.orderTaken o, s.ordered o, setDutyOrder_taken takes order, ?_, fun same => ?_, fun new => if_neg new, ?_,
      frame.rotationTimer, fun manual => orderTaken_changeover manual o, frame⟩
    · rw [listed]; rfl
    · have kept : s.ordered o = s := congrArg (fun d => { s with pdc := d }) same
      rw [State.orderTaken, if_pos same, kept]
    · rw [listed]; exact toOrder_numbers_eq order

end Sys2Proof.Machine
end

section
/-! PROOFS. SET PUMP and SET PUMP TIMING (R116, R117, R123, R135, R166, R190): O45. -/

namespace Sys2Proof.Machine

variable {s t : State} {p : PumpId} {P : PumpId → Prop}

/-! ## The settings of SET PUMP (R116) -/

theorem onPump_congr {f g : Pump → Pump} (h : f (s.pump p) = g (s.pump p)) : s.onPump p f = s.onPump p g := by
  have same : f s.pdc.pumps[p] = g s.pdc.pumps[p] := h
  unfold State.onPump State.onPdc
  dsimp only
  rw [same]

theorem toPumpClass_none {k : Nat} (h : 1 < k) : toPumpClass k = none := by
  unfold toPumpClass
  split
  · omega
  · omega
  · rfl

/-- SET PUMP with no setting named. -/
theorem pumpArgs_empty (c : PumpArgs) :
    (c.cls.isNone && c.inlet.isNone && c.submergence.isNone) = true ↔ c = { pump := c.pump } := by
  cases c
  simp [and_assoc]

/-- The part with the settings of a pump taken. -/
def State.pumpSet (s : State) (p : PumpId) (cls : PumpClass) (c : PumpArgs) : State :=
  s.onPump p fun q =>
    { q with
      cls := cls, inlet := setToInt (-30000) 30000 q.inlet c.inlet
      submergence := setTo 0 5000 q.submergence c.submergence }

/-- The part after SET PUMP. -/
def State.pumpTaken (s : State) (p : PumpId) (cls : PumpClass) (c : PumpArgs) : State :=
  if cls = (s.pump p).cls then s.pumpSet p cls c else ((s.pumpSet p cls c).cutRecovery p).settle

theorem setPumpOn_eq {given : Option PumpClass} {cls : PumpClass} (class' : given.getD (s.pump p).cls = cls) (c : PumpArgs) :
    (setPumpOn p given c s).state = s.pumpTaken p cls c
      ∧ (setPumpOn p given c s).code = okCode (straysInt (-30000) 30000 c.inlet || strays 0 5000 c.submergence)
      ∧ (setPumpOn p given c s).data =
        if straysInt (-30000) 30000 c.inlet || strays 0 5000 c.submergence then
          carried [(c.cls.isSome, .u8, cls.code),
            (c.inlet.isSome, .s16, setToInt (-30000) 30000 (s.pump p).inlet c.inlet),
            (c.submergence.isSome, .u16, setTo 0 5000 (s.pump p).submergence c.submergence)]
        else [] := by
  have set : (s.onPump p fun q =>
      { q with
        cls := given.getD q.cls
        inlet := taken (clampInt (-30000) 30000) c.inlet q.inlet
        submergence := taken (clampNat 0 5000) c.submergence q.submergence }) = s.pumpSet p cls c := by
    refine onPump_congr ?_
    simp (disch := decide) only [class', taken_clampInt, taken_clampNat]
  unfold setPumpOn
  dsimp only
  rw [set]
  simp (disch := decide) only [State.pumpSet, State.pump_onPump_self, adjusted_clampInt, adjusted_clampNat, takenData_eq]
  exact ⟨rfl, trivial, trivial⟩

section SetPump
variable {c : PumpArgs} (takes : s.Takes (.setPump (.args c)))
include takes

theorem setPump_refused (bad : c.pump = 0 ∨ 8 < c.pump ∨ (∃ k, c.cls = some k ∧ 1 < k) ∨ c = { pump := c.pump }) :
    exec (.setPump (.args c)) s = .next (s.reply .badArgument []) := by
  refine (congrArg Host.Outcome.next (args_takes takes c _)).trans ?_
  rw [← or_assoc] at bad
  rcases bad with outside | ⟨k, given, unlisted⟩ | empty
  · rw [index1_none outside]; rfl
  · cases index1 8 c.pump with
    | none => rfl
    | some p =>
      dsimp only
      split
      · rfl
      · rw [given]
        dsimp only
        rw [toPumpClass_none unlisted]
        rfl
  · cases index1 8 c.pump with
    | none => rfl
    | some p =>
      dsimp only
      rw [if_pos ((pumpArgs_empty c).2 empty)]
      rfl

theorem setPump_taken {cls : PumpClass} (pump : c.pump = p.val + 1) (named : c ≠ { pump := c.pump })
    (class' : c.cls = none ∧ cls = (s.pump p).cls ∨ ∃ k, c.cls = some k ∧ toPumpClass k = some cls) :
    exec (.setPump (.args c)) s = .next ((s.pumpTaken p cls c).reply
      (if straysInt (-30000) 30000 c.inlet || strays 0 5000 c.submergence then .okAdjusted else .ok)
      (if straysInt (-30000) 30000 c.inlet || strays 0 5000 c.submergence then
        carried [(c.cls.isSome, .u8, cls.code),
          (c.inlet.isSome, .s16, setToInt (-30000) 30000 (s.pump p).inlet c.inlet),
          (c.submergence.isSome, .u16, setTo 0 5000 (s.pump p).submergence c.submergence)]
      else [])) := by
  refine (congrArg Host.Outcome.next (args_takes takes c _)).trans ?_
  rw [pump, index1_succ]
  dsimp only
  rw [if_neg (mt (pumpArgs_empty c).1 named)]
  rcases class' with ⟨given, same⟩ | ⟨k, given, listed⟩
  · obtain ⟨state, code, data⟩ := setPumpOn_eq (s := s) (p := p) (given := none) same.symm c
    rw [given] at data ⊢
    dsimp only
    rw [state, code, data, okCode_eq]
  · obtain ⟨state, code, data⟩ := setPumpOn_eq (s := s) (p := p) (given := some cls) (cls := cls) rfl c
    rw [given] at data ⊢
    dsimp only
    rw [listed]
    dsimp only
    rw [state, code, data, okCode_eq]

end SetPump

/-! ## A recovery timer cut (R123) -/

theorem cutRecovery_duty (s : State) (hp : P p) : s.DutyFrame P (s.cutRecovery p) := by
  unfold State.cutRecovery
  dsimp only
  split
  · have cut := s.onPump_duty (P := P) p (fun q => { q with recovery := s.pdc.recoveryTime (s.pump p).cls * 1000 }) hp
      fun _ => rfl
    split
    · exact cut.trans (State.enterPump_duty _ _ hp)
    · exact cut
  · exact .refl P s

/-- A timer that exceeds the recovery time is cut to it, the pump resting on. -/
theorem pump_cutRecovery (exceeds : s.recoverySeconds p * 1000 < (s.pump p).recovery)
    (rests : (s.pump p).state = .recovering → s.recoverySeconds p ≠ 0) :
    (s.cutRecovery p).pump p = { s.pump p with recovery := s.recoverySeconds p * 1000 } := by
  unfold State.cutRecovery
  dsimp only
  rw [recoveryTime_pump, if_pos exceeds, if_neg, State.pump_onPump_self]
  simpa [State.recovered] using rests

theorem pumpTaken_duty (s : State) (p : PumpId) (cls : PumpClass) (c : PumpArgs) :
    (s.pumpSet p cls c).DutyFrame (fun x => x = p) (s.pumpTaken p cls c) := by
  unfold State.pumpTaken
  split
  · exact .refl _ _
  · exact (cutRecovery_duty (P := fun x => x = p) _ rfl).trans (State.settle_duty _ _)

/-- A changed class cuts a timer that exceeds the new class's time, through the evaluations. -/
theorem pumpTaken_cut {cls : PumpClass} {c : PumpArgs} (new : cls ≠ (s.pump p).cls)
    (exceeds : (s.pumpSet p cls c).recoverySeconds p * 1000 < (s.pump p).recovery)
    (rests : (s.pump p).state = .failed ∨ (s.pump p).state = .disabled
      ∨ ((s.pump p).state = .recovering ∧ (s.pumpSet p cls c).recoverySeconds p ≠ 0)) :
    (s.pumpTaken p cls c).pump p = { (s.pumpSet p cls c).pump p with
      recovery := (s.pumpSet p cls c).recoverySeconds p * 1000 } := by
  have set : (s.pumpSet p cls c).pump p = { s.pump p with
      cls := cls, inlet := setToInt (-30000) 30000 (s.pump p).inlet c.inlet
      submergence := setTo 0 5000 (s.pump p).submergence c.submergence } := State.pump_onPump_self p _ s
  have cut : ((s.pumpSet p cls c).cutRecovery p).pump p = { (s.pumpSet p cls c).pump p with
      recovery := (s.pumpSet p cls c).recoverySeconds p * 1000 } :=
    pump_cutRecovery (by rw [set]; exact exceeds) fun state => by
      rw [set] at state
      rcases rests with failed | disabled | ⟨-, some⟩
      · cases state.symm.trans failed
      · cases state.symm.trans disabled
      · exact some
  have state : (((s.pumpSet p cls c).cutRecovery p).pump p).state = (s.pump p).state := by rw [cut, set]
  rw [State.pumpTaken, if_neg new, settle_pump_still, cut]
  · rw [state]; rcases rests with h | h | ⟨h, -⟩ <;> rw [h] <;> nofun
  · rw [state]; rcases rests with h | h | ⟨h, -⟩ <;> rw [h] <;> nofun

/-! ## The settings of SET PUMP TIMING (R117) -/

theorem Pdc.configure_eq (d : Pdc) (c : PumpTimingArgs) : d.configure c = { d with
    recoveryLarge := setTo 0 3600 d.recoveryLarge c.recoveryLarge
    recoverySmall := setTo 0 3600 d.recoverySmall c.recoverySmall
    startTimeout := setTo 5 120 d.startTimeout c.startTimeout
    stopTimeout := setTo 5 300 d.stopTimeout c.stopTimeout
    startSpacing := setTo 2 60 d.startSpacing c.startSpacing
    startMargin := setTo 0 3000 d.startMargin c.startMargin
    tripDelay := setTo 5 120 d.tripDelay c.tripDelay
    shedDelay := setTo 5 300 d.shedDelay c.shedDelay
    pumpsPerScreen := setTo 1 4 d.pumpsPerScreen c.pumpsPerScreen
    rotationInterval := setTo 0 720 d.rotationInterval c.rotationInterval
    fallbackDemand := setTo 0 8 d.fallbackDemand c.fallbackDemand } := by
  simp (disch := decide) only [Pdc.configure, taken_clampNat]

theorem dutyClamped_eq (d : Pdc) (c : PumpTimingArgs) : anyClamped (pumpTimingValues c) (d.configure c).timings =
    (strays 0 3600 c.recoveryLarge || strays 0 3600 c.recoverySmall || strays 5 120 c.startTimeout
      || strays 5 300 c.stopTimeout || strays 2 60 c.startSpacing || strays 0 3000 c.startMargin
      || strays 5 120 c.tripDelay || strays 5 300 c.shedDelay || strays 1 4 c.pumpsPerScreen
      || strays 0 720 c.rotationInterval || strays 0 8 c.fallbackDemand) := by
  simp (disch := decide) only [pumpTimingValues, Pdc.timings, Pdc.configure, anyClamped_cons, any_ne_taken,
    anyClamped_nil, adjusted_clampNat, Bool.or_assoc, Bool.or_false]

/-- SET PUMP TIMING with no setting named. -/
theorem pumpTimingArgs_empty (c : PumpTimingArgs) : (pumpTimingValues c).all Option.isNone = true ↔ c = {} := by
  cases c
  simp [pumpTimingValues]

theorem setPumpTiming_refused (takes : s.Takes (.setPumpTiming (.args {}))) :
    exec (.setPumpTiming (.args {})) s = .next (s.reply .badArgument []) :=
  congrArg Host.Outcome.next (args_takes takes _ _)

theorem setPumpTiming_taken {c : PumpTimingArgs} (takes : s.Takes (.setPumpTiming (.args c))) (named : c ≠ {}) :
    exec (.setPumpTiming (.args c)) s = .next ((((s.onPdc fun d => d.configure c).pumpTimingActs s.pdc).settle).reply
      (okCode (anyClamped (pumpTimingValues c) (s.pdc.configure c).timings))
      (takenData (anyClamped (pumpTimingValues c) (s.pdc.configure c).timings)
        (wordFields (pumpTimingValues c) (s.pdc.configure c).timings))) := by
  refine congrArg Host.Outcome.next ((args_takes takes c _).trans ?_)
  simp only [if_neg (mt (pumpTimingArgs_empty c).1 named)]
  rfl

/-! ## What the new values do -/

theorem ite_duty {c : Prop} [Decidable c] {u : State} (h : s.DutyFrame P t) (k : s.DutyFrame P u) :
    s.DutyFrame P (if c then t else u) := by
  split
  · exact h
  · exact k

theorem whenNew_duty {old new : Nat} {f : State → State} (hf : ∀ u : State, u.DutyFrame P (f u)) (h : s.DutyFrame P t) :
    s.DutyFrame P (whenNew old new f t) := ite_duty h (h.trans (hf t))

/-- What the new values of SET PUMP TIMING do, but for those of the rotation interval and the fallback demand. -/
def State.dutyTimingActs (s : State) (old : Pdc) : State :=
  s
  |> whenNew old.recoveryLarge s.pdc.recoveryLarge (State.cutClass .large)
  |> whenNew old.recoverySmall s.pdc.recoverySmall (State.cutClass .small)
  |> whenNew old.startTimeout s.pdc.startTimeout State.endLateStarts
  |> whenNew old.stopTimeout s.pdc.stopTimeout State.endLateStops
  |> whenNew old.startSpacing s.pdc.startSpacing State.spacingActs
  |> whenNew old.startMargin s.pdc.startMargin State.evaluationFollows
  |> whenNew old.tripDelay s.pdc.tripDelay State.stopLowPumps
  |> whenNew old.shedDelay s.pdc.shedDelay State.makeDueStops
  |> whenNew old.pumpsPerScreen s.pdc.pumpsPerScreen State.evaluationFollows

theorem dutyTimingActs_duty (s : State) (old : Pdc) : s.DutyFrame (fun _ => True) (s.dutyTimingActs old) := by
  have cut (c : PumpClass) (t : State) : t.DutyFrame (fun _ => True) (State.cutClass c t) :=
    State.foldl_duty _ _ (fun u p => ite_duty (cutRecovery_duty u trivial) (.refl _ u)) _ t
  have start (t : State) : t.DutyFrame (fun _ => True) t.endLateStarts :=
    State.foldl_duty _ _ (fun u p => ite_duty (u.failPump_duty _ trivial) (.refl _ u)) _ t
  have stop (t : State) : t.DutyFrame (fun _ => True) t.endLateStops :=
    State.foldl_duty _ _ (fun u p => ite_duty (u.failPump_duty _ trivial) (.refl _ u)) _ t
  have low (t : State) : t.DutyFrame (fun _ => True) t.stopLowPumps :=
    State.foldl_duty _ _ (fun u p => ite_duty (u.lowLevelActs_duty trivial) (.refl _ u)) _ t
  have shed (t : State) : t.DutyFrame (fun _ => True) t.makeDueStops :=
    (State.foldl_duty _ _ (fun u k => ite_duty (u.fallDue_duty k _) (.refl _ u)) _ t).trans (State.evaluationFollows_duty _ _)
  have spacing (t : State) : t.DutyFrame (fun _ => True) t.spacingActs :=
    (t.onPdc_duty _ _ rfl rfl).trans (State.startArbiter_duty _ _)
  have follows (t : State) : t.DutyFrame (fun _ => True) t.evaluationFollows := t.evaluationFollows_duty _
  exact State.DutyFrame.refl _ s |> whenNew_duty (cut .large) |> whenNew_duty (cut .small) |> whenNew_duty start
    |> whenNew_duty stop |> whenNew_duty spacing |> whenNew_duty follows |> whenNew_duty low |> whenNew_duty shed
    |> whenNew_duty follows

/-- The part with a new rotation interval and a new fallback demand acted upon (R135, R190). -/
def State.intervalActs (s : State) (rotates demands : Prop) [Decidable rotates] [Decidable demands] (due : Bool) : State :=
  s.onPdc fun d => { d with
    rotationTimer := if rotates then 0 else d.rotationTimer
    demand := if demands then d.fallbackDemand else d.demand
    evaluationDue := due }

/-- In fallback a new fallback demand replaces the demand (R190). -/
theorem whenNew_fallbackDemandActs (old new : Nat) (t : State) : whenNew old new State.fallbackDemandActs t =
    if t.slp.fallback = true ∧ new ≠ old then
      t.onPdc fun d => { d with demand := d.fallbackDemand, evaluationDue := true }
    else t := by
  unfold whenNew State.fallbackDemandActs
  by_cases same : new = old
  · rw [if_pos same, if_neg fun h => h.2 same]
  · by_cases fallback : t.slp.fallback = true
    · rw [if_neg same, if_pos fallback, if_pos ⟨fallback, same⟩]; rfl
    · rw [if_neg same, if_neg fallback, if_neg fun h => fallback h.1]

theorem pumpTimingActs_eq (v : State) (old : Pdc) : ∃ due, v.pumpTimingActs old =
    (v.dutyTimingActs old).intervalActs (v.pdc.rotationInterval ≠ old.rotationInterval)
      ((v.dutyTimingActs old).slp.fallback = true ∧ v.pdc.fallbackDemand ≠ old.fallbackDemand) due := by
  have acts : v.pumpTimingActs old = whenNew old.fallbackDemand v.pdc.fallbackDemand State.fallbackDemandActs
      (whenNew old.rotationInterval v.pdc.rotationInterval (fun t => t.onPdc fun d => { d with rotationTimer := 0 })
        (v.dutyTimingActs old)) := rfl
  rw [acts]
  generalize v.dutyTimingActs old = a
  rw [whenNew_fallbackDemandActs, whenNew]
  by_cases interval : v.pdc.rotationInterval ≠ old.rotationInterval <;>
    by_cases replaced : a.slp.fallback = true ∧ v.pdc.fallbackDemand ≠ old.fallbackDemand
  · exact ⟨true, by rw [if_neg interval, State.onPdc_slp, if_pos replaced]
                    simp only [State.intervalActs, if_pos interval, if_pos replaced]; rfl⟩
  · exact ⟨a.pdc.evaluationDue, by rw [if_neg interval, State.onPdc_slp, if_neg replaced]
                                   simp only [State.intervalActs, if_pos interval, if_neg replaced]; rfl⟩
  · exact ⟨true, by rw [if_pos (not_not.1 interval), if_pos replaced]
                    simp only [State.intervalActs, if_neg interval, if_pos replaced]⟩
  · exact ⟨a.pdc.evaluationDue, by rw [if_pos (not_not.1 interval), if_neg replaced]
                                   simp only [State.intervalActs, if_neg interval, if_neg replaced]; rfl⟩

theorem intervalActs_sameSettings (s : State) (rotates demands : Prop) [Decidable rotates] [Decidable demands]
    (due : Bool) : s.SameSettings (s.intervalActs rotates demands due) :=
  ⟨fun _ => rfl, rfl, rfl, fun _ => rfl, rfl, fun _ => rfl, rfl, fun _ => rfl, rfl, rfl, rfl⟩

/-- What SET PUMP TIMING leaves of the part with its settings taken. -/
structure State.TimingTaken (v t : State) (rotates : Prop) (demands : Prop) : Prop where
  settings : v.SameSettings t
  rotation : ¬ rotates → t.pdc.rotationTimer = v.pdc.rotationTimer
  restarted : rotates → t.pdc.rotationTimer = 0
  demand : ¬ demands → t.pdc.demand = v.pdc.demand
  replaced : demands → t.pdc.demand = v.pdc.fallbackDemand
  mode : t.pdc.mode = v.pdc.mode
  core : v.SameCore t
  sea : v.SameSea t
  grant : v.GrantFrame t
  link : v.LinkFrame t

theorem pumpTimingActs_taken (v : State) (old : Pdc) : v.TimingTaken (v.pumpTimingActs old).settle
    (v.pdc.rotationInterval ≠ old.rotationInterval)
    (v.slp.fallback = true ∧ v.pdc.fallbackDemand ≠ old.fallbackDemand) := by
  have acts := dutyTimingActs_duty v old
  have fallback := acts.fallback
  have demand : (v.dutyTimingActs old).pdc.fallbackDemand = v.pdc.fallbackDemand :=
    (congrArg Pdc.fallbackDemand acts.pump.pdc :)
  obtain ⟨due, replaced⟩ := pumpTimingActs_eq v old
  rw [replaced]
  generalize v.dutyTimingActs old = a at acts fallback demand ⊢
  have taken := intervalActs_sameSettings a (v.pdc.rotationInterval ≠ old.rotationInterval)
    (a.slp.fallback = true ∧ v.pdc.fallbackDemand ≠ old.fallbackDemand) due
  have settled := State.settle_duty (a.intervalActs (v.pdc.rotationInterval ≠ old.rotationInterval)
    (a.slp.fallback = true ∧ v.pdc.fallbackDemand ≠ old.fallbackDemand) due) fun _ => True
  exact
    { settings := (acts.claim.read.sameSettings.trans taken).trans settled.claim.read.sameSettings
      rotation := fun not => (settled.rotationTimer.trans (if_neg not)).trans acts.rotationTimer
      restarted := fun new => settled.rotationTimer.trans (if_pos new)
      demand := fun not => (settled.demand.trans (if_neg (by rwa [fallback]))).trans acts.demand
      replaced := fun new => (settled.demand.trans (if_pos (by rwa [fallback]))).trans demand
      mode := settled.mode.trans acts.mode
      core := acts.core.trans ((.trans (by exact ⟨rfl, rfl, rfl, rfl⟩) settled.core))
      sea := acts.sea.trans settled.sea
      grant := acts.grant.trans (.trans (.of_eq (s := a) (by exact rfl)) settled.grant)
      link := acts.link.trans (.trans (.of_eq (s := a) (by exact rfl)) settled.link) }

/-- Settles O45: the values taken are the clamped ones (`setPumpOn_eq`, `Pdc.configure_eq`), a changed class cuts the timer
(`pumpTaken_cut`), and what the new timings do is read off the list of their acts (`pumpTimingActs_taken`). -/
theorem pumpSettingsTaken : Obligations.PumpSettingsTaken := by
  refine ⟨fun s c bad takes hbad => ⟨setPump_refused takes, fun p cls pump named class' => ?_⟩,
    fun s v c bad takes hv hbad => ⟨?_, fun named => ?_⟩⟩
  · have listed : c.cls = none ∧ cls = (s.pump p).cls ∨ ∃ k, c.cls = some k ∧ toPumpClass k = some cls := by
      split at class'
      · next given => exact .inl ⟨given, class'⟩
      · next k given =>
        refine .inr ⟨k, given, ?_⟩
        rcases class' with ⟨rfl, rfl⟩ | ⟨rfl, rfl⟩ <;> rfl
    subst hbad
    exact ⟨_, s.pumpSet p cls c, setPump_taken takes pump named listed, rfl, pumpTaken_duty s p cls c,
      fun same => if_pos same, pumpTaken_cut⟩
  · rintro rfl
    exact setPumpTiming_refused takes
  · have set : v = s.onPdc fun d => d.configure c := by rw [hv, State.onPdc, Pdc.configure_eq]
    have exec := setPumpTiming_taken takes named
    rw [dutyClamped_eq, ← hbad, okCode_eq, takenData_eq, ← set] at exec
    have acts := pumpTimingActs_taken v s.pdc
    have swc : v.swc = s.swc := by rw [hv]
    have slp : v.slp = s.slp := by rw [hv]
    have order : v.pdc.order = s.pdc.order := by rw [hv]
    refine ⟨_, _, exec, fun none => by rw [none]; rfl, acts.settings.sectionValues 8 0 nofun,
      fun x i other => acts.settings.sectionValues x i fun counters => absurd counters other, ?_, ?_,
      acts.mode.trans (by rw [hv]), acts.settings.order.trans order, acts.sea.1.trans (by rw [hv]), ?_, ?_,
      (State.GrantFrame.of_eq swc).trans acts.grant, (State.LinkFrame.of_eq slp).trans acts.link⟩
    · split
      · next same => exact (acts.rotation (not_not.2 same)).trans (by rw [hv])
      · next new => exact acts.restarted new
    · rw [← slp]
      split
      · next new => exact acts.replaced new
      · next old => exact (acts.demand old).trans (by rw [hv])
    · exact acts.core.lau.trans (by rw [hv])
    · exact acts.core.phase.trans (by rw [hv])

end Sys2Proof.Machine
end

section
/-! PROOFS. What the entries into RUNNING and FAILED bring beside their pump: the start ended (R129), the notice and the
outcome handed to the slot that follows (R179): for O38 to O40 and O42. -/

namespace Sys2Proof.Machine

variable {s t u : State} {p x : PumpId} {m : Nat} {i : SlotId}

theorem onPump_self (s : State) (p : PumpId) : (s.onPump p fun _ => s.pump p) = s := by
  have same : s.pdc.pumps.set p s.pdc.pumps[p] = s.pdc.pumps := by simp
  unfold State.onPump State.onPdc State.pump
  dsimp only
  rw [same]

theorem recoverySeconds_of_cls (pumps : (t.pump p).cls = (s.pump p).cls) (large : t.pdc.recoveryLarge = s.pdc.recoveryLarge)
    (small : t.pdc.recoverySmall = s.pdc.recoverySmall) : t.recoverySeconds p = s.recoverySeconds p := by
  rw [State.recoverySeconds, State.recoverySeconds, pumps, large, small]

/-! ## Outcomes -/

theorem State.Follows.of_slots (h : s.Follows m i) (slots : t.slp.slots = s.slp.slots) : t.Follows m i := by
  unfold State.Follows
  rw [slots]
  exact h

/-- The outcome of work that has left the slots as they were until it is handed. -/
theorem complete_done_after (link : s.LinkFrame u) (slots : u.slp.slots = s.slp.slots) (follows : s.Follows m i)
    (outside : s.slp.fallback = false) (r d : Nat) : s.DoneWith (u.complete (some m) r d) i r d := by
  have done := complete_done (follows.of_slots slots) (link.fallback.trans outside) r d
  unfold State.DoneWith at done ⊢
  rw [done, slots, link.stamp]

theorem notify_slots (s : State) (c : NoticeClass) (k : NoticeKind) (u g : Nat) (v w : Int) :
    (s.notify c k u g v w).slp.slots = s.slp.slots := Slp.enqueue_slots _ _

/-! ## Publications say nothing on the link -/

theorem publishHeld_slp (s : State) : s.publishHeld.slp = s.slp := by
  unfold State.publishHeld
  split <;> rfl

theorem tryGrant_slp (s : State) : s.tryGrant.slp = s.slp := by
  unfold State.tryGrant
  split
  · split <;> rfl
  · rfl

theorem publishRunning_slp (s : State) : s.publishRunning.slp = s.slp := by
  unfold State.publishRunning
  split
  · rfl
  · rw [State.reevaluate, publishHeld_slp, tryGrant_slp, tryGrant_slp]; rfl

/-! ## The entry into FAILED -/

theorem failEntered_duty (s : State) (p : PumpId) (c : FailCause) : s.DutyFrame (fun y => y = p) (s.failEntered p c) :=
  have entered := s.enterPump_duty (P := fun y => y = p) .failed rfl
  have loaded := State.onPump_duty (P := fun y => y = p) p
    (fun q => { q with
      cause := c, recovery := s.pdc.recoveryTime q.cls * 1000
      startTimer := 0, stopTimer := 0, startMark := none, stopMark := none }) (s.enterPump p .failed) rfl fun _ => rfl
  (entered.trans loaded).trans (State.notify_duty _ _ _ _ _ _ _ _)

theorem failEntered_link (s : State) (p : PumpId) (c : FailCause) : (s.failEntered p c).LinkFrame (s.failPump p c) := by
  cases state : (s.pump p).state
  case starting =>
    rw [failPump_starting state]
    exact .trans (.of_eq (s := s.failEntered p c) (by exact rfl)) (State.complete_link _ _ _ _)
  case running => rw [failPump_running state]; exact .of_eq (publishRunning_slp _)
  case stopping => rw [failPump_stopping state]; exact State.complete_link _ _ _ _
  all_goals
    unfold State.failPump
    dsimp only
    rw [state]
    exact .refl _

/-- PUMP_FAILED is queued, and stays in the queue. -/
theorem failPump_notice (room : s.slp.notices.length < 32) (p : PumpId) (c : FailCause) :
    ⟨.fault, .pumpFailed, p.val + 1, 0, c.code, s.recoverySeconds p, s.stamp⟩ ∈ (s.failPump p c).slp.notices := by
  refine (failEntered_link s p c).notices _ ?_ rfl
  rw [State.failEntered, State.notify_room _ _ _ _ _ _ _ (by exact room), recoveryTime_pump]
  exact List.mem_append_right _ (List.mem_singleton_self _)

/-- The outcome FAILED of a start or a stop. -/
theorem failPump_done (mark : ((s.pump p).state = .starting ∧ (s.pump p).startMark = some m)
      ∨ ((s.pump p).state = .stopping ∧ (s.pump p).stopMark = some m))
    (follows : s.Follows m i) (outside : s.slp.fallback = false) (c : FailCause) :
    s.DoneWith (s.failPump p c) i 1 c.code := by
  have entered := (failEntered_duty s p c).link
  have slots : (s.failEntered p c).slp.slots = s.slp.slots := notify_slots ..
  rcases mark with ⟨state, mark⟩ | ⟨state, mark⟩
  · rw [failPump_starting state, mark]
    have ended : (s.failEntered p c).LinkFrame ((s.failEntered p c).startEnded.endPair p) := .of_eq rfl
    exact complete_done_after (entered.trans ended) slots follows outside 1 c.code
  · rw [failPump_stopping state, mark]
    exact complete_done_after entered slots follows outside 1 c.code

/-! ## The start in flight ended (R129) -/

theorem failPump_sinceStart (starting : (s.pump p).state = .starting) (c : FailCause) :
    (s.failPump p c).pdc.sinceStart = some 0 := by
  rw [failPump_starting starting, State.complete_pdc]
  rfl

theorem runBegun_sinceStart (s : State) (p : PumpId) : (s.runBegun p).pdc.sinceStart = some 0 := by
  rw [State.runBegun, State.complete_pdc]
  rfl

theorem orderStop_sinceStart (s : State) (p : PumpId) (o : StopOrigin) (k : Option Nat) :
    (s.orderStop p o k).pdc.sinceStart = s.pdc.sinceStart := (fields_of_starts (orderStop_starts s p o k)).2.1

theorem changeoverStop_sinceStart (s : State) (p : PumpId) : (s.changeoverStop p).pdc.sinceStart = s.pdc.sinceStart := by
  obtain same | ⟨w, ordered⟩ := changeoverStop_cases s p
  · rw [same]
  · rw [ordered, orderStop_sinceStart]; rfl

theorem enterRunning_sinceStart (s : State) (p : PumpId) : (s.enterRunning p).pdc.sinceStart = some 0 := by
  have changed : ((s.runBegun p).changeoverStop p).pdc.sinceStart = some 0 :=
    (changeoverStop_sinceStart _ p).trans (runBegun_sinceStart s p)
  rw [enterRunning_eq]
  split
  · rw [State.lowLevelStop, orderStop_sinceStart]; exact changed
  · exact changed

theorem beginStart_sinceStart (s : State) (e : StartEntry) :
    (s.beginStart e).pdc.sinceStart = some 0 ∨ (s.beginStart e).pdc.sinceStart = s.pdc.sinceStart := by
  rw [beginStart_eq]
  split
  · exact .inl (failPump_sinceStart (by rw [pump_startBegun_self]) _)
  · split
    · exact .inl (enterRunning_sinceStart _ _)
    · exact .inr rfl

/-- The duty evaluations leave the start spacing as begun. -/
theorem settle_sinceStart (h : s.pdc.sinceStart = some 0) : s.settle.pdc.sinceStart = some 0 := by
  have rule : DutyKeeps fun t => t.pdc.sinceStart = some 0 :=
    { quiet := fun _ _ _ _ _ i => i
      complete := fun t k r d i => by rw [State.complete_pdc]; exact i
      order := fun t w o i => (orderStop_sinceStart t w o none).trans i
      take := fun _ _ _ i => i
      append := fun _ _ _ i => i
      start := fun t e _ i => (beginStart_sinceStart t e).elim id fun same => same.trans i }
  exact rule.settle h

end Sys2Proof.Machine
end

section
/-! PROOFS. How a pump fails (R118, R120, R121, R122, R123, R124, R131): O39. -/

namespace Sys2Proof.Machine

variable {s t u : State} {p : PumpId} {m : Nat} {i : SlotId}

/-! ## The four causes -/

/-- A pump fails, with the evaluations that follow: `q` is the pump as the event has read its inputs. -/
def State.failed (s : State) (p : PumpId) (c : FailCause) (q : Pump) : State :=
  ((s.onPump p fun _ => q).failPump p c).settle

theorem pfbFalling_fails (phase : s.phase = .running) (running : (s.pump p).state = .running)
    (feedback : (s.pump p).feedback = true) (clear : (s.pump p).trip = false) :
    exec (.pfbFalling p) s = .next (s.failed p .feedbackLost { s.pump p with feedback := false }) := by
  have read : s.feedbackLevel p false = s.onPump p fun _ => { s.pump p with feedback := false } := onPump_congr rfl
  have exec : exec (.pfbFalling p) s = execPfbFalling p s := rfl
  rw [exec, execPfbFalling, if_pos feedback, read]
  dsimp only
  rw [if_pos (by simp [State.active, phase]), State.pump_onPump_self]
  dsimp only
  rw [running, clear]
  rfl

theorem ptrpActive_fails (phase : s.phase = .running)
    (commanded : (s.pump p).state = .starting ∨ (s.pump p).state = .running) :
    exec (.ptrpActive p true) s = .next (s.failed p .tripped { s.pump p with trip := true }) := by
  have read : (s.onPump p fun q => { q with trip := true }) = s.onPump p fun _ => { s.pump p with trip := true } :=
    onPump_congr rfl
  have exec : exec (.ptrpActive p true) s = execPtrpActive p true s := rfl
  rw [exec, execPtrpActive, read]
  dsimp only
  rw [if_pos (by rw [State.pump_onPump_self]; rcases commanded with h | h <;> simp [State.active, phase, h, PumpState.commanded])]
  rfl

theorem startTimeout_fails (phase : s.phase = .running) (starting : (s.pump p).state = .starting)
    (elapsed : s.pdc.startTimeout * 1000 ≤ (s.pump p).startTimer) :
    exec (.startTimeout p) s = .next (s.failed p .startTimeout (s.pump p)) := by
  rw [State.failed, onPump_self]
  exact congrArg Host.Outcome.next (if_pos (by simp [State.active, phase, State.startLate, starting, reached, elapsed]))

theorem stopTimeout_fails (phase : s.phase = .running) (stopping : (s.pump p).state = .stopping)
    (elapsed : s.pdc.stopTimeout * 1000 ≤ (s.pump p).stopTimer) :
    exec (.stopTimeout p) s = .next (s.failed p .stopTimeout (s.pump p)) := by
  rw [State.failed, onPump_self]
  exact congrArg Host.Outcome.next (if_pos (by simp [State.active, phase, State.stopLate, stopping, reached, elapsed]))

/-! ## What a failure does -/

theorem failed_duty (s : State) (p : PumpId) (c : FailCause) (q : Pump) :
    (s.onPump p fun _ => q).DutyFrame (fun x => x = p) (s.failed p c q) :=
  (State.failPump_duty (P := fun x => x = p) _ c rfl).trans (State.settle_duty _ _)

theorem failed_pump {q : Pump} (cls : q.cls = (s.pump p).cls) (c : FailCause) :
    (s.failed p c q).pump p = q.failedWith c (s.recoverySeconds p) := by
  have recovery : (s.onPump p fun _ => q).recoverySeconds p = s.recoverySeconds p :=
    recoverySeconds_of_cls (by rw [State.pump_onPump_self, cls]) rfl rfl
  have failed : ((s.onPump p fun _ => q).failPump p c).pump p = q.failedWith c (s.recoverySeconds p) := by
    rw [pump_failPump_self, State.pump_onPump_self, recovery]
  rw [State.failed, settle_pump_still (by rw [failed]; nofun) (by rw [failed]; nofun), failed]

theorem failed_notice {q : Pump} (cls : q.cls = (s.pump p).cls) (room : s.slp.notices.length < 32) (c : FailCause) :
    ⟨.fault, .pumpFailed, p.val + 1, 0, c.code, s.recoverySeconds p, s.stamp⟩ ∈ (s.failed p c q).slp.notices := by
  have recovery : (s.onPump p fun _ => q).recoverySeconds p = s.recoverySeconds p :=
    recoverySeconds_of_cls (by rw [State.pump_onPump_self, cls]) rfl rfl
  have queued := failPump_notice (s := s.onPump p fun _ => q) room p c
  rw [recovery] at queued
  exact (State.settle_duty _ fun _ => True).link.notices _ queued rfl

theorem failed_sinceStart {q : Pump} (starting : q.state = .starting) (c : FailCause) :
    (s.failed p c q).pdc.sinceStart = some 0 :=
  settle_sinceStart (failPump_sinceStart (by rw [State.pump_onPump_self]; exact starting) c)

theorem failed_done {q : Pump} (mark : (q.state = .starting ∧ q.startMark = some m) ∨ (q.state = .stopping ∧ q.stopMark = some m))
    (follows : s.Follows m i) (outside : s.slp.fallback = false) (c : FailCause) : s.DoneWith (s.failed p c q) i 1 c.code := by
  have done : (s.onPump p fun _ => q).DoneWith ((s.onPump p fun _ => q).failPump p c) i 1 c.code :=
    failPump_done (s := s.onPump p fun _ => q) (by rw [State.pump_onPump_self]; exact mark) follows outside c
  exact State.DoneWith.link (s := s) done (State.settle_duty _ fun _ => True).link

/-- Settles O39, by the four causes: each is an entry into FAILED with the duty evaluations after it. -/
theorem pumpFails : Obligations.PumpFails := by
  intro s p c cause q phase event
  have fails : exec c s = .next (s.failed p cause q) ∧ q.state = (s.pump p).state ∧ q.cls = (s.pump p).cls
      ∧ q.startMark = (s.pump p).startMark ∧ q.stopMark = (s.pump p).stopMark := by
    rcases event with ⟨rfl, running, feedback, clear, rfl, rfl⟩ | ⟨rfl, commanded, rfl, rfl⟩
      | ⟨rfl, starting, elapsed, rfl, rfl⟩ | ⟨rfl, stopping, elapsed, rfl, rfl⟩
    · exact ⟨pfbFalling_fails phase running feedback clear, rfl, rfl, rfl, rfl⟩
    · exact ⟨ptrpActive_fails phase commanded, rfl, rfl, rfl, rfl⟩
    · exact ⟨startTimeout_fails phase starting elapsed, rfl, rfl, rfl, rfl⟩
    · exact ⟨stopTimeout_fails phase stopping elapsed, rfl, rfl, rfl, rfl⟩
  obtain ⟨exec, state, cls, startMark, stopMark⟩ := fails
  refine ⟨_, exec, failed_pump cls cause, fun room => failed_notice cls room cause,
    fun starting => failed_sinceStart (state.trans starting) cause, fun m i mark follows outside => failed_done ?_ follows outside cause,
    failed_duty s p cause q⟩
  rw [state, startMark, stopMark]
  exact mark

end Sys2Proof.Machine
end

section
/-! PROOFS. PFB rising ends a start (R118, R120, R124, R131, R179): O38. -/

namespace Sys2Proof.Machine

variable {s t u : State} {p : PumpId} {m : Nat} {i : SlotId}

/-! ## The input is read in every phase (R118) -/

theorem pfbRising_high (high : (s.pump p).feedback = true) : exec (.pfbRising p) s = .next s :=
  congrArg Host.Outcome.next (if_pos high)

section Rising
variable (low : (s.pump p).feedback = false)
include low

theorem pfbRising_read (idle : s.phase ≠ .running ∨ (s.pump p).state ≠ .starting) :
    exec (.pfbRising p) s = .next (s.onPump p fun q => { q with feedback := true }) := by
  have exec : exec (.pfbRising p) s = execPfbRising p s := rfl
  rw [exec, execPfbRising, if_neg (by rw [low]; decide)]
  dsimp only
  rw [State.feedbackLevel, if_neg]
  rw [State.pump_onPump_self]
  rcases idle with phase | state
  · simp [State.active, phase]
  · simp [state]

theorem pfbRising_starts (phase : s.phase = .running) (starting : (s.pump p).state = .starting) :
    exec (.pfbRising p) s = .next (((s.onPump p fun q => { q with feedback := true }).enterRunning p).settle) := by
  have exec : exec (.pfbRising p) s = execPfbRising p s := rfl
  rw [exec, execPfbRising, if_neg (by rw [low]; decide)]
  dsimp only
  rw [State.feedbackLevel, if_pos]
  rw [State.pump_onPump_self]
  simp [State.active, phase, starting]

end Rising

/-! ## The stops that wait for the entry into RUNNING (R149, R150) -/

/-- What holds of a pump as it enters RUNNING, and is kept by a stop order, holds of it when the stops that waited for its
entry are made. -/
theorem enterRunning_pump {J : Pump → Prop} (ordered : ∀ q o, J q → J (q.afterOrder o (s.recoverySeconds p)))
    (h : J ((s.runBegun p).pump p)) : J ((s.enterRunning p).pump p) := by
  have recovery (t : State) (frame : s.DutyFrame (fun y => y = p) t) (w : PumpId) (o : StopOrigin) (i : J (t.pump p)) :
      J ((t.orderStop w o none).pump p) := by
    obtain same | order := orderStop_orders t w p o
    · rw [same]; exact i
    · rw [order, DutyFrame_recoverySeconds frame]; exact ordered _ o i
  have begun := runBegun_duty s p
  have changed : J (((s.runBegun p).changeoverStop p).pump p)
      ∧ s.DutyFrame (fun y => y = p) ((s.runBegun p).changeoverStop p) := by
    obtain same | ⟨w, order⟩ := changeoverStop_cases (s.runBegun p) p
    · rw [same]; exact ⟨h, begun⟩
    · rw [order]
      have ended := begun.trans (State.endPair_duty _ p _)
      exact ⟨recovery _ ended w .changeover h, ended.trans (State.orderStop_duty _ w .changeover none _)⟩
  rw [enterRunning_eq]
  split
  · exact recovery _ (changed.2.trans (State.notify_duty _ _ _ _ _ _ _ _)) p .lowLevel changed.1
  · exact changed.1

/-- With no changeover and no low margin waiting for it, the pump's entry into RUNNING orders no stop. -/
theorem enterRunning_plain (pair : ∀ pr, s.pdc.pair = some pr → pr.b ≠ p) (margin : (s.pump p).lowMargin = none) :
    s.enterRunning p = s.runBegun p := by
  have starts : (s.runBegun p).pdc.pair = s.pdc.pair := by
    rw [State.runBegun, State.complete_pdc]
    exact (fields_of_starts (publishRunning_starts _)).2.2.2.2
  have low : (s.runBegun p).lowLevelDue p = false := by
    rw [← Bool.not_eq_true, State.lowLevelDue_iff, pump_runBegun_self]
    rintro ⟨k, some, -⟩
    cases some.symm.trans margin
  rw [enterRunning_eq, changeoverStop_none (by rw [starts]; exact pair), low, if_neg (by decide)]

/-! ## The entry into RUNNING with nothing waiting -/

theorem tryGrant_runningCount (s : State) : s.tryGrant.swc.runningCount = s.swc.runningCount := by
  unfold State.tryGrant
  split
  · split <;> rfl
  · rfl

theorem runningNow_congr (pumps : ∀ x, t.pump x = s.pump x) : t.runningNow = s.runningNow := by
  simp only [State.runningNow, pumps]

/-- The running count is published (R119). -/
theorem publishRunning_runningCount (s : State) : s.publishRunning.swc.runningCount = s.publishRunning.runningNow := by
  rw [runningNow_congr (State.pump_publishRunning s)]
  unfold State.publishRunning
  split
  · next current => exact current.symm
  · rw [State.reevaluate, State.publishHeld_swc, tryGrant_runningCount, tryGrant_runningCount]; rfl

theorem runBegun_runningCount (s : State) (p : PumpId) : (s.runBegun p).swc.runningCount = (s.runBegun p).runningNow := by
  rw [State.runBegun, State.complete_swc, runningNow_congr (State.pump_complete _ _ _ _)]
  exact publishRunning_runningCount _

theorem publishRunning_scopes (s : State) : s.publishRunning.pdc.scopes = s.pdc.scopes := by
  have held (t : State) : t.publishHeld.pdc.scopes = t.pdc.scopes := by
    unfold State.publishHeld
    split <;> rfl
  unfold State.publishRunning
  split
  · rfl
  · rw [State.reevaluate, held, tryGrant_pdc, tryGrant_pdc]; rfl

theorem runBegun_noDueStop (due : s.NoDueStop) (p : PumpId) : (s.runBegun p).NoDueStop := by
  have scopes : (s.runBegun p).pdc.scopes = s.pdc.scopes := by
    rw [State.runBegun, State.complete_pdc]
    exact publishRunning_scopes _
  unfold State.NoDueStop
  rw [scopes]
  exact due

/-- The start spacing begins anew and bars every start (R129). -/
theorem runBegun_barred (spacing : 0 < s.pdc.startSpacing) (p : PumpId) : (s.runBegun p).Barred := by
  have set : (s.runBegun p).pdc.startSpacing = s.pdc.startSpacing :=
    (congrArg Pdc.startSpacing (runBegun_duty s p).pump.pdc :)
  refine .inr (.inr ?_)
  rw [← Bool.not_eq_true, spacingOut_iff]
  intro out
  have := out 0 (runBegun_sinceStart s p)
  omega

/-- On the link the entry into RUNNING is PUMP_STARTED and then the outcome. -/
theorem runBegun_slp (s : State) (p : PumpId) : ∃ v : State, v.slp = (s.notify .status .pumpStarted (p.val + 1) 0
      (s.pump p).startOrigin.code (min (s.pump p).starts 32767 : Nat)).slp ∧ s.runBegun p = v.complete (s.pump p).startMark 0 0 :=
  ⟨(((s.enterPump p .running).onPump p fun q => { q with startTimer := 0, startMark := none, runTime := 0 }).notify .status
      .pumpStarted (p.val + 1) 0 (s.pump p).startOrigin.code (min (s.pump p).starts 32767 : Nat)).publishRunning.startEnded,
    publishRunning_slp _, rfl⟩

theorem runBegun_notices (room : s.slp.notices.length < 32) (p : PumpId) : (s.runBegun p).slp.notices = s.slp.notices ++
    [⟨.status, .pumpStarted, p.val + 1, 0, (s.pump p).startOrigin.code, (min (s.pump p).starts 32767 : Nat), s.stamp⟩] := by
  obtain ⟨v, slp, begun⟩ := runBegun_slp s p
  rw [begun, State.complete_notices, slp, State.notify_room _ _ _ _ _ _ _ room]

/-- The outcome STARTED. -/
theorem runBegun_done (mark : (s.pump p).startMark = some m) (follows : s.Follows m i) (outside : s.slp.fallback = false) :
    s.DoneWith (s.runBegun p) i 0 0 := by
  obtain ⟨v, slp, begun⟩ := runBegun_slp s p
  rw [begun, mark]
  refine complete_done_after ((State.notify_link s _ _ _ _ _ _).trans (.of_eq slp)) ?_ follows outside 0 0
  rw [slp, notify_slots]

/-- The pump as PFB ends its start: what a stop order keeps holds of it. -/
def Pump.Started (n : Nat) (q : Pump) : Prop :=
  (q.state = .running ∨ q.state = .stopping) ∧ q.feedback = true ∧ q.starts = n

theorem Pump.Started.moves {n : Nat} {q : Pump} (h : q.Started n) : q.state ≠ .stopped := by
  rcases h.1 with state | state <;> rw [state] <;> nofun

theorem Pump.Started.afterOrder {n : Nat} {q : Pump} (h : q.Started n) (o : StopOrigin) (seconds : Nat) :
    (q.afterOrder o seconds).Started n := by
  obtain ⟨state, fed, starts⟩ := h
  unfold Pump.afterOrder
  rw [if_pos fed]
  split
  · exact ⟨.inr rfl, fed, starts⟩
  · exact ⟨state, fed, starts⟩

theorem enterRunning_started (fed : (s.pump p).feedback = true) :
    (((s.enterRunning p).settle).pump p).Started (s.pump p).starts :=
  settle_pump (fun _ => Pump.Started.moves) (fun _ o h => h.afterOrder o _)
    (enterRunning_pump (fun _ o h => h.afterOrder o _) (by rw [pump_runBegun_self]; exact ⟨.inl rfl, fed, rfl⟩))

/-- Settles O38: what a stop order keeps holds of the pump through its entry and the evaluations (`enterRunning_started`);
with nothing waiting the evaluations are barred by the start spacing (`settle_quiet`). -/
theorem feedbackCompletesAStart : Obligations.FeedbackCompletesAStart := by
  intro s p
  refine ⟨pfbRising_high, pfbRising_read, fun low phase starting => ⟨_, pfbRising_starts low phase starting, ?_⟩⟩
  have fed : (s.onPump p fun q => { q with feedback := true }).pump p = { s.pump p with feedback := true } :=
    State.pump_onPump_self p _ s
  have started := enterRunning_started (s := s.onPump p fun q => { q with feedback := true }) (p := p) (by rw [fed])
  rw [fed] at started
  refine ⟨started.1, started.2.2,
    (State.enterRunning_duty (P := fun x => x = p) _ rfl).trans (State.settle_duty _ _), fun due margin pair spacing => ?_⟩
  rw [enterRunning_plain (s := s.onPump p fun q => { q with feedback := true }) pair (by rw [fed]; exact margin)]
  have quiet := settle_quiet (runBegun_noDueStop (s := s.onPump p fun q => { q with feedback := true }) due p)
    (runBegun_barred (by exact spacing) p)
  obtain ⟨-, -, swc, slp⟩ := quiet.blocks
  refine ⟨?_, settle_sinceStart (runBegun_sinceStart _ p), ?_, fun x other => ?_, fun room => ?_,
    fun m i mark follows outside => ?_⟩
  · rw [quiet.pump, pump_runBegun_self, fed]
  · rw [swc, runningNow_congr quiet.pump, runBegun_runningCount]
  · rw [quiet.pump, pump_runBegun_other other, State.pump_onPump, if_neg other.symm]
  · rw [slp, runBegun_notices (by exact room), fed]
    rfl
  · have done := runBegun_done (s := s.onPump p fun q => { q with feedback := true }) (p := p) (by rw [fed]; exact mark)
      follows outside
    exact State.DoneWith.link (s := s) done (State.settle_duty _ fun _ => True).link

end Sys2Proof.Machine
end

section
/-! PROOFS. PFB falling and PTRP where no pump fails, and the end of a recovery (R118, R121, R122, R123, R124, R133, R136):
O40. -/

namespace Sys2Proof.Machine

variable {s t u : State} {p : PumpId} {m : Nat} {i : SlotId} {level : Bool}

/-! ## The inputs are read in every phase (R118) -/

theorem pfbFalling_low (low : (s.pump p).feedback = false) : exec (.pfbFalling p) s = .next s :=
  congrArg Host.Outcome.next (if_neg (by rw [low]; decide))

theorem pfbFalling_read (high : (s.pump p).feedback = true)
    (idle : s.phase ≠ .running ∨ ((s.pump p).state ≠ .running ∧ (s.pump p).state ≠ .stopping)
      ∨ ((s.pump p).state = .running ∧ (s.pump p).trip = true)) :
    exec (.pfbFalling p) s = .next (s.onPump p fun q => { q with feedback := false }) := by
  have exec : exec (.pfbFalling p) s = execPfbFalling p s := rfl
  rw [exec, execPfbFalling, if_pos high]
  dsimp only
  rw [State.feedbackLevel, State.pump_onPump_self]
  dsimp only
  split
  · next active =>
    have phase : s.phase = .running := of_decide_eq_true active
    split
    · next running =>
      rcases idle with other | ⟨other, -⟩ | ⟨-, trip⟩
      · exact absurd phase other
      · exact absurd running other
      · rw [if_pos trip]
    · next stopping =>
      rcases idle with other | ⟨-, other⟩ | ⟨other, -⟩
      · exact absurd phase other
      · exact absurd stopping other
      · cases stopping.symm.trans other
    all_goals rfl
  · rfl

theorem pfbFalling_stops (high : (s.pump p).feedback = true) (phase : s.phase = .running)
    (stopping : (s.pump p).state = .stopping) :
    exec (.pfbFalling p) s = .next (((s.onPump p fun q => { q with feedback := false }).stopEnded p).settle) := by
  have exec : exec (.pfbFalling p) s = execPfbFalling p s := rfl
  rw [exec, execPfbFalling, if_pos high]
  dsimp only
  rw [State.feedbackLevel, if_pos (by simp [State.active, phase]), State.pump_onPump_self]
  dsimp only
  rw [stopping]

theorem ptrpActive_read (idle : s.phase ≠ .running ∨ level = false
      ∨ ((s.pump p).state ≠ .starting ∧ (s.pump p).state ≠ .running)) :
    exec (.ptrpActive p level) s = .next (s.onPump p fun q => { q with trip := level }) := by
  have exec : exec (.ptrpActive p level) s = execPtrpActive p level s := rfl
  rw [exec, execPtrpActive]
  dsimp only
  rw [if_neg]
  rw [State.pump_onPump_self]
  rcases idle with phase | low | ⟨starting, running⟩
  · simp [State.active, phase]
  · simp [low]
  · cases state : (s.pump p).state
    case starting => exact absurd state starting
    case running => exact absurd state running
    all_goals simp [PumpState.commanded]

theorem recoveryTimerExpiry_rests (phase : s.phase = .running) (recovering : (s.pump p).state = .recovering)
    (done : (s.pump p).recovery = 0) : exec (.recoveryTimerExpiry p) s = .next (s.enterPump p .stopped).settle :=
  congrArg Host.Outcome.next (if_pos (by simp [State.active, phase, State.recovered, recovering, done]))

/-! ## The end of a stop (R122) -/

/-- On the link the end of a stop is PUMP_STOPPED and then the outcome. -/
theorem stopEnded_slp (s : State) (p : PumpId) : ∃ v : State,
    v.slp = (s.notify .status .pumpStopped (p.val + 1) 0 (((s.pump p).stopOrigin.map StopOrigin.code).getD 0 : Nat)
      (min ((s.pump p).runTime / 60000) 32767 : Nat)).slp
    ∧ s.stopEnded p = v.complete (s.pump p).stopMark 0 (((s.pump p).stopOrigin.map StopOrigin.code).getD 0) :=
  ⟨((s.onPump p fun q => { q with stopTimer := 0, stopMark := none, recovery := s.pdc.recoveryTime q.cls * 1000 }).rest p).notify
      .status .pumpStopped (p.val + 1) 0 (((s.pump p).stopOrigin.map StopOrigin.code).getD 0 : Nat)
      (min ((s.pump p).runTime / 60000) 32767 : Nat), rfl, rfl⟩

theorem stopEnded_notices (room : s.slp.notices.length < 32) (p : PumpId) : (s.stopEnded p).slp.notices = s.slp.notices ++
    [⟨.status, .pumpStopped, p.val + 1, 0, (((s.pump p).stopOrigin.map StopOrigin.code).getD 0 : Nat),
      (min ((s.pump p).runTime / 60000) 32767 : Nat), s.stamp⟩] := by
  obtain ⟨v, slp, ended⟩ := stopEnded_slp s p
  rw [ended, State.complete_notices, slp, State.notify_room _ _ _ _ _ _ _ room]

/-- The outcome STOPPED. -/
theorem stopEnded_done (mark : (s.pump p).stopMark = some m) (follows : s.Follows m i) (outside : s.slp.fallback = false) :
    s.DoneWith (s.stopEnded p) i 0 (((s.pump p).stopOrigin.map StopOrigin.code).getD 0) := by
  obtain ⟨v, slp, ended⟩ := stopEnded_slp s p
  rw [ended, mark]
  refine complete_done_after ((State.notify_link s _ _ _ _ _ _).trans (.of_eq slp)) ?_ follows outside 0 _
  rw [slp, notify_slots]

theorem stopEnded_evaluationDue (s : State) (p : PumpId) : (s.stopEnded p).pdc.evaluationDue = true := by
  unfold State.stopEnded
  dsimp only
  rw [State.complete_pdc]
  rfl

theorem stopEnded_scopes (s : State) (p : PumpId) : (s.stopEnded p).pdc.scopes = s.pdc.scopes := by
  unfold State.stopEnded
  dsimp only
  rw [State.complete_pdc]
  rfl

theorem stopEnded_mode (s : State) (p : PumpId) : (s.stopEnded p).pdc.mode = s.pdc.mode :=
  (s.stopEnded_duty (P := fun x => x = p) rfl).mode

/-- A pump whose recovery time is not 0 stays in RECOVERING through the evaluations, and in MANUAL every pump rests on. -/
theorem stopDone_settled {q : Pump} {seconds : Nat} (rests : s.pump p = q.stopDone seconds)
    (stays : seconds ≠ 0 ∨ s.pdc.mode = .manual) : s.settle.pump p = s.pump p := by
  rcases stays with counts | manual
  · have state : (s.pump p).state = .recovering := by rw [rests, Pump.stopDone, if_neg counts]
    exact settle_pump_still (by rw [state]; nofun) (by rw [state]; nofun)
  · refine settle_pump_manual manual ?_
    rw [rests, Pump.stopDone]
    dsimp only
    split <;> nofun

/-- Settles O40, by the input and the pump's state. -/
theorem stopsAndRecoveriesEnd : Obligations.StopsAndRecoveriesEnd := by
  refine ⟨fun s p => ⟨pfbFalling_low, pfbFalling_read, fun level => ptrpActive_read, fun high phase stopping => ?_⟩,
    fun s p phase recovering done => ?_⟩
  · have fed : (s.onPump p fun q => { q with feedback := false }).pump p = { s.pump p with feedback := false } :=
      State.pump_onPump_self p _ s
    have recovery : (s.onPump p fun q => { q with feedback := false }).recoverySeconds p = s.recoverySeconds p :=
      recoverySeconds_of_cls (by rw [fed]) rfl rfl
    have rests := pump_stopEnded_self (s.onPump p fun q => { q with feedback := false }) p
    rw [fed, recovery] at rests
    have mode := stopEnded_mode (s.onPump p fun q => { q with feedback := false }) p
    refine ⟨_, _, pfbFalling_stops high phase stopping, rfl, rfl, rests,
      fun stays => stopDone_settled rests (stays.imp_right mode.trans), stopEnded_evaluationDue _ _, fun room => ?_,
      fun due manual => ?_, fun m i mark follows outside => ?_,
      (State.stopEnded_duty (P := fun x => x = p) _ rfl).trans (State.settle_duty _ _)⟩
    · rw [stopEnded_notices (by exact room), fed]
      rfl
    · have none : ((s.onPump p fun q => { q with feedback := false }).stopEnded p).NoDueStop := by
        unfold State.NoDueStop
        rw [stopEnded_scopes]
        exact due
      obtain ⟨-, -, k, b, same⟩ := settle_calm (mode.trans manual) none
      rw [same]
      rfl
    · have told := stopEnded_done (s := s.onPump p fun q => { q with feedback := false }) (p := p) (by rw [fed]; exact mark)
        follows outside
      rw [fed] at told
      exact State.DoneWith.link (s := s) told (State.settle_duty _ fun _ => True).link
  · refine ⟨_, s.enterPump p .stopped, recoveryTimerExpiry_rests phase recovering done, rfl, rfl, State.settle_duty _ _,
      fun manual => ?_⟩
    have rests : (s.enterPump p .stopped).pump p = { s.pump p with state := .stopped, run := false, lowMargin := none } :=
      State.pump_enterPump_self s p .stopped
    exact (settle_pump_manual (s := s.enterPump p .stopped) manual (by rw [rests]; nofun)).trans rests

end Sys2Proof.Machine
end

section
/-! PROOFS. The end of the start spacing and the grant checks (R120, R127, R129, R130, R131): O41. -/

namespace Sys2Proof.Machine

variable {s t u : State} {p : PumpId} {m : Nat} {i : SlotId} {e : StartEntry} {rest : List StartEntry}

/-! ## The grant checks in order (R130) -/

/-- The first number that fails is the answer, and there is none when none fails. -/
theorem first_iff {fails : Nat → Prop} {r : Option Nat}
    (first : (∃ j, r = some j ∧ fails j ∧ ∀ i, i < j → ¬ fails i) ∨ (r = none ∧ ∀ k, ¬ fails k)) :
    (∀ k, r = some k ↔ fails k ∧ ∀ j, j < k → ¬ fails j) ∧ (r = none ↔ ∀ k, ¬ fails k) := by
  rcases first with ⟨j, rfl, fj, least⟩ | ⟨rfl, none⟩
  · refine ⟨fun k => ⟨?_, fun ⟨fk, least'⟩ => ?_⟩, ⟨nofun, fun none => absurd fj (none j)⟩⟩
    · rintro ⟨⟩
      exact ⟨fj, least⟩
    · rcases Nat.lt_trichotomy j k with lt | rfl | gt
      · exact absurd fj (least' j lt)
      · rfl
      · exact absurd fk (least k gt)
  · exact ⟨fun k => ⟨nofun, fun ⟨fk, _⟩ => absurd fk (none k)⟩, ⟨fun _ => none, fun _ => rfl⟩⟩

theorem bayOfPump_val (p : PumpId) : (bayOfPump p).val = p.val / 3 := by
  revert p
  decide

theorem exists_bay {Q : BayId → Prop} (p : PumpId) : (∃ b : BayId, b.val = p.val / 3 ∧ Q b) ↔ Q (bayOfPump p) :=
  ⟨fun ⟨b, own, q⟩ => bayOfPump_eq p b own ▸ q, fun q => ⟨_, bayOfPump_val p, q⟩⟩

theorem underCap_iff : s.underCap = true ↔ ∀ c, s.twu.condition.cap = some c → s.deviceLoad < c := by
  unfold State.underCap
  cases s.twu.condition.cap <;> simp

/-- What each grant check looks at. -/
def State.checkFails (s : State) (p : PumpId) : Nat → Prop
  | 1 => (s.pump p).state ≠ .stopped
  | 2 => (s.pump p).trip = true
  | 3 => s.lau.record.margins[p] < s.pdc.startMargin
  | 4 => s.lau.record.wells[bayOfPump p].unknown = true
  | 5 => s.ceiling (bayOfPump p) ≤ s.bayLoad (bayOfPump p)
  | 6 => ¬ s.underCap = true
  | _ => False

theorem checkFails_iff (s : State) (p : PumpId) (k : Nat) : s.checkFails p k ↔
    (k = 1 ∧ (s.pump p).state ≠ .stopped) ∨ (k = 2 ∧ (s.pump p).trip = true)
      ∨ (k = 3 ∧ s.lau.record.margins[p] < s.pdc.startMargin)
      ∨ (k = 4 ∧ ∃ b : BayId, b.val = p.val / 3 ∧ s.lau.record.wells[b].unknown = true)
      ∨ (k = 5 ∧ ∃ b : BayId, b.val = p.val / 3 ∧ s.ceiling b ≤ s.bayLoad b)
      ∨ (k = 6 ∧ ∃ c, s.twu.condition.cap = some c ∧ c ≤ s.deviceLoad) := by
  rw [exists_bay (Q := fun b => s.lau.record.wells[b].unknown = true), exists_bay (Q := fun b => s.ceiling b ≤ s.bayLoad b)]
  have cap : (∃ c, s.twu.condition.cap = some c ∧ c ≤ s.deviceLoad) ↔ ¬ s.underCap = true := by
    rw [underCap_iff]
    push Not
    rfl
  rw [cap]
  match k with
  | 0 | 1 | 2 | 3 | 4 | 5 | 6 => simp [State.checkFails]
  | k + 7 => simp [State.checkFails]

/-- The ladder of checks answers with the first that fails (R130). -/
theorem grantCheck_first (s : State) (p : PumpId) :
    (∃ j, s.grantCheck p = some j ∧ s.checkFails p j ∧ ∀ i, i < j → ¬ s.checkFails p i)
      ∨ (s.grantCheck p = none ∧ ∀ k, ¬ s.checkFails p k) := by
  have none : ¬ s.checkFails p 0 := id
  have step (n : Nat) (before : ∀ i, i < n → ¬ s.checkFails p i) (passes : ¬ s.checkFails p n) :
      ∀ i, i < n + 1 → ¬ s.checkFails p i := fun i lt => by
    rcases Nat.lt_succ_iff_lt_or_eq.1 lt with lt | rfl
    · exact before i lt
    · exact passes
  have c1 := step 0 nofun none
  unfold State.grantCheck
  split
  · next fails => exact .inl ⟨1, rfl, fails, c1⟩
  next passes1 =>
  have c2 := step 1 c1 passes1
  split
  · next fails => exact .inl ⟨2, rfl, fails, c2⟩
  next passes2 =>
  have c3 := step 2 c2 passes2
  split
  · next fails => exact .inl ⟨3, rfl, fails, c3⟩
  next passes3 =>
  have c4 := step 3 c3 passes3
  split
  · next fails => exact .inl ⟨4, rfl, fails, c4⟩
  next passes4 =>
  have c5 := step 4 c4 passes4
  split
  · next fails => exact .inl ⟨5, rfl, fails, c5⟩
  next passes5 =>
  have c6 := step 5 c5 passes5
  split
  · next fails => exact .inl ⟨6, rfl, (by simpa [State.checkFails] using fails), c6⟩
  next passes6 =>
  have c7 := step 6 c6 (by simpa [State.checkFails] using passes6)
  refine .inr ⟨rfl, fun k => ?_⟩
  match k with
  | 0 | 1 | 2 | 3 | 4 | 5 | 6 => exact c7 _ (by decide)
  | k + 7 => exact id

theorem grantCheck_iff (s : State) (p : PumpId) :
    (∀ k, s.grantCheck p = some k ↔ s.checkFails p k ∧ ∀ j, j < k → ¬ s.checkFails p j)
      ∧ (s.grantCheck p = none ↔ ∀ k, ¬ s.checkFails p k) := first_iff (grantCheck_first s p)

theorem grantCheck_passes (stopped : (s.pump p).state = .stopped) (trip : (s.pump p).trip = false)
    (margin : (s.pdc.startMargin : Int) ≤ s.lau.record.margins[p])
    (well : s.lau.record.wells[bayOfPump p].unknown = false) (bay : s.bayLoad (bayOfPump p) < s.ceiling (bayOfPump p))
    (cap : ∀ c, s.twu.condition.cap = some c → s.deviceLoad < c) : s.grantCheck p = none := by
  rw [(grantCheck_iff s p).2]
  intro k
  match k with
  | 0 => exact id
  | 1 => exact not_not.2 stopped
  | 2 => exact fun fails => by cases fails.symm.trans trip
  | 3 => exact not_lt.2 margin
  | 4 => exact fun fails => by cases fails.symm.trans well
  | 5 => exact not_le.2 bay
  | 6 => exact not_not.2 (underCap_iff.2 cap)
  | k + 7 => exact id

/-! ## The oldest entry granted at the end of the spacing (R129) -/

/-- While a pump is in STARTING the duty evaluations take no entry, and leave the spacing. -/
theorem settle_startQueue_front {x : PumpId} (starting : (s.pump x).state = .starting) :
    rest <+: s.pdc.queue → rest <+: s.settle.pdc.queue ∧ s.settle.pdc.spacingTaken = s.pdc.spacingTaken := by
  intro front
  have kept := settle_keeps (s := s)
    (I := fun t => (t.pump x).state = .starting ∧ rest <+: t.pdc.queue ∧ t.pdc.spacingTaken = s.pdc.spacingTaken)
    (fun _ i => i)
    (fun t k i => by
      obtain ⟨y, same | ⟨w, o, ordered⟩⟩ := updateScope_cases t k
      · rw [same]; exact i
      · obtain ⟨queue, -, taken, -⟩ := fields_of_starts (orderStop_starts (t.onScope k fun _ => y) w o none)
        rw [ordered, pump_orderStop_still (by rw [State.pump_onScope, i.1]; nofun), queue, taken]
        exact i)
    (fun t w auto fit i => by
      have waits : (t.onPdc fun d => { d with queue := d.queue ++ [⟨w, .duty, none, 0⟩] }).anyStarting = true :=
        anyStarting_iff.2 ⟨x, i.1⟩
      rw [joinStart_startable fit, State.startArbiter, if_neg (by rw [waits]; simp)]
      exact ⟨i.1, i.2.1.trans (⟨_, rfl⟩), i.2.2⟩)
    (fun _ _ i => i) (fun _ i => i) ⟨starting, front, rfl⟩
  exact kept.2

theorem startSpacingExpiry_grants {ms : Nat} (phase : s.phase = .running) (since : s.pdc.sinceStart = some ms)
    (out : s.pdc.startSpacing * 1000 ≤ ms) (taken : s.pdc.spacingTaken = false) (idle : ∀ p, (s.pump p).state ≠ .starting)
    (queue : s.pdc.queue = e :: rest) (checks : s.grantCheck e.pump = none) (feedback : (s.pump e.pump).feedback = false) :
    exec .startSpacingExpiry s =
      .next ((s.onPdc fun d => { d with spacingTaken := true, queue := rest }).startBegun e).settle := by
  have spacing : s.pdc.spacingOut = true := spacingOut_iff.2 fun k some => by rw [since] at some; cases some; exact out
  have still : (s.onPdc fun d => { d with spacingTaken := true }).anyStarting = false := by
    rw [← Bool.not_eq_true, anyStarting_iff]
    exact fun ⟨x, hx⟩ => idle x hx
  have granted : (s.onPdc fun d => { d with spacingTaken := true }).startArbiter =
      (s.onPdc fun d => { d with spacingTaken := true, queue := rest }).startBegun e := by
    have front : (s.onPdc fun d => { d with spacingTaken := true }).pdc.queue = e :: rest := queue
    rw [State.startArbiter, if_pos (by rw [still]; exact spacing), front]
    exact (grantFrom_grants (v := s.onPdc fun d => { d with spacingTaken := true }) (q := rest) (by exact checks)).trans
      (beginStart_waits (grantCheck_trip (by exact checks)) feedback)
  have exec : exec .startSpacingExpiry s = execStartSpacingExpiry s := rfl
  rw [exec, execStartSpacingExpiry, if_pos (by simp [State.active, phase, Pdc.spacingFalls, since, spacing, taken]), granted]

/-- Settles O41: the granted pump is in STARTING, which the evaluations leave; the checks are read off `grantCheck_first`. -/
theorem startQueueIsServed : Obligations.StartQueueIsServed := by
  refine ⟨fun s ms e rest phase since out taken idle queue stopped trip feedback margin well bay cap => ?_,
    fun s p fails check => ?_⟩
  · have checks := grantCheck_passes stopped trip margin well bay cap
    have begun := startBegun_duty (s.onPdc fun d => { d with spacingTaken := true, queue := rest }) e
    have starts := pump_startBegun_self (s.onPdc fun d => { d with spacingTaken := true, queue := rest }) e
    have starting : (((s.onPdc fun d => { d with spacingTaken := true, queue := rest }).startBegun e).pump e.pump).state =
      .starting := by rw [starts]
    obtain ⟨front, spacing⟩ := settle_startQueue_front (rest := rest) starting ⟨[], List.append_nil rest⟩
    refine ⟨_, startSpacingExpiry_grants phase since out taken idle queue checks feedback, ?_, front, spacing,
      ((s.onPdc_duty _ _ rfl rfl).trans begun).trans (State.settle_duty _ _)⟩
    rw [settle_pump_still (by rw [starting]; nofun) (by rw [starting]; nofun), starts]
    rfl
  · obtain rfl : fails = s.checkFails p := funext fun k => propext ((check k).trans (checkFails_iff s p k).symm)
    refine ⟨(grantCheck_iff s p).1, (grantCheck_iff s p).2, fun e k m i host mark follows outside =>
      ⟨refuseStart_done mark follows outside k, ?_⟩⟩
    rw [State.refuseStart, host]
    exact State.complete_pdc _ _ _ _

end Sys2Proof.Machine
end

section
/-! PROOFS. What the readers of a record leave of the pumps but for stop orders and starts (R22, R150): for O42. -/

namespace Sys2Proof.Machine

variable {s t u : State} {p : PumpId} {J : Pump → Prop}

/-! ## One pump through the duty evaluations, its start among them -/

/-- What a stop order and a start keep of a pump, the duty evaluations keep of it. -/
theorem settle_pump_started (ordered : ∀ q o n, J q → J (Pump.afterOrder q o n))
    (started : ∀ (t : State) e, e.pump = p → J (t.pump p) → J ((t.beginStart e).pump p)) (h : J (s.pump p)) :
    J (s.settle.pump p) := by
  have rule : DutyKeeps fun t => J (t.pump p) :=
    { quiet := fun _ _ _ _ _ i => i
      complete := fun t m r d i => by rw [State.pump_complete]; exact i
      order := fun t w o i => by
        obtain same | order := orderStop_orders t w p o
        · rw [same]; exact i
        · rw [order]; exact ordered _ o _ i
      take := fun _ _ _ i => i
      append := fun _ _ _ i => i
      start := fun t e _ i => by
        by_cases own : e.pump = p
        · exact started t e own i
        · obtain same | ⟨o, order⟩ := beginStart_orders (s := t) (p := p) (e := e) (Ne.symm own)
          · rw [same]; exact i
          · rw [order]; exact ordered _ o _ i }
  exact rule.settle h

/-! ## Work that leaves the pumps -/

/-- The pumps, and the recovery times of their classes. -/
def Pdc.rests (d : Pdc) : Vector Pump 8 × Nat × Nat := (d.pumps, d.recoveryLarge, d.recoverySmall)

theorem pump_of_rests (h : t.pdc.rests = s.pdc.rests) (p : PumpId) : t.pump p = s.pump p := by
  have same : t.pdc.pumps = s.pdc.pumps := congrArg Prod.fst h
  unfold State.pump
  rw [same]

theorem recoverySeconds_of_rests (h : t.pdc.rests = s.pdc.rests) (p : PumpId) : t.recoverySeconds p = s.recoverySeconds p :=
  recoverySeconds_of_cls (by rw [pump_of_rests h]) (congrArg (fun r => r.2.1) h) (congrArg (fun r => r.2.2) h)

theorem publishHeld_rests (s : State) : s.publishHeld.pdc.rests = s.pdc.rests := by
  unfold State.publishHeld
  split <;> rfl

theorem reevaluate_rests (s : State) : s.reevaluate.pdc.rests = s.pdc.rests := by
  rw [State.reevaluate, publishHeld_rests, tryGrant_pdc, tryGrant_pdc]

theorem clearHeader_rests (s : State) : (s.clearHeader .abortedByCondition).pdc.rests = s.pdc.rests := by
  have sluice (u : State) : u.sluiceOff.pdc = u.pdc := by
    unfold State.sluiceOff
    split
    · exact (Prod.mk.inj u.aside_endSluice).2
    · rfl
  have purge (u : State) : u.purgeOff.pdc = u.pdc := by
    unfold State.purgeOff
    split <;> rfl
  rw [State.clearHeader_eq, publishHeld_rests, purge, sluice, (State.endAll_ended (o := .abortedByCondition) nofun nofun s).pdc]

theorem pdcActs_rests (s : State) (old : Condition) : (s.pdcActs old).pdc.rests = s.pdc.rests := by
  have follows (u : State) : u.evaluationFollows.pdc.rests = u.pdc.rests := rfl
  unfold State.pdcActs
  dsimp only
  split
  · rfl
  · rw [follows]
    split
    · exact clearHeader_rests s
    · rfl

theorem triggerScreen_rests (s : State) (n : ScreenId) : (s.triggerScreen n).pdc.rests = s.pdc.rests := by
  unfold State.triggerScreen
  split
  · rfl
  · split <;> rfl

theorem evaluateTriggers_rests (s : State) : s.evaluateTriggers.pdc.rests = s.pdc.rests := by
  have triggered := foldl_keeps (fun t => t.pdc.rests) State.triggerScreen triggerScreen_rests allScreens s
  unfold State.evaluateTriggers
  dsimp only
  split
  · exact triggered
  · rw [reevaluate_rests]; exact triggered

theorem modeActs_rests (s : State) (old : Condition) : (s.modeActs old).pdc.rests = s.pdc.rests := by
  unfold State.modeActs
  split
  · rfl
  · split
    · rw [State.finishContinuous_frame]
    · exact evaluateTriggers_rests s
    · rfl

theorem capActs_rests (s : State) (old : Condition) : (s.capActs old).pdc.rests = s.pdc.rests := by
  unfold State.capActs
  split
  · rw [publishHeld_rests]
    unfold State.activatePurge
    split <;> rfl
  · rfl

theorem swcActs_rests (s : State) (old : Condition) : (s.swcActs old).pdc.rests = s.pdc.rests := by
  unfold State.swcActs
  dsimp only
  split
  · rfl
  · rw [reevaluate_rests, capActs_rests, modeActs_rests]

theorem readersAct_rests (s : State) (old : Condition) : (s.readersAct old).pdc.rests = s.pdc.rests := by
  unfold State.readersAct
  split
  · split
    · exact (swcActs_rests _ old).trans (pdcActs_rests s.drawn old)
    · exact (pdcActs_rests _ old).trans (swcActs_rests s.drawn old)
  · exact (swcActs_rests _ old).trans (pdcActs_rests s old)

theorem recompute_rests (s : State) : s.recompute.pdc.rests = s.pdc.rests := by
  unfold State.recompute
  dsimp only
  split
  · rfl
  · exact readersAct_rests _ _

theorem evaluateClaim_rests (s : State) (q : Quantity) : (s.evaluateClaim q).pdc.rests = s.pdc.rests := by
  unfold State.evaluateClaim
  dsimp only
  split
  · rfl
  · split <;> rfl

theorem formVerdicts_rests (s : State) : s.formVerdicts.pdc.rests = s.pdc.rests := by
  unfold State.formVerdicts State.publishCapacity
  dsimp only
  split <;> rfl

/-! ## The readers of a record -/

/-- The TWU and the SWC keep, at a scan event, what work that leaves the pumps keeps, and what the duty evaluations keep. -/
theorem twuReads_keeps {I : State → Prop} (rests : ∀ t u : State, u.pdc.rests = t.pdc.rests → I t → I u)
    (settles : ∀ t : State, I t → I t.settle) (before : SeaClass) (h : I s) : I (s.twuReads before) := by
  have hands (t : State) (i : I t) : I t.handLevels := by
    refine settles _ (rests t _ ?_ i)
    rw [recompute_rests, evaluateClaim_rests, evaluateClaim_rests]
    rfl
  have ring (t : State) (i : I t) : I t.emptyRing := by
    refine settles _ (rests t _ ?_ i)
    rw [recompute_rests, evaluateClaim_rests]
    rfl
  have drawn : I s.drawn := rests s _ rfl h
  unfold State.twuReads
  split
  · split
    · exact hands _ (ring _ drawn)
    · exact ring _ (hands _ drawn)
  · exact hands s h

theorem swcReads_keeps {I : State → Prop} (rests : ∀ t u : State, u.pdc.rests = t.pdc.rests → I t → I u)
    (settles : ∀ t : State, I t → I t.settle) (h : I s) : I s.swcReads :=
  settles _ (rests s _ ((formVerdicts_rests _).trans (evaluateTriggers_rests s)) h)

/-- What the PDC brings about at a scan event holds in the end, whatever the order of the readers (R22). -/
theorem read_brings {A B : State → Prop} {before : SeaClass} (pdc : ∀ t : State, A t → B t.pdcReads)
    (twu : ∀ t : State, (A t → A (t.twuReads before)) ∧ (B t → B (t.twuReads before)))
    (swc : ∀ t : State, (A t → A t.swcReads) ∧ (B t → B t.swcReads)) (k : Nat) (h : A s) : B (State.read before k s) := by
  unfold State.read
  split
  · exact pdc _ ((swc _).1 ((twu _).1 h))
  · exact (swc _).2 (pdc _ ((twu _).1 h))
  · exact pdc _ ((twu _).1 ((swc _).1 h))
  · exact (twu _).2 (pdc _ ((swc _).1 h))
  · exact (swc _).2 ((twu _).2 (pdc _ h))
  · exact (twu _).2 ((swc _).2 (pdc _ h))

/-! ## The low-margin periods (R150) -/

/-- A pump with its low-margin period begun, kept or ended. -/
def Pump.period (q : Pump) (l : Lau) (p : PumpId) : Pump :=
  { q with lowMargin :=
      if l.record.margins[p] < 0 && !l.record.wells[bayOfPump p].unknown && q.state.commanded then
        some (q.lowMargin.getD {})
      else none }

theorem foldl_marginPeriod_pump (s : State) (p : PumpId) :
    (allPumps.foldl State.marginPeriod s).pump p = (s.pump p).period s.lau p := by
  have each := foldl_each (fun t x => (x, t.lau, t.pump x)) State.marginPeriod
    (fun y => (y.1, y.2.1, y.2.2.period y.2.1 y.1)) (fun t n m => by
      rw [State.marginPeriod, State.pump_onPump]
      split
      · next same => subst same; rfl
      · rfl) allPumps (by rw [allPumps_eq]; exact List.nodup_finRange 8) s p
  rw [if_pos (by rw [allPumps_eq]; exact List.mem_finRange p)] at each
  exact congrArg (fun y => y.2.2) each

theorem foldl_marginPeriod_recovery (s : State) (p : PumpId) :
    (allPumps.foldl State.marginPeriod s).recoverySeconds p = s.recoverySeconds p :=
  DutyFrame_recoverySeconds (State.foldl_duty State.marginPeriod (fun _ => True) State.marginPeriod_duty allPumps s) p

end Sys2Proof.Machine
end

section
/-! PROOFS. The low-margin periods of a scan event (R150), for O42: they are begun, kept or ended by the PDC's reading of the
record, and neither the other readers nor the duty evaluations touch that of a pump that stays in its state. -/

namespace Sys2Proof.Machine

variable {s t : State} {p : PumpId} {before : SeaClass}

/-! ## A pump that is not commanded has no period -/

/-- A pump in neither STARTING nor RUNNING has no low-margin period. -/
def Pump.PeriodEnds (q : Pump) : Prop := q.state ≠ .starting → q.state ≠ .running → q.lowMargin = none

theorem Pump.PeriodEnds.afterOrder {q : Pump} (h : q.PeriodEnds) (o : StopOrigin) (n : Nat) : (q.afterOrder o n).PeriodEnds := by
  unfold Pump.afterOrder
  split
  · split <;> exact fun _ _ => rfl
  · exact h

theorem beginStart_periodEnds (s : State) (e : StartEntry) : ((s.beginStart e).pump e.pump).PeriodEnds := by
  rw [beginStart_eq]
  split
  · rw [pump_failPump_self]; exact fun _ _ => rfl
  · split
    · refine enterRunning_pump (fun _ o h => h.afterOrder o _) ?_
      rw [pump_runBegun_self]
      exact fun _ running => absurd rfl running
    · rw [pump_startBegun_self]
      exact fun starting => absurd rfl starting

theorem settle_periodEnds (h : (s.pump p).PeriodEnds) : (s.settle.pump p).PeriodEnds :=
  settle_pump_started (fun _ o n i => i.afterOrder o n) (fun t e own _ => own ▸ beginStart_periodEnds t e) h

theorem pdcReads_periodEnds (s : State) (p : PumpId) : (s.pdcReads.pump p).PeriodEnds := by
  refine settle_periodEnds ?_
  rw [State.pump_evaluationFollows, foldl_marginPeriod_pump]
  intro starting running
  refine if_neg ?_
  have idle : (s.pump p).state.commanded = false := by
    change (s.pump p).state ≠ .starting at starting
    change (s.pump p).state ≠ .running at running
    cases state : (s.pump p).state
    case starting => exact absurd state starting
    case running => exact absurd state running
    all_goals rfl
  rw [idle, Bool.and_false]
  exact Bool.false_ne_true

theorem read_periodEnds (s : State) (k : Nat) (p : PumpId) : ((State.read before k s).pump p).PeriodEnds := by
  have rests (t u : State) (h : u.pdc.rests = t.pdc.rests) (i : (t.pump p).PeriodEnds) : (u.pump p).PeriodEnds := by
    rw [pump_of_rests h]; exact i
  have settles (t : State) (i : (t.pump p).PeriodEnds) : (t.settle.pump p).PeriodEnds := settle_periodEnds i
  exact read_brings (A := fun _ => True) (B := fun t => (t.pump p).PeriodEnds) (fun t _ => pdcReads_periodEnds t p)
    (fun t => ⟨id, twuReads_keeps (I := fun t => (t.pump p).PeriodEnds) rests settles before⟩)
    (fun t => ⟨id, swcReads_keeps (I := fun t => (t.pump p).PeriodEnds) rests settles⟩) k trivial

/-! ## The period of a pump that stays in STARTING or RUNNING -/

/-- A pump of which no evaluation makes a start, with the period that it has while it stays in the state `σ`. -/
structure Pump.Margin (σ : PumpState) (seconds : Nat) (period : Option LowPeriod) (q : Pump) : Prop where
  stays : q.state = .starting ∨ seconds ≠ 0
  moves : q.state ≠ .stopped
  margin : q.state = σ → q.lowMargin = period

theorem Pump.Margin.afterOrder {σ : PumpState} {n : Nat} {m : Option LowPeriod} {q : Pump}
    (commanded : σ = .starting ∨ σ = .running) (h : q.Margin σ n m) (o : StopOrigin) : (q.afterOrder o n).Margin σ n m := by
  unfold Pump.afterOrder
  split
  · next running =>
    have counts : n ≠ 0 := h.stays.resolve_left (by rw [running]; nofun)
    split
    · refine ⟨.inr counts, nofun, ?_⟩
      rintro rfl
      rcases commanded with h | h <;> cases h
    · have state : ((q.stopOrdered o none).stopDone n).state = .recovering := if_neg counts
      refine ⟨.inr counts, by rw [state]; nofun, ?_⟩
      rw [state]
      rintro rfl
      rcases commanded with h | h <;> cases h
  · exact h

/-- The recovery time and the period, as one pump has them. -/
def State.MarginOf (s : State) (p : PumpId) (σ : PumpState) (seconds : Nat) (period : Option LowPeriod) : Prop :=
  s.recoverySeconds p = seconds ∧ (s.pump p).Margin σ seconds period

section Stays
variable {σ : PumpState} {n : Nat} {m : Option LowPeriod}

theorem marginOf_rests (t u : State) (h : u.pdc.rests = t.pdc.rests) (i : t.MarginOf p σ n m) : u.MarginOf p σ n m := by
  unfold State.MarginOf
  rw [recoverySeconds_of_rests h, pump_of_rests h]
  exact i

theorem marginOf_settle (commanded : σ = .starting ∨ σ = .running) (t : State) (i : t.MarginOf p σ n m) :
    t.settle.MarginOf p σ n m := by
  obtain ⟨rfl, margin⟩ := i
  refine ⟨DutyFrame_recoverySeconds (t.settle_duty fun _ => True) p, ?_⟩
  exact settle_pump (fun _ h => h.moves) (fun _ o h => h.afterOrder commanded o) margin

/-- The period after a scan event, by the record. -/
def Lau.periodOf (l : Lau) (p : PumpId) (m : Option LowPeriod) : Option LowPeriod :=
  if l.record.margins[p] < 0 ∧ l.record.wells[bayOfPump p].unknown = false then some (m.getD ⟨0, false⟩) else none

theorem marginOf_pdcReads (commanded : σ = .starting ∨ σ = .running) (t : State) (i : t.MarginOf p σ n m) :
    t.pdcReads.MarginOf p σ n (t.lau.periodOf p m) := by
  obtain ⟨seconds, stays, moves, margin⟩ := i
  refine marginOf_settle commanded _ ⟨(foldl_marginPeriod_recovery t p).trans seconds, ?_⟩
  rw [State.pump_evaluationFollows, foldl_marginPeriod_pump]
  refine ⟨stays, moves, fun state => ?_⟩
  have on : (t.pump p).state.commanded = true := by
    change (t.pump p).state = σ at state
    rw [state]
    rcases commanded with rfl | rfl <;> rfl
  simp only [Pump.period, Lau.periodOf, margin state, on, Bool.and_true, Bool.and_eq_true, decide_eq_true_eq,
    Bool.not_eq_true']

theorem read_marginOf (commanded : σ = .starting ∨ σ = .running) (k : Nat) (i : s.MarginOf p σ n m) :
    (State.read before k s).MarginOf p σ n (s.lau.periodOf p m) := by
  have settles (m' : Option LowPeriod) := marginOf_settle (p := p) (n := n) (m := m') commanded
  refine read_brings (A := fun t => t.lau = s.lau ∧ t.MarginOf p σ n m) (B := fun t => t.MarginOf p σ n (s.lau.periodOf p m))
    (fun t i => i.1 ▸ marginOf_pdcReads commanded t i.2)
    (fun t => ⟨fun i => ⟨(State.twuReads_reads (before := before) t).frame.core.lau.trans i.1, ?_⟩, ?_⟩)
    (fun t => ⟨fun i => ⟨(State.swcReads_reads (before := before) t).frame.core.lau.trans i.1, ?_⟩, ?_⟩) k ⟨rfl, i⟩
  · exact twuReads_keeps (I := fun t => t.MarginOf p σ n m) marginOf_rests (settles m) before i.2
  · exact twuReads_keeps (I := fun t => t.MarginOf p σ n (s.lau.periodOf p m)) marginOf_rests (settles _) before
  · exact swcReads_keeps (I := fun t => t.MarginOf p σ n m) marginOf_rests (settles m) i.2
  · exact swcReads_keeps (I := fun t => t.MarginOf p σ n (s.lau.periodOf p m)) marginOf_rests (settles _)

end Stays

/-! ## The scan event -/

theorem publishRecord_rests (s : State) : s.publishRecord.pdc.rests = s.pdc.rests := by
  unfold State.publishRecord
  dsimp only
  split <;> rfl

theorem scanEnd_periodEnds (s : State) (p : PumpId) : (s.scanEnd.pump p).PeriodEnds := read_periodEnds _ _ p

theorem scanEnd_margin (stays : (s.pump p).state = .starting ∨ ((s.pump p).state = .running ∧ s.recoverySeconds p ≠ 0))
    (same : (s.scanEnd.pump p).state = (s.pump p).state) :
    (s.scanEnd.pump p).lowMargin = s.scanEnd.lau.periodOf p (s.pump p).lowMargin := by
  have commanded : (s.pump p).state = .starting ∨ (s.pump p).state = .running := stays.imp_right fun h => h.1
  have own : s.MarginOf p (s.pump p).state (s.recoverySeconds p) (s.pump p).lowMargin :=
    ⟨rfl, stays.imp_right fun h => h.2, by rcases commanded with h | h <;> rw [h] <;> nofun, fun _ => rfl⟩
  have read := read_marginOf (before := s.lau.record.cls) commanded (s.publishRecord.choice 6)
    (marginOf_rests s s.publishRecord.drawn (publishRecord_rests s) own)
  have lau : s.scanEnd.lau = s.publishRecord.drawn.lau :=
    (State.read_reads (before := s.lau.record.cls) s.publishRecord.drawn _).frame.core.lau
  rw [lau]
  exact read.2.margin same

end Sys2Proof.Machine
end

section
/-! PROOFS. The rotation timer, the low-level stop, and the scopes with their shed timers (R135, R146, R147, R150, R152):
O42. -/

namespace Sys2Proof.Machine

variable {s t : State} {p : PumpId} {m : LowPeriod} {stop : Notice} {k : ScopeId}

/-! ## The rotation timer (R135) -/

theorem rotate_tail (v : Vector PumpId 8) : (rotate v).toList = v.toList.tail ++ v.toList.take 1 := by
  rw [rotate_toList, List.rotate_eq_drop_append_take (by rw [Vector.length_toList]; decide), List.drop_one]

/-- The part with its duty order list rotated. -/
def State.rotated (s : State) : State :=
  ((s.onPdc fun d => { d with order := rotate d.order, rotationTimer := 0, changeover := true }).notify .status .rotated
    (s.pdc.order[1].val + 1) 0 (s.pdc.order[0].val + 1 : Nat) 0).evaluationFollows

theorem rotationTimerExpiry_rotates (phase : s.phase = .running) (on : s.pdc.rotationInterval ≠ 0)
    (elapsed : s.pdc.rotationInterval * 3600000 ≤ s.pdc.rotationTimer) :
    exec .rotationTimerExpiry s = .next s.rotated.settle := by
  have due : s.pdc.rotationDue = true := by
    simp only [Pdc.rotationDue, reached, Bool.and_eq_true, decide_eq_true_eq]
    exact ⟨on, by rw [Nat.mul_assoc]; exact elapsed⟩
  have exec : exec .rotationTimerExpiry s = execRotationTimerExpiry s := rfl
  rw [exec, execRotationTimerExpiry, if_pos (by simp [State.active, phase, due])]
  rfl

theorem rotated_order (s : State) : s.rotated.settle.pdc.order = rotate s.pdc.order := by
  rw [(State.settle_duty s.rotated fun _ => True).order]
  rfl

theorem rotated_slp (room : s.slp.notices.length < 32) : s.rotated.slp = { s.slp with
    notices := s.slp.notices ++ [⟨.status, .rotated, s.pdc.order[1].val + 1, 0, (s.pdc.order[0].val + 1 : Nat), 0, s.stamp⟩]
    quietMs := 0, quietOut := false } := by
  have queued : s.rotated.slp = s.slp.enqueue
    ⟨.status, .rotated, s.pdc.order[1].val + 1, 0, (s.pdc.order[0].val + 1 : Nat), 0, s.stamp⟩ := rfl
  rw [queued, Slp.enqueue_room _ room]
  rfl

theorem rotated_link (s : State) : s.LinkFrame s.rotated := by
  have told := State.notify_link s .status .rotated (s.pdc.order[1].val + 1) 0 (s.pdc.order[0].val + 1 : Nat) 0
  exact told.trans (.of_eq (by rfl))

/-- Neither a stop order nor the evaluations of MANUAL make a start. -/
theorem orderStop_starting (s : State) (p x : PumpId) (o : StopOrigin) :
    ((s.orderStop p o none).pump x).state = .starting ↔ (s.pump x).state = .starting := by
  obtain same | ordered := orderStop_orders s p x o
  · rw [same]
  · rw [ordered, Pump.afterOrder]
    split
    · next running =>
      rw [running]
      split
      · exact ⟨nofun, nofun⟩
      · refine ⟨fun h => ?_, nofun⟩
        change (if s.recoverySeconds x = 0 then PumpState.stopped else .recovering) = .starting at h
        split at h <;> cases h
    · rfl

theorem settle_starting (manual : s.pdc.mode = .manual) (x : PumpId) :
    (s.settle.pump x).state = .starting ↔ (s.pump x).state = .starting :=
  manual_settle (I := fun t => (t.pump x).state = .starting ↔ (s.pump x).state = .starting) (fun _ i => i)
    (fun _ _ _ i => i) (fun t p o i => (orderStop_starting t p x o).trans i) manual Iff.rfl

/-! ## The low-level stop (R150) -/

/-- LOW_LEVEL_STOP as it is queued. -/
def State.lowNotice (s : State) (p : PumpId) : Notice :=
  ⟨.alarm, .lowLevelStop, p.val + 1, 0, max (-32767) (min 32767 s.lau.record.margins[p]), (p.val / 3 + 1 : Nat), s.stamp⟩

theorem lowLevelStop_eq (s : State) (p : PumpId) : s.lowLevelStop p =
    (s.notify .alarm .lowLevelStop (p.val + 1) 0 (max (-32767) (min 32767 s.lau.record.margins[p]))
      (p.val / 3 + 1 : Nat)).orderStop p .lowLevel none := by
  rw [State.lowLevelStop, limited_eq, bayOfPump_val]

theorem lowLevelStop_notice (room : s.slp.notices.length < 32) (p : PumpId) :
    s.lowNotice p ∈ (s.lowLevelStop p).settle.slp.notices := by
  refine (State.settle_duty _ fun _ => True).link.notices _ ?_ rfl
  rw [lowLevelStop_eq]
  refine (State.orderStop_duty _ p .lowLevel none fun _ => True).link.notices _ ?_ rfl
  rw [State.notify_room _ _ _ _ _ _ _ room]
  exact List.mem_append_right _ (List.mem_singleton_self _)

theorem lowLevelStop_pump (running : (s.pump p).state = .running) (fed : (s.pump p).feedback = true) :
    (s.lowLevelStop p).settle.pump p = (s.pump p).stopOrdered .lowLevel none := by
  have ordered : (s.lowLevelStop p).pump p = (s.pump p).stopOrdered .lowLevel none := by
    rw [State.lowLevelStop, pump_orderStop_fed (by rw [State.pump_notify]; exact running)
      (by rw [State.pump_notify]; exact fed), State.pump_notify]
  rw [settle_pump_still (by rw [ordered]; nofun) (by rw [ordered]; nofun), ordered]

theorem lowLevelStop_runs (phase : s.phase = .running) (low : (s.pump p).lowMargin = some m)
    (due : s.pdc.tripDelay * 1000 ≤ m.ms ∨ m.due = true) (running : (s.pump p).state = .running) :
    exec (.lowLevelStop p) s = .next (s.lowLevelStop p).settle := by
  have now : s.lowLevelDue p = true := State.lowLevelDue_iff.2 ⟨m, low, due.symm⟩
  have falls : s.lowLevelFalls p = true := by simp [State.lowLevelFalls, low, now, running]
  have acts : s.lowLevelActs p = s.lowLevelStop p := if_pos running
  rw [← acts]
  exact congrArg Host.Outcome.next (if_pos (by simp [State.active, phase, falls]))

/-- The low-level stop of a STARTING pump falls due, once, and waits. -/
theorem lowLevelStop_waits (phase : s.phase = .running) (low : (s.pump p).lowMargin = some m)
    (due : s.pdc.tripDelay * 1000 ≤ m.ms ∨ m.due = true) (starting : (s.pump p).state = .starting)
    (still : s.pdc.evaluationDue = false) :
    exec (.lowLevelStop p) s = .next (s.onPump p fun q => { q with lowMargin := some ⟨m.ms, true⟩ }) := by
  have now : s.lowLevelDue p = true := State.lowLevelDue_iff.2 ⟨m, low, due.symm⟩
  have exec : exec (.lowLevelStop p) s = execLowLevelStop p s := rfl
  rw [exec, execLowLevelStop]
  split
  · have acts : s.lowLevelActs p = s.onPump p fun q => { q with lowMargin := some ⟨m.ms, true⟩ } := by
      rw [State.lowLevelActs, if_neg (by rw [starting]; nofun)]
      refine onPump_congr ?_
      rw [low]
      rfl
    rw [acts, settle_still (by exact still)]
  · next fell =>
    have held : m.due = true := by simpa [State.active, phase, State.lowLevelFalls, low, now, starting] using fell
    have same : (s.onPump p fun q => { q with lowMargin := some ⟨m.ms, true⟩ }) = s := by
      refine (onPump_congr ?_).trans (onPump_self s p)
      rw [← held, ← low]
    rw [same]

/-- A low-level stop that waited is made at the entry into RUNNING (R150). -/
theorem enterRunning_low (low : (s.pump p).lowMargin = some m) (due : s.pdc.tripDelay * 1000 ≤ m.ms ∨ m.due = true)
    (pair : ∀ pr, s.pdc.pair = some pr → pr.b ≠ p) : s.enterRunning p = (s.runBegun p).lowLevelStop p := by
  have begun : (s.runBegun p).pdc.pair = s.pdc.pair := by
    rw [State.runBegun, State.complete_pdc]
    exact (fields_of_starts (publishRunning_starts _)).2.2.2.2
  have trip : (s.runBegun p).pdc.tripDelay = s.pdc.tripDelay := (congrArg Pdc.tripDelay (runBegun_duty s p).pump.pdc :)
  have now : (s.runBegun p).lowLevelDue p = true := by
    rw [State.lowLevelDue_iff, pump_runBegun_self, trip]
    exact ⟨m, low, due.symm⟩
  rw [enterRunning_eq, changeoverStop_none (by rw [begun]; exact pair), if_pos now]

/-! ## The scopes (R146) -/

theorem scopeBay_of_val {b : BayId} (h : k.val = b.val) : k ≠ 3 ∧ scopeBay k = b := by
  revert k b
  decide

theorem scopeLimit_device (device : k.val = 3) : s.scopeLimit k = s.deviceLimit := if_pos (Fin.ext device)

theorem deviceLoad_pos (commanded : (s.pump p).state.commanded = true) : 0 < s.deviceLoad := by
  refine List.length_pos_of_mem (a := p) (List.mem_filter.2 ⟨?_, commanded⟩)
  rw [allPumps_eq]
  exact List.mem_finRange p

theorem scopeLoad_pair {pr : Pair} (device : k.val = 3) (pair : s.pdc.pair = some pr)
    (starting : (s.pump pr.b).state = .starting) : s.scopeLoad k + 1 = s.deviceLoad := by
  have on : s.pairStarting = true := by rw [State.pairStarting, pair]; simp [starting]
  have load := deviceLoad_pos (s := s) (p := pr.b) (by rw [starting]; rfl)
  rw [State.scopeLoad, if_pos (Fin.ext device), on]
  change s.deviceLoad - 1 + 1 = s.deviceLoad
  omega

theorem scopeLoad_alone (device : k.val = 3) (none : ∀ pr, s.pdc.pair = some pr → (s.pump pr.b).state ≠ .starting) :
    s.scopeLoad k = s.deviceLoad := by
  have off : s.pairStarting = false := by
    unfold State.pairStarting
    split
    · next pr pair => simpa using none pr pair
    · rfl
  rw [State.scopeLoad, if_pos (Fin.ext device), off]
  rfl

theorem inExcess_iff : s.inExcess k = true ↔ ∃ l, s.scopeLimit k = some l ∧ l < s.scopeLoad k := by
  unfold State.inExcess
  cases s.scopeLimit k <;> simp

theorem updateScope_rests (within : s.inExcess k = false) : s.updateScope k = s.onScope k fun _ => ⟨none, .none⟩ :=
  if_neg (by rw [within]; decide)

section Excess
variable (excess : s.inExcess k = true)
include excess

theorem updateScope_begins (idle : s.pdc.scopes[k] = ⟨none, .none⟩) :
    s.updateScope k = s.onScope k fun _ => ⟨some 0, .none⟩ := by
  have set : (s.onScope k fun sc => { sc with timer := some 0 }) = s.onScope k fun _ => ⟨some 0, .none⟩ := by
    unfold State.onScope State.onPdc
    dsimp only
    rw [idle]
  rw [State.updateScope, if_pos excess, ← set]
  rw [idle]

theorem updateScope_counts {ms : Nat} (counts : s.pdc.scopes[k] = ⟨some ms, .none⟩) : s.updateScope k = s := by
  rw [State.updateScope, if_pos excess, counts]

theorem updateScope_due (due : s.pdc.scopes[k].due ≠ .none) : s.updateScope k = s.makeDue k := by
  rw [State.updateScope, if_pos excess]
  cases state : s.pdc.scopes[k].due with
  | none => exact absurd state due
  | waiting => rfl
  | held => rfl

end Excess

/-! ## The shed timer (R146, R147, R152) -/

theorem shedTimerExpiry_falls {ms : Nat} (phase : s.phase = .running) (timer : s.pdc.scopes[k].timer = some ms)
    (elapsed : s.pdc.shedDelay * 1000 ≤ ms) : exec (.shedTimerExpiry k) s = .next (s.fallDue k).settle := by
  have exec : exec (.shedTimerExpiry k) s = execShedTimerExpiry k s := rfl
  rw [exec, execShedTimerExpiry, timer]
  exact congrArg Host.Outcome.next (if_pos (by simp [State.active, phase, reached, elapsed]))

/-- The candidate is the latest in the duty order among the scope's loaded pumps. -/
theorem candidate_latest {before after : List PumpId} (order : s.pdc.order.toList = before ++ p :: after)
    (inside : inScope k p = true) (loaded : (s.pump p).state = .running ∨ (s.pump p).state = .starting)
    (latest : ∀ x ∈ after, inScope k x = true → (s.pump x).state ≠ .running ∧ (s.pump x).state ≠ .starting) :
    s.candidate k = some p := by
  have later : after.reverse.find? (fun x => inScope k x && (s.pump x).state.commanded) = none := by
    refine List.find?_eq_none.2 fun x hx => ?_
    rw [Bool.and_eq_true]
    rintro ⟨scope, commanded⟩
    obtain ⟨running, starting⟩ := latest x (List.mem_reverse.1 hx) scope
    cases state : (s.pump x).state
    case starting => exact starting state
    case running => exact running state
    all_goals rw [state] at commanded; cases commanded
  have own : (inScope k p && (s.pump p).state.commanded) = true := by
    rw [inside]
    rcases loaded with h | h <;> rw [h] <;> rfl
  rw [State.candidate, order, List.reverse_append, List.reverse_cons, List.append_assoc, List.find?_append, later]
  exact List.find?_cons_of_pos (p := fun x => inScope k x && (s.pump x).state.commanded) own

section Candidate
variable (candidate : s.candidate k = some p)
include candidate

theorem makeDue_waits (starting : (s.pump p).state = .starting) :
    s.makeDue k = s.onScope k fun _ => { timer := none, due := .waiting } := by
  rw [State.makeDue, candidate]
  exact if_pos starting

theorem makeDue_held (running : (s.pump p).state = .running) (held : s.pdc.headerHeld = true) (one : s.runningNow = 1) :
    s.makeDue k = s.onScope k fun _ => { timer := none, due := .held p } := by
  have blocked : s.blocked p = true := by simp [State.blocked, held, running, one]
  rw [State.makeDue, candidate]
  dsimp only
  rw [if_neg (by rw [running]; nofun), if_pos blocked]

theorem makeDue_orders (running : (s.pump p).state = .running) (free : ¬ (s.pdc.headerHeld = true ∧ s.runningNow = 1)) :
    s.makeDue k = (s.onScope k fun _ => {}).orderStop p (s.scopeOrigin k) none := by
  have unblocked : ¬ s.blocked p = true := fun blocked => free (by
    simp only [State.blocked, Bool.and_eq_true, decide_eq_true_eq] at blocked
    exact ⟨blocked.1.1, blocked.2⟩)
  rw [State.makeDue, candidate]
  dsimp only
  rw [if_neg (by rw [running]; nofun), if_neg unblocked]

end Candidate

theorem scopeOrigin_ceiling (bay : ¬ k.val = 3) : s.scopeOrigin k = .ceiling := if_neg fun device => bay (congrArg Fin.val device)

theorem scopeOrigin_uncapped (device : k.val = 3) (cap : s.twu.condition.cap = none) : s.scopeOrigin k = .demand := by
  rw [State.scopeOrigin, if_pos (Fin.ext device), cap]

theorem scopeOrigin_capped {c : Nat} (device : k.val = 3) (cap : s.twu.condition.cap = some c) :
    s.scopeOrigin k = if c < s.scopeLoad k then .cap else .demand := by
  rw [State.scopeOrigin, if_pos (Fin.ext device), cap]

/-- Settles O42, each timer by its own rules. -/
theorem dutyTimersAct : Obligations.DutyTimersAct := by
  refine ⟨fun s phase on elapsed => ?_, fun s sc phase scan done => ?_, fun s p m stop phase low due said => ?_,
    fun s k => ?_, fun s k ms p before after phase timer elapsed excess order inside loaded latest => ?_⟩
  · have order := rotated_order s
    have due : s.NoDueStop → s.rotated.NoDueStop := id
    refine ⟨_, s.rotated, rotationTimerExpiry_rotates phase on elapsed, rfl, by rw [order, rotate_tail],
      (State.settle_duty s.rotated fun _ => True).rotationTimer, by rw [order]; rfl, rotated_slp, fun none barred => ?_,
      rotated_link s, State.settle_duty _ _, fun manual => ?_⟩
    · have quiet := settle_quiet (due none) (barred.imp_right .inl)
      rw [quiet.blocks.2.2.2]
    · obtain ⟨queue, -, -, changeover, -⟩ := fields_of_starts (settle_starts (s := s.rotated) manual)
      exact ⟨changeover, queue, fun x => settle_starting (s := s.rotated) manual x⟩
  · refine ⟨_, scanEvent_ends phase scan done, fun p => scanEnd_periodEnds s p, fun p stays same => ?_⟩
    exact scanEnd_margin stays same
  · subst said
    refine ⟨fun running => ⟨_, lowLevelStop_runs phase low due running, lowLevelStop_pump running,
        fun room => lowLevelStop_notice room p,
        (State.lowLevelStop_duty s p fun x => x = p).trans (State.settle_duty _ _)⟩,
      lowLevelStop_waits phase low due, fun starting low' pair => ?_⟩
    have fed : (s.onPump p fun q => { q with feedback := true }).pump p = { s.pump p with feedback := true } :=
      State.pump_onPump_self p _ s
    have enters := enterRunning_low (s := s.onPump p fun q => { q with feedback := true }) (p := p) (by rw [fed]; exact low)
      due pair
    have begun := pump_runBegun_self (s.onPump p fun q => { q with feedback := true }) p
    rw [fed] at begun
    refine ⟨_, pfbRising_starts low' phase starting, ?_, fun room => ?_⟩
    · rw [enters, lowLevelStop_pump (by rw [begun]) (by rw [begun]), begun]
      rfl
    · rw [enters]
      have notices := runBegun_notices (s := s.onPump p fun q => { q with feedback := true })
        (by change s.slp.notices.length < 32; omega) p
      have queued := lowLevelStop_notice (s := (s.onPump p fun q => { q with feedback := true }).runBegun p)
        (by rw [notices, List.length_append]; change s.slp.notices.length + 1 < 32; omega) p
      have frame := runBegun_duty (s.onPump p fun q => { q with feedback := true }) p
      rw [State.lowNotice, frame.core.lau, frame.stamp] at queued
      exact queued
  · refine ⟨fun b val => ?_, fun device => ⟨scopeLimit_device device, fun pr => scopeLoad_pair device, scopeLoad_alone device⟩,
      inExcess_iff, updateScope_rests, updateScope_begins, fun ms excess => updateScope_counts excess, updateScope_due,
      fun ms phase within still timer elapsed => ?_⟩
    · obtain ⟨other, bay⟩ := scopeBay_of_val val
      rw [State.scopeLoad, State.scopeLimit, if_neg other, if_neg other, bay]
      exact ⟨rfl, rfl⟩
    · have given : s.fallDue k = s.onScope k fun _ => ⟨none, .none⟩ := if_neg (by rw [within]; decide)
      rw [shedTimerExpiry_falls phase timer elapsed, given, settle_still (by exact still)]
  · have candidate := candidate_latest order inside loaded latest
    have falls : s.fallDue k = s.makeDue k := if_pos excess
    refine ⟨_, shedTimerExpiry_falls phase timer elapsed, (s.fallDue_duty k _).trans (State.settle_duty _ _),
      fun running free fed => ?_, fun still starting => ?_, fun still running held one => ?_⟩
    · have ordered : (s.fallDue k).pump p = (s.pump p).stopOrdered (s.scopeOrigin k) none := by
        rw [falls, makeDue_orders candidate running free]
        exact pump_orderStop_fed (s := s.onScope k fun _ => {}) running fed _ _
      rw [settle_pump_still (by rw [ordered]; nofun) (by rw [ordered]; nofun), ordered]
      refine congrArg (fun o => (s.pump p).stopOrdered o none) ?_
      split
      · next device =>
        cases cap : s.twu.condition.cap with
        | none => exact scopeOrigin_uncapped device cap
        | some c => exact scopeOrigin_capped device cap
      · next bay => exact scopeOrigin_ceiling bay
    · rw [falls, makeDue_waits candidate starting, settle_still (by exact still)]
    · rw [falls, makeDue_held candidate running held one, settle_still (by exact still)]

end Sys2Proof.Machine
end
